-- ==== Sys2Proof/Word.lean ====
section
/-! DEFINITION. The word types of the WKC44: the byte of both links and of every stored section, and the 12-bit
converter code of chapter 7. -/
namespace Sys2Proof

/-- One byte of a frame, an envelope or a stored section. -/
abbrev Byte := BitVec 8

/-- One code of the Sense Unit's converters, 0..4095 (chapter 7). -/
abbrev Code := BitVec 12

end Sys2Proof
end

