-- ==== Sys2Proof/Syntax.lean ====
section
/-! DEFINITION. The commands of the WKC44: one constructor of `Instr` for each row of spec/opcode_table.json, with the
operands that the row's rule gives it. The names of sources, functions, wheels and profile sections stand here too. -/
namespace Sys2Proof

/-- The two masters (Terms): the sources reached through a link. -/
inductive Master where
  | radio
  | companion
deriving DecidableEq, Repr

/-- The seven vehicle functions, in function order 0..6 (Shared names). -/
inductive Fn where
  | drive
  | steer
  | steermode
  | winch
  | drag
  | range
  | scene
deriving DecidableEq, Repr

/-- The four wheels (Terms). -/
inductive Wheel where
  | fl
  | fr
  | rl
  | rr
deriving DecidableEq, Repr

/-- The eleven profile sections, in section order 0..10 (Shared names). -/
inductive Sect where
  | sources
  | map
  | authority
  | failsafe
  | geometry
  | drive
  | winch
  | pack
  | lamps
  | scenes
  | reply
deriving DecidableEq, Repr

/-- One item of a radio frame, as its three bytes arrive (section 10.6): tag byte, value bits 7-0, value bits 11-8. -/
structure RadioItem where
  tagByte : Byte
  low : Byte
  high : Byte
deriving DecidableEq, Repr

/-- A whole radio frame after its sync byte (section 10.6): the header byte, the items and the CRC field as received.
Its length byte is 3 + 3n for its n items. -/
structure RadioFrame where
  header : Byte
  items : List RadioItem
  crc : BitVec 16
deriving DecidableEq, Repr

/-- One function and value pair of a DEMAND request (section 10.6). -/
structure DemandPair where
  fn : Byte
  value : BitVec 16
deriving DecidableEq, Repr

/-- One pattern step as its five bytes arrive (section 10.6). -/
structure StepBytes where
  mask : Byte
  level : BitVec 16
  duration : Byte
  marks : Byte
deriving DecidableEq, Repr

/-- The six converter codes of one current sweep, in sweep order (R118). -/
structure CurrentCodes where
  pack : Code
  fl : Code
  fr : Code
  rl : Code
  rr : Code
  winch : Code
deriving DecidableEq, Repr

/-- The converter codes of a lead check's two conversions of one tap (R123). -/
structure LeadCodes where
  high : Code
  low : Code
deriving DecidableEq, Repr

/-- The levels of the input pins that start-up reads: the hook switch (R102), the two encoder phases (R100) and whether
SEL is already low (R168). -/
structure Pins where
  hookClosed : Bool
  encA : Bool
  encB : Bool
  selLow : Bool
deriving DecidableEq, Repr

/-- The commands of the block, one constructor per row of spec/opcode_table.json, in the table's order. -/
inductive Instr where
  /-- RADIO_FRAME (R162): a whole frame ends at its last byte. -/
  | radioFrame (frame : RadioFrame)
  /-- INTER_BYTE_GAP (R161): more than 1 ms passed inside a frame; `ended` is the byte that ended the gap. -/
  | interByteGap (ended : Byte)
  /-- REPLY_DELAY_EXPIRY (R163). -/
  | replyDelayExpiry
  /-- REPLY_END (R161). -/
  | replyEnd
  /-- SILENCE_TIMER_EXPIRY (R9), of the master named. -/
  | silenceTimerExpiry (master : Master)
  /-- COMPANION_TRANSFER (R164): SEL rises after the whole bytes `mosi` were clocked in (and as many clocked out);
  `pins` are the input levels a restart taken at this rise reads. -/
  | companionTransfer (mosi : List Byte) (pins : Pins)
  /-- DEMAND (R28). -/
  | demand (pairs : List DemandPair)
  /-- GRANT (R52). -/
  | grant (fn : Byte) (duration : BitVec 16)
  /-- RELEASE (R54). -/
  | release (fn : Byte)
  /-- STATUS_READ (R47). -/
  | statusRead (page : Byte)
  /-- TELEMETRY_READ (R165). -/
  | telemetryRead (page : Byte)
  /-- NOTICE_TAKE (R171). -/
  | noticeTake
  /-- CAUSE_TAKE (R16). -/
  | causeTake
  /-- FLAGS_SET (R17). -/
  | flagsSet (flags : Byte)
  /-- PROFILE_WRITE (R172): the section number, then the section's bytes, or for SCENES the scene number and its bytes. -/
  | profileWrite (sect : Byte) (body : List Byte)
  /-- PROFILE_READ (R174): the section number, and for SCENES the scene number. -/
  | profileRead (sect : Byte) (scene : Option Byte)
  /-- PATTERN_WRITE (R152); the payload's step count is the number of steps. -/
  | patternWrite (bank : Byte) (first : Byte) (steps : List StepBytes)
  /-- BANK_SWITCH (R151). -/
  | bankSwitch
  /-- WINCH_ZERO (R103). -/
  | winchZero
  /-- CHECK_LEADS (R125). -/
  | checkLeads
  /-- RESTART (R177). -/
  | restart
  /-- STORE_COMPLETE (R173): `matched` says whether the copy read back equals the live section. -/
  | storeComplete (matched : Bool)
  /-- POWER_ON (R175). -/
  | powerOn (pins : Pins)
  /-- SUPPLY_DIP (R175). -/
  | supplyDip (pins : Pins)
  /-- SLOT_STALE (R24), of the master's slot for the function. -/
  | slotStale (master : Master) (fn : Fn)
  /-- GRANT_EXPIRY (R53). -/
  | grantExpiry (fn : Fn)
  /-- BLEND_STEP (R49). -/
  | blendStep (fn : Fn)
  /-- STEERING_UPDATE (R60). -/
  | steeringUpdate
  /-- HALL_EDGE (R78): `micros` is the time since that input's previous edge, in µs. -/
  | hallEdge (wheel : Wheel) (micros : Nat)
  /-- SPEED_TIMEOUT (R79). -/
  | speedTimeout (wheel : Wheel)
  /-- WHEEL_UPDATE (R81). -/
  | wheelUpdate (wheel : Wheel)
  /-- CURRENT_SWEEP_START (R118). -/
  | currentSweepStart
  /-- CURRENT_SWEEP_COMPLETE (R118). -/
  | currentSweepComplete (codes : CurrentCodes)
  /-- TRIP_RETRY_EXPIRY (R93). -/
  | tripRetryExpiry (wheel : Wheel)
  /-- LOCKOUT_CLEAR_EXPIRY (R95). -/
  | lockoutClearExpiry (wheel : Wheel)
  /-- STILL_TIMER_EXPIRY (R96). -/
  | stillTimerExpiry
  /-- ENCODER_EDGE (R100): the levels of the two phases after the edge. -/
  | encoderEdge (a : Bool) (b : Bool)
  /-- HOOK_CLOSING (R102): the filtered HOOK input closes. -/
  | hookClosing
  /-- WINCH_UPDATE (R107). -/
  | winchUpdate
  /-- STALL_TIMER_EXPIRY (R111). -/
  | stallTimerExpiry
  /-- STALL_CLEAR_EXPIRY (R112). -/
  | stallClearExpiry
  /-- CELL_SWEEP_SLOT_START (R120). -/
  | cellSweepSlotStart
  /-- CELL_SWEEP_COMPLETE (R121): the codes of taps 1 to 6; those of taps the sweep does not convert are not read. -/
  | cellSweepComplete (codes : Vector Code 6)
  /-- LEAD_CHECK_COMPLETE (R124): the codes of taps 1 to 6; those of taps the sweep does not take are not read. -/
  | leadCheckComplete (codes : Vector LeadCodes 6)
  /-- CUTOFF_DWELL_EXPIRY (R134). -/
  | cutoffDwellExpiry
  /-- RECOVERY_DWELL_EXPIRY (R138). -/
  | recoveryDwellExpiry
  /-- APPORTIONMENT (R143). -/
  | apportionment
  /-- BLINK_TOGGLE (R153). -/
  | blinkToggle
  /-- STEP_TIMER_EXPIRY (R150). -/
  | stepTimerExpiry
  /-- BAD_LENGTH_BYTE (R161): the length byte that arrived after a sync byte. -/
  | badLengthByte (length : Byte)
  /-- SEL_FALL (R164). -/
  | selFall
  /-- HOOK_OPENING (R102): the filtered HOOK input opens. -/
  | hookOpening
deriving DecidableEq, Repr

/-- The functions in function order. -/
def Fn.all : List Fn := [.drive, .steer, .steermode, .winch, .drag, .range, .scene]

/-- The wheels in order. -/
def Wheel.all : List Wheel := [.fl, .fr, .rl, .rr]

end Sys2Proof
end

