-- ==== Sys2Proof/Config.lean ====
section
/-! DEFINITION. What the manual fixes for every WKC44 (times and bounds it states as constants), and the one value it
leaves open: what a field of a record carries when its number does not fit the field. -/
namespace Sys2Proof

/-- The du of full scale, in permille (Units). -/
def Config.fullScale : Int := 1000

/-- A wheel with no accepted hall edge for this many ms has speed 0 (R79). -/
def Config.speedTimeout : Nat := 250

/-- Below this many µs a hall interval is noise (R78). -/
def Config.hallNoise : Nat := 50

/-- The retry timer of a TRIPPED channel, in ms (R92). -/
def Config.retryTime : Nat := 200

/-- Consecutive samples above the trip level that trip a channel (R91). -/
def Config.tripSamples : Nat := 3

/-- The still timer's time to parked, in ms (R96). -/
def Config.stillTime : Nat := 500

/-- Period of the four wheel update timers, in ms (R81). -/
def Config.wheelPeriod : Nat := 2

/-- Period of the winch update timer, in ms (R107). -/
def Config.winchPeriod : Nat := 5

/-- Period of the apportionment timer, in ms (R142). -/
def Config.apportionPeriod : Nat := 4

/-- Period of the current sweep timer, in ms (R118). -/
def Config.currentPeriod : Nat := 1

/-- Period of the tap converter's slots, in ms (R120). -/
def Config.slotPeriod : Nat := 20

/-- Period of the blend steps, in ms (R49). -/
def Config.blendPeriod : Nat := 10

/-- The most the allowance in force rises at one apportionment, in mA (R141). -/
def Config.allowanceRise : Nat := 200

/-- Time of one byte on the radio line, in µs (section 10.1). -/
def Config.byteTime : Nat := 40

/-- A raw radio value at or above this sets a crew flag or the bar (R11, R17, R34). -/
def Config.switchThreshold : Nat := 2048

/-- The bytes of a record's field whose number falls outside the range section 10.6 gives the field (a payout of more
millimetres than four bytes hold, for example). The manual states no result there: DESIGN CHOICE, a free value with no
body, applied to the field's width in bytes and to the number. -/
opaque Config.outOfField : Nat → Int → Nat

/-- A reading of a tap's last check pair as telemetry shows it while the check that takes the tap is in flight. The pair
changes as the tap is taken, and the manual gives no moment for each tap and no code before the completion (R123): DESIGN
CHOICE, a free value with no body, applied to the companion's accepted count, which every read advances, and to the
reading's place (log entry 42). -/
opaque Config.pairMidCheck : Nat → Nat → BitVec 16

end Sys2Proof
end

