-- ==== Sys2Proof/Machine/Layout.lean ====
section
/-! DEFINITION. The byte layouts of section 10.6: the field encoding of numbers, flags and sets, the CRC-16, and the
arithmetic of the manual (truncation, clamping, saturation) that the chapters share. -/
namespace Sys2Proof.Machine

/-- Clamp to the nearest end of lo..hi (Conventions). -/
def clampN (lo hi n : Nat) : Nat := max lo (min hi n)

/-- Clamp of a signed number. -/
def clampI (lo hi z : Int) : Int := max lo (min hi z)

/-- A count that stops at `top` (section 1.1). -/
def satSucc (top n : Nat) : Nat := min top (n + 1)

/-- Move `x` toward `t` by at most `d` (R65, R87, R110, R141). -/
def approach (x t d : Int) : Int := if x < t then min t (x + d) else max t (x - d)

/-- The low `w` bytes of `n`, least significant first. -/
def le : Nat → Nat → List Byte
  | 0, _ => []
  | w + 1, n => BitVec.ofNat 8 n :: le w (n / 256)

/-- An unsigned number in a field of `w` bytes (section 10.6). -/
def putU (w n : Nat) : List Byte := le w (if n < 256 ^ w then n else Config.outOfField w n)

/-- A signed number in a field of `w` bytes. -/
def putI (w : Nat) (z : Int) : List Byte :=
  le w (if -(256 ^ w : Int) ≤ 2 * z ∧ 2 * z < 256 ^ w then (z % (256 ^ w : Int)).toNat else Config.outOfField w z)

/-- An absent value of an unsigned field is all ones. -/
def putOptU (w : Nat) : Option Nat → List Byte
  | some n => putU w n
  | none => le w (256 ^ w - 1)

/-- An absent value of a signed field is the most negative value. -/
def putOptI (w : Nat) : Option Int → List Byte
  | some z => putI w z
  | none => le w (256 ^ w / 2)

/-- A flag is one byte, 0 or 1. -/
def putFlag (b : Bool) : List Byte := [if b then 1 else 0]

/-- Byte `i` of a layout, as a number. -/
def u8 (bs : List Byte) (i : Nat) : Nat := (bs.getD i 0).toNat

/-- The little-endian number in bytes `i` and `i + 1`. -/
def u16 (bs : List Byte) (i : Nat) : Nat := u8 bs i + 256 * u8 bs (i + 1)

/-- The signed little-endian number in bytes `i` and `i + 1`. -/
def i16 (bs : List Byte) (i : Nat) : Int :=
  if u16 bs i < 32768 then (u16 bs i : Int) else (u16 bs i : Int) - 65536

/-- One bit of the CRC-16 of section 10.6: polynomial x^16 + x^12 + x^5 + 1, most significant bit first. -/
def crcShift : Nat → BitVec 16 → BitVec 16
  | 0, c => c
  | n + 1, c => crcShift n (if c.msb then (c <<< 1) ^^^ 0x1021#16 else c <<< 1)

/-- The CRC-16 after one more byte. -/
def crcByte (c : BitVec 16) (b : Byte) : BitVec 16 := crcShift 8 (c ^^^ (BitVec.setWidth 16 b <<< 8))

/-- The CRC-16 after more bytes, the running value held as a number. -/
def crcOver : Nat → List Byte → Nat
  | c, [] => c
  | c, b :: bs =>
    match (crcByte (BitVec.ofNat 16 c) b).toNat with
    | 0 => crcOver 0 bs
    | n + 1 => crcOver (n + 1) bs

/-- The CRC-16 over a list of bytes: initial value 0xFFFF, no reflection, no final inversion. -/
def crc16 (bs : List Byte) : BitVec 16 := BitVec.ofNat 16 (crcOver 0xFFFF bs)

/-- A CRC field: high byte first. -/
def crcBytes (c : BitVec 16) : List Byte := [BitVec.ofNat 8 (c.toNat / 256), BitVec.ofNat 8 c.toNat]

/-- A companion envelope (section 10.6): kind, length, payload, CRC over the three. -/
def envelope (kind : Byte) (payload : List Byte) : List Byte :=
  let body := kind :: BitVec.ofNat 8 payload.length :: payload
  body ++ crcBytes (crc16 body)

/-- A radio reply (section 10.6): sync 0xA7, length, kind, payload, CRC over the length through the payload. -/
def radioReply (kind : Byte) (payload : List Byte) : List Byte :=
  let body := BitVec.ofNat 8 (payload.length + 3) :: kind :: payload
  (0xA7#8 : Byte) :: (body ++ crcBytes (crc16 body))

end Sys2Proof.Machine
end

