-- ==== Sys2Proof/Machine/Tables.lean ====
section
/-! DEFINITION. The numbering of the shared names (functions, wheels, sections, causes, notices) and the tables with one
entry per function and per wheel that the blocks hold. -/
namespace Sys2Proof.Machine

/-- One entry per function, in function order. -/
structure PerFn (α : Type) where
  drive : α
  steer : α
  steermode : α
  winch : α
  drag : α
  range : α
  scene : α
deriving DecidableEq, Repr

/-- The function's entry. -/
def PerFn.get {α : Type} (t : PerFn α) : Fn → α
  | .drive => t.drive
  | .steer => t.steer
  | .steermode => t.steermode
  | .winch => t.winch
  | .drag => t.drag
  | .range => t.range
  | .scene => t.scene

/-- The table with the function's entry replaced. -/
def PerFn.set {α : Type} (t : PerFn α) (f : Fn) (x : α) : PerFn α :=
  match f with
  | .drive => { t with drive := x }
  | .steer => { t with steer := x }
  | .steermode => { t with steermode := x }
  | .winch => { t with winch := x }
  | .drag => { t with drag := x }
  | .range => { t with range := x }
  | .scene => { t with scene := x }

/-- The table whose entries a rule gives. -/
def PerFn.of {α : Type} (g : Fn → α) : PerFn α :=
  ⟨g .drive, g .steer, g .steermode, g .winch, g .drag, g .range, g .scene⟩

/-- One entry per wheel. -/
structure PerWheel (α : Type) where
  fl : α
  fr : α
  rl : α
  rr : α
deriving DecidableEq, Repr

/-- The wheel's entry. -/
def PerWheel.get {α : Type} (t : PerWheel α) : Wheel → α
  | .fl => t.fl
  | .fr => t.fr
  | .rl => t.rl
  | .rr => t.rr

/-- The table with the wheel's entry replaced. -/
def PerWheel.set {α : Type} (t : PerWheel α) (w : Wheel) (x : α) : PerWheel α :=
  match w with
  | .fl => { t with fl := x }
  | .fr => { t with fr := x }
  | .rl => { t with rl := x }
  | .rr => { t with rr := x }

/-- The table whose entries a rule gives. -/
def PerWheel.of {α : Type} (g : Wheel → α) : PerWheel α := ⟨g .fl, g .fr, g .rl, g .rr⟩

/-- The table with a rule applied to every entry. -/
def PerWheel.map {α β : Type} (g : α → β) (t : PerWheel α) : PerWheel β := ⟨g t.fl, g t.fr, g t.rl, g t.rr⟩

/-- The four entries, in wheel order. -/
def PerWheel.list {α : Type} (t : PerWheel α) : List α := [t.fl, t.fr, t.rl, t.rr]

/-- Function number (Shared names). -/
def fnNumber : Fn → Nat
  | .drive => 0
  | .steer => 1
  | .steermode => 2
  | .winch => 3
  | .drag => 4
  | .range => 5
  | .scene => 6

/-- The function of a number, if it is 0..6. -/
def fnOfNumber : Nat → Option Fn
  | 0 => some .drive
  | 1 => some .steer
  | 2 => some .steermode
  | 3 => some .winch
  | 4 => some .drag
  | 5 => some .range
  | 6 => some .scene
  | _ => none

/-- DRIVE, STEER, WINCH and DRAG are numeric (Terms). -/
def isNumeric : Fn → Bool
  | .drive => true
  | .steer => true
  | .winch => true
  | .drag => true
  | _ => false

/-- DRIVE and WINCH slots carry a confirmed mark (R26). -/
def hasMark : Fn → Bool
  | .drive => true
  | .winch => true
  | _ => false

/-- DRIVE, WINCH and DRAG are the functions of a lockout (R41). -/
def lockable : Fn → Bool
  | .drive => true
  | .winch => true
  | .drag => true
  | _ => false

/-- DRIVE, STEER and WINCH may be trimmed (R46). -/
def trimmable : Fn → Bool
  | .drive => true
  | .steer => true
  | .winch => true
  | _ => false

/-- The least value of a function's range or enumeration (R20, R47). -/
def fnLow : Fn → Int
  | .drive => -1000
  | .steer => -1000
  | .winch => -1000
  | _ => 0

/-- The greatest value of a function's range or enumeration. -/
def fnHigh : Fn → Int
  | .drive => 1000
  | .steer => 1000
  | .steermode => 3
  | .winch => 1000
  | .drag => 1000
  | .range => 2
  | .scene => 15

/-- Section number (section 11.2). -/
def sectNumber : Sect → Fin 11
  | .sources => 0
  | .map => 1
  | .authority => 2
  | .failsafe => 3
  | .geometry => 4
  | .drive => 5
  | .winch => 6
  | .pack => 7
  | .lamps => 8
  | .scenes => 9
  | .reply => 10

/-- The section of a number, if it is 0..10. -/
def sectOfNumber : Nat → Option Sect
  | 0 => some .sources
  | 1 => some .map
  | 2 => some .authority
  | 3 => some .failsafe
  | 4 => some .geometry
  | 5 => some .drive
  | 6 => some .winch
  | 7 => some .pack
  | 8 => some .lamps
  | 9 => some .scenes
  | 10 => some .reply
  | _ => none

/-- The length of what a PROFILE_WRITE carries after the section number (sections 10.6 and 11.2). -/
def sectWriteLength : Sect → Nat
  | .sources => 14
  | .map => 108
  | .authority => 98
  | .failsafe => 11
  | .geometry => 32
  | .drive => 24
  | .winch => 21
  | .pack => 70
  | .lamps => 30
  | .scenes => 18
  | .reply => 8

/-- The thirteen refusal causes (Shared names). -/
inductive Cause where
  | format
  | check
  | reach
  | barred
  | busy
  | notParked
  | badMap
  | noGrant
  | grantHeld
  | denied
  | locked
  | activeBank
  | value
deriving DecidableEq, Repr

/-- The cause's code, 1..13. -/
def causeCode : Cause → Nat
  | .format => 1
  | .check => 2
  | .reach => 3
  | .barred => 4
  | .busy => 5
  | .notParked => 6
  | .badMap => 7
  | .noGrant => 8
  | .grantHeld => 9
  | .denied => 10
  | .locked => 11
  | .activeBank => 12
  | .value => 13

/-- The sixteen notice kinds (section 11.1). -/
inductive Notice where
  | packState
  | leadOpen
  | radioLapsed
  | wheelLockout
  | winchStall
  | wheelTrip
  | grantEnded
  | barChanged
  | radioLive
  | winchLimit
  | modeSettled
  | bankSwitched
  | storeDone
  | storeFailed
  | profileDefaulted
  | restarted
deriving DecidableEq, Repr

/-- The notice's number, 0..15. -/
def noticeNumber : Notice → Nat
  | .packState => 0
  | .leadOpen => 1
  | .radioLapsed => 2
  | .wheelLockout => 3
  | .winchStall => 4
  | .wheelTrip => 5
  | .grantEnded => 6
  | .barChanged => 7
  | .radioLive => 8
  | .winchLimit => 9
  | .modeSettled => 10
  | .bankSwitched => 11
  | .storeDone => 12
  | .storeFailed => 13
  | .profileDefaulted => 14
  | .restarted => 15

end Sys2Proof.Machine
end

