-- ==== Sys2Proof/Machine/Sections.lean ====
section
/-! DEFINITION. The eleven profile sections as data: one structure per section, a field per field of its table. Masks
hold one bit per member, member 0 in the lowest bit (section 1.10). -/
namespace Sys2Proof.Machine

/-- SOURCES (section 1.10). -/
structure Sources where
  radioSilence : Nat
  compSilence : Nat
  radioFns : BitVec 7
  radioSections : BitVec 11
  compFns : BitVec 7
  compSections : BitVec 11
  radioNotices : BitVec 16
  compNotices : BitVec 16
deriving DecidableEq, Repr

/-- Where a map entry delivers its items (section 2.4). -/
inductive Target where
  | fn (f : Fn)
  | flag (i : Fin 4)
  | bar
  | none
deriving DecidableEq, Repr

/-- One entry of the Channel Map (R36). -/
structure MapEntry where
  tag : Nat
  mask : Nat
  target : Target
  reverse : Bool
  center : Nat
  halfSpan : Nat
  deadband : Nat
deriving DecidableEq, Repr

/-- One entry of the authority map (section 3.1). `keep` is the slot policy KEEP. -/
structure AuthEntry where
  primary : Master
  secondary : Option Master
  trim : Option Master
  trimLimit : Nat
  takeover : Bool
  tethered : Bool
  breakaway : Nat
  handover : Nat
  keep : Bool
  hold : Nat
deriving DecidableEq, Repr

/-- One servo's fields of GEOMETRY (section 4.6). -/
structure Servo where
  centre : Nat
  rate : Nat
  low : Nat
  high : Nat
  reverse : Bool
deriving DecidableEq, Repr

/-- GEOMETRY (section 4.6). -/
structure Geometry where
  wheelbase : Nat
  track : Nat
  maxAngle : Nat
  rearRatio : Nat
  rearSlew : Nat
  speedGate : Nat
  transition : Nat
  framePeriod : Nat
  pivotAllowed : Bool
  strength : Nat
  front : Servo
  rear : Servo
deriving DecidableEq, Repr

/-- DRIVE (section 5.7). -/
structure DriveSection where
  neutralBand : Nat
  topLow : Nat
  topMid : Nat
  topHigh : Nat
  accel : Nat
  circumference : Nat
  edgesPerRev : Nat
  slipMargin : Nat
  imax : Nat
  tripLevel : Nat
  tripCount : Nat
  tripWindow : Nat
  clearTime : Nat
deriving DecidableEq, Repr

/-- WINCH (section 6.9). -/
structure WinchSection where
  edgesPer100 : Nat
  payoutMax : Nat
  top : Nat
  slowIn : Nat
  accel : Nat
  imax : Nat
  stallCurrent : Nat
  stallTime : Nat
  stallClear : Nat
  syncEnable : Bool
  syncMargin : Nat
  reverse : Bool
deriving DecidableEq, Repr

/-- The zero code and full scale of one current channel (section 7.8). -/
structure Shunt where
  zero : Nat
  full : Nat
deriving DecidableEq, Repr

/-- PACK (sections 7.8 and 8.6). A `cellCount` of 0 is AUTO. -/
structure Pack where
  cellCount : Nat
  checkInterval : Nat
  leadThreshold : Nat
  tapFull : Vector Nat 6
  shuntPack : Shunt
  shuntWheel : PerWheel Shunt
  shuntWinch : Shunt
  vcut : Nat
  vshed : Nat
  vcau : Nat
  vrecover : Nat
  hysteresis : Nat
  rcell : Nat
  cutoffDwell : Nat
  recoveryDwell : Nat
  recoveryCurrent : Nat
  cutoffDrag : Nat
  amax : Nat
  servoReserve : Nat
  blindCap : Nat
  driveFloor : Nat
  winchFloor : Nat
  lampFloor : Nat
deriving DecidableEq, Repr

/-- The lamp roles, in the order of their codes 0..9 (section 9.5). -/
inductive Role where
  | head
  | tail
  | brake
  | reverse
  | indLeft
  | indRight
  | rock
  | bar
  | winch
  | beacon
deriving DecidableEq, Repr

/-- One lamp channel's fields of LAMPS. -/
structure LampSetting where
  role : Role
  rated : Nat
deriving DecidableEq, Repr

/-- LAMPS (section 9.5). -/
structure Lamps where
  channels : Vector LampSetting 8
  halfPeriod : Nat
  indicator : Nat
  tailLevel : Nat
deriving DecidableEq, Repr

/-- One scene of SCENES (section 9.6). -/
structure Scene where
  levels : Vector Nat 8
  patterned : BitVec 8
deriving DecidableEq, Repr

/-- REPLY (section 10.5). -/
structure ReplySection where
  delay : Nat
  alertEnable : Bool
  packEvery : Nat
  cellsEvery : Nat
  winchEvery : Nat
  driveEvery : Nat
  flagsEvery : Nat
deriving DecidableEq, Repr

/-- The live copies of the eleven sections. A FAILSAFE content of `none` is HOLD (R29). -/
structure Profile where
  sources : Sources
  map : Vector MapEntry 12
  authority : PerFn AuthEntry
  failsafe : PerFn (Option Int)
  geometry : Geometry
  drive : DriveSection
  winch : WinchSection
  pack : Pack
  lamps : Lamps
  scenes : Vector Scene 16
  reply : ReplySection
deriving DecidableEq, Repr

/-- The contents of one section, as a PROFILE_WRITE that passed its checks carries them: for SCENES, one scene. -/
inductive SectionData where
  | sources (v : Sources)
  | map (v : Vector MapEntry 12)
  | authority (v : PerFn AuthEntry)
  | failsafe (v : PerFn (Option Int))
  | geometry (v : Geometry)
  | drive (v : DriveSection)
  | winch (v : WinchSection)
  | pack (v : Pack)
  | lamps (v : Lamps)
  | scene (i : Fin 16) (v : Scene)
  | reply (v : ReplySection)
deriving DecidableEq, Repr

end Sys2Proof.Machine
end

