-- ==== Sys2Proof/Machine/Profile.lean ====
section
/-! DEFINITION. The Profile Store's view of each section: its defaults, its bytes, and the checks and clamps that its
owning rule puts a write (and a stored copy at start-up, R176) through. -/
namespace Sys2Proof.Machine

/-! ### Defaults -/

/-- SOURCES defaults (section 1.10). -/
def defaultSources : Sources where
  radioSilence := 250
  compSilence := 500
  radioFns := 0x7F#7
  radioSections := 0#11
  compFns := 0x7F#7
  compSections := 0x7FF#11
  radioNotices := 0x001F#16
  compNotices := 0xFFFF#16

/-- The default target of map entry `i` (R36). -/
def defaultTarget (i : Fin 12) : Target :=
  match i with
  | 0 => .fn .drive
  | 1 => .fn .steer
  | 2 => .fn .steermode
  | 3 => .fn .winch
  | 4 => .fn .drag
  | 5 => .fn .range
  | 6 => .fn .scene
  | 7 => .flag 0
  | 8 => .flag 1
  | 9 => .flag 2
  | 10 => .flag 3
  | 11 => .none

/-- MAP defaults (R36). -/
def defaultMap : Vector MapEntry 12 :=
  Vector.ofFn fun i =>
    { tag := i.val, mask := 63, target := defaultTarget i, reverse := false, center := 2048, halfSpan := 1000, deadband := 0 }

/-- AUTHORITY defaults (section 3.1). -/
def defaultAuthority : PerFn AuthEntry where
  drive := ⟨.radio, none, some .companion, 150, true, true, 250, 200, false, 300⟩
  steer := ⟨.radio, none, some .companion, 100, true, true, 250, 150, false, 300⟩
  steermode := ⟨.radio, some .companion, none, 0, false, false, 1000, 0, false, 0⟩
  winch := ⟨.radio, none, none, 0, true, true, 300, 100, false, 300⟩
  drag := ⟨.radio, some .companion, none, 0, false, false, 1000, 0, false, 300⟩
  range := ⟨.radio, some .companion, none, 0, false, false, 1000, 0, false, 0⟩
  scene := ⟨.radio, some .companion, none, 0, true, false, 1000, 0, false, 0⟩

/-- FAILSAFE defaults (section 2.3). -/
def defaultFailsafe : PerFn (Option Int) where
  drive := some 0
  steer := some 0
  steermode := none
  winch := some 0
  drag := some 1000
  range := none
  scene := none

/-- A servo's defaults (section 4.6). -/
def defaultServo : Servo := { centre := 1500, rate := 10, low := 900, high := 2100, reverse := false }

/-- GEOMETRY defaults (section 4.6). -/
def defaultGeometry : Geometry where
  wheelbase := 300
  track := 250
  maxAngle := 400
  rearRatio := 100
  rearSlew := 30
  speedGate := 150
  transition := 300
  framePeriod := 10
  pivotAllowed := false
  strength := 100
  front := defaultServo
  rear := defaultServo

/-- DRIVE defaults (section 5.7). -/
def defaultDrive : DriveSection where
  neutralBand := 30
  topLow := 400
  topMid := 700
  topHigh := 1000
  accel := 8
  circumference := 377
  edgesPerRev := 180
  slipMargin := 25
  imax := 15000
  tripLevel := 28000
  tripCount := 3
  tripWindow := 2000
  clearTime := 500

/-- WINCH defaults (section 6.9). -/
def defaultWinch : WinchSection where
  edgesPer100 := 640
  payoutMax := 1500
  top := 1000
  slowIn := 200
  accel := 10
  imax := 8000
  stallCurrent := 6000
  stallTime := 400
  stallClear := 300
  syncEnable := true
  syncMargin := 10
  reverse := false

/-- PACK defaults (sections 7.8 and 8.6). -/
def defaultPack : Pack where
  cellCount := 0
  checkInterval := 50
  leadThreshold := 400
  tapFull := #v[5000, 10000, 15000, 20000, 25000, 30000]
  shuntPack := ⟨256, 65000⟩
  shuntWheel := ⟨⟨2048, 65000⟩, ⟨2048, 65000⟩, ⟨2048, 65000⟩, ⟨2048, 65000⟩⟩
  shuntWinch := ⟨2048, 45000⟩
  vcut := 3200
  vshed := 3400
  vcau := 3500
  vrecover := 3600
  hysteresis := 50
  rcell := 8
  cutoffDwell := 2000
  recoveryDwell := 5000
  recoveryCurrent := 1000
  cutoffDrag := 1000
  amax := 40000
  servoReserve := 3000
  blindCap := 50
  driveFloor := 6000
  winchFloor := 2000
  lampFloor := 300

/-- LAMPS defaults (section 9.5). -/
def defaultLamps : Lamps where
  channels := #v[⟨.head, 150⟩, ⟨.head, 150⟩, ⟨.tail, 150⟩, ⟨.brake, 150⟩, ⟨.reverse, 150⟩, ⟨.indLeft, 150⟩,
    ⟨.indRight, 150⟩, ⟨.rock, 150⟩]
  halfPeriod := 350
  indicator := 300
  tailLevel := 300

/-- The default scene `i` (section 9.6). -/
def defaultScene (i : Fin 16) : Scene :=
  match i with
  | 1 => ⟨#v[1000, 1000, 300, 0, 0, 0, 0, 0], 0⟩
  | 2 => ⟨#v[1000, 1000, 300, 0, 0, 0, 0, 1000], 0⟩
  | 3 => ⟨#v[0, 0, 0, 0, 0, 0, 0, 0], 0xFF#8⟩
  | _ => ⟨#v[0, 0, 0, 0, 0, 0, 0, 0], 0⟩

/-- SCENES defaults (section 9.6). -/
def defaultScenes : Vector Scene 16 := Vector.ofFn defaultScene

/-- REPLY defaults (section 10.5). -/
def defaultReply : ReplySection where
  delay := 200
  alertEnable := true
  packEvery := 5
  cellsEvery := 10
  winchEvery := 10
  driveEvery := 10
  flagsEvery := 20

/-- Every section at its defaults. -/
def defaultProfile : Profile where
  sources := defaultSources
  map := defaultMap
  authority := defaultAuthority
  failsafe := defaultFailsafe
  geometry := defaultGeometry
  drive := defaultDrive
  winch := defaultWinch
  pack := defaultPack
  lamps := defaultLamps
  scenes := defaultScenes
  reply := defaultReply

/-! ### Bytes of the sections -/

/-- A master's code in an AUTHORITY entry (section 3.1). -/
def masterCode : Master → Nat
  | .radio => 0
  | .companion => 1

/-- A source field's code: 255 stands for NONE. -/
def sourceFieldCode : Option Master → Nat
  | some m => masterCode m
  | none => 255

/-- The target's code (R36). -/
def targetCode : Target → Nat
  | .fn f => fnNumber f
  | .flag i => 8 + i.val
  | .bar => 12
  | .none => 255

/-- The role's code (section 9.5). -/
def roleCode : Role → Nat
  | .head => 0
  | .tail => 1
  | .brake => 2
  | .reverse => 3
  | .indLeft => 4
  | .indRight => 5
  | .rock => 6
  | .bar => 7
  | .winch => 8
  | .beacon => 9

/-- SOURCES as stored. -/
def bytesSources (v : Sources) : List Byte :=
  putU 2 v.radioSilence ++ putU 2 v.compSilence ++ putU 1 v.radioFns.toNat ++ putU 2 v.radioSections.toNat
    ++ putU 1 v.compFns.toNat ++ putU 2 v.compSections.toNat ++ putU 2 v.radioNotices.toNat ++ putU 2 v.compNotices.toNat

/-- One map entry as stored: nine bytes. -/
def bytesMapEntry (e : MapEntry) : List Byte :=
  putU 1 e.tag ++ putU 1 e.mask ++ putU 1 (targetCode e.target) ++ putFlag e.reverse ++ putU 2 e.center
    ++ putU 2 e.halfSpan ++ putU 1 e.deadband

/-- MAP as stored. -/
def bytesMap (v : Vector MapEntry 12) : List Byte := v.toList.flatMap bytesMapEntry

/-- One authority entry as stored: fourteen bytes. -/
def bytesAuthEntry (e : AuthEntry) : List Byte :=
  putU 1 (masterCode e.primary) ++ putU 1 (sourceFieldCode e.secondary) ++ putU 1 (sourceFieldCode e.trim)
    ++ putU 2 e.trimLimit ++ putFlag e.takeover ++ putFlag e.tethered ++ putU 2 e.breakaway ++ putU 2 e.handover
    ++ putFlag e.keep ++ putU 2 e.hold

/-- AUTHORITY as stored. -/
def bytesAuthority (v : PerFn AuthEntry) : List Byte := Fn.all.flatMap fun f => bytesAuthEntry (v.get f)

/-- A FAILSAFE content as stored: two signed bytes with −32768 for HOLD, or one byte with 255 for HOLD (R29). -/
def bytesContent (f : Fn) (c : Option Int) : List Byte :=
  if isNumeric f then putOptI 2 c else putOptU 1 (c.map Int.toNat)

/-- FAILSAFE as stored. -/
def bytesFailsafe (v : PerFn (Option Int)) : List Byte := Fn.all.flatMap fun f => bytesContent f (v.get f)

/-- One servo's fields as stored. -/
def bytesServo (v : Servo) : List Byte :=
  putU 2 v.centre ++ putU 1 v.rate ++ putU 2 v.low ++ putU 2 v.high ++ putFlag v.reverse

/-- GEOMETRY as stored. -/
def bytesGeometry (v : Geometry) : List Byte :=
  putU 2 v.wheelbase ++ putU 2 v.track ++ putU 2 v.maxAngle ++ putU 1 v.rearRatio ++ putU 2 v.rearSlew
    ++ putU 2 v.speedGate ++ putU 2 v.transition ++ putU 1 v.framePeriod ++ putFlag v.pivotAllowed ++ putU 1 v.strength
    ++ bytesServo v.front ++ bytesServo v.rear

/-- DRIVE as stored. -/
def bytesDrive (v : DriveSection) : List Byte :=
  putU 2 v.neutralBand ++ putU 2 v.topLow ++ putU 2 v.topMid ++ putU 2 v.topHigh ++ putU 2 v.accel
    ++ putU 2 v.circumference ++ putU 2 v.edgesPerRev ++ putU 1 v.slipMargin ++ putU 2 v.imax ++ putU 2 v.tripLevel
    ++ putU 1 v.tripCount ++ putU 2 v.tripWindow ++ putU 2 v.clearTime

/-- WINCH as stored. -/
def bytesWinch (v : WinchSection) : List Byte :=
  putU 2 v.edgesPer100 ++ putU 2 v.payoutMax ++ putU 2 v.top ++ putU 2 v.slowIn ++ putU 2 v.accel ++ putU 2 v.imax
    ++ putU 2 v.stallCurrent ++ putU 2 v.stallTime ++ putU 2 v.stallClear ++ putFlag v.syncEnable ++ putU 1 v.syncMargin
    ++ putFlag v.reverse

/-- One current channel's fields as stored. -/
def bytesShunt (v : Shunt) : List Byte := putU 2 v.zero ++ putU 2 v.full

/-- PACK as stored: the sensing fields, then the protection fields. -/
def bytesPack (v : Pack) : List Byte :=
  putU 1 v.cellCount ++ putU 1 v.checkInterval ++ putU 2 v.leadThreshold ++ v.tapFull.toList.flatMap (putU 2)
    ++ bytesShunt v.shuntPack ++ v.shuntWheel.list.flatMap bytesShunt ++ bytesShunt v.shuntWinch
    ++ putU 2 v.vcut ++ putU 2 v.vshed ++ putU 2 v.vcau ++ putU 2 v.vrecover ++ putU 2 v.hysteresis ++ putU 1 v.rcell
    ++ putU 2 v.cutoffDwell ++ putU 2 v.recoveryDwell ++ putU 2 v.recoveryCurrent ++ putU 2 v.cutoffDrag
    ++ putU 2 v.amax ++ putU 2 v.servoReserve ++ putU 1 v.blindCap ++ putU 2 v.driveFloor ++ putU 2 v.winchFloor
    ++ putU 2 v.lampFloor

/-- LAMPS as stored. -/
def bytesLamps (v : Lamps) : List Byte :=
  (v.channels.toList.flatMap fun c => putU 1 (roleCode c.role) ++ putU 2 c.rated) ++ putU 2 v.halfPeriod
    ++ putU 2 v.indicator ++ putU 2 v.tailLevel

/-- One scene as stored: seventeen bytes. -/
def bytesScene (v : Scene) : List Byte := v.levels.toList.flatMap (putU 2) ++ putU 1 v.patterned.toNat

/-- SCENES as stored. -/
def bytesScenes (v : Vector Scene 16) : List Byte := v.toList.flatMap bytesScene

/-- REPLY as stored. -/
def bytesReply (v : ReplySection) : List Byte :=
  putU 2 v.delay ++ putFlag v.alertEnable ++ putU 1 v.packEvery ++ putU 1 v.cellsEvery ++ putU 1 v.winchEvery
    ++ putU 1 v.driveEvery ++ putU 1 v.flagsEvery

/-- The bytes of a live section, as its flash copy holds them and PROFILE_READ returns them (R173, R174). -/
def sectionBytes (p : Profile) : Sect → List Byte
  | .sources => bytesSources p.sources
  | .map => bytesMap p.map
  | .authority => bytesAuthority p.authority
  | .failsafe => bytesFailsafe p.failsafe
  | .geometry => bytesGeometry p.geometry
  | .drive => bytesDrive p.drive
  | .winch => bytesWinch p.winch
  | .pack => bytesPack p.pack
  | .lamps => bytesLamps p.lamps
  | .scenes => bytesScenes p.scenes
  | .reply => bytesReply p.reply

/-! ### Checks and clamps -/

/-- R18: the masks are structural, the silence times are clamped. -/
def checkSources (bs : List Byte) : Except Cause Sources :=
  if u8 bs 4 < 128 ∧ u8 bs 7 < 128 ∧ u16 bs 5 < 2048 ∧ u16 bs 8 < 2048 then
    .ok
      { radioSilence := clampN 100 1000 (u16 bs 0)
        compSilence := clampN 100 5000 (u16 bs 2)
        radioFns := BitVec.ofNat 7 (u8 bs 4)
        radioSections := BitVec.ofNat 11 (u16 bs 5)
        compFns := BitVec.ofNat 7 (u8 bs 7)
        compSections := BitVec.ofNat 11 (u16 bs 8)
        radioNotices := BitVec.ofNat 16 (u16 bs 10)
        compNotices := BitVec.ofNat 16 (u16 bs 12) }
  else .error .value

/-- The target of a code, if it is in the listed set (R36). -/
def targetOfCode (n : Nat) : Option Target :=
  match fnOfNumber n with
  | some f => some (.fn f)
  | none =>
    if n = 8 then some (.flag 0)
    else if n = 9 then some (.flag 1)
    else if n = 10 then some (.flag 2)
    else if n = 11 then some (.flag 3)
    else if n = 12 then some .bar
    else if n = 255 then some .none
    else none

/-- R36: a tag or mask above 63, an unlisted target or a reverse byte above 1 is structural. -/
def mapEntryOk (bs : List Byte) : Bool :=
  u8 bs 0 < 64 && u8 bs 1 < 64 && (targetOfCode (u8 bs 2)).isSome && u8 bs 3 < 2

/-- A map entry of nine bytes, its numeric fields clamped (R36). -/
def readMapEntry (bs : List Byte) : MapEntry where
  tag := u8 bs 0
  mask := u8 bs 1
  target := (targetOfCode (u8 bs 2)).getD .none
  reverse := u8 bs 3 == 1
  center := clampN 0 4095 (u16 bs 4)
  halfSpan := clampN 1 2047 (u16 bs 6)
  deadband := clampN 0 200 (u8 bs 8)

/-- R36. -/
def checkMap (bs : List Byte) : Except Cause (Vector MapEntry 12) :=
  if (List.range 12).all fun i => mapEntryOk (bs.drop (9 * i)) then
    .ok (Vector.ofFn fun i => readMapEntry (bs.drop (9 * i.val)))
  else .error .value

/-- The source of a code 0, 1 or 255; `none` for any other code. -/
def sourceFieldOfCode (n : Nat) : Option (Option Master) :=
  if n = 0 then some (some .radio)
  else if n = 1 then some (some .companion)
  else if n = 255 then some none
  else none

/-- R38: the map conditions on one entry of a function. The spec does not say whether a takeover byte other than 0 or 1 with
primary COMPANION breaks the takeover condition too: DESIGN CHOICE (log entry 46), only the byte 1 is takeover allowed, so
that such a byte answers VALUE by `authEntryBytesOk`. -/
def authEntryMapOk (f : Fn) (bs : List Byte) : Bool :=
  let p := u8 bs 0
  let s := u8 bs 1
  let t := u8 bs 2
  p < 2 && (sourceFieldOfCode s).isSome && s != p && (sourceFieldOfCode t).isSome && t != p
    && (trimmable f || t == 255) && !(p == 1 && u8 bs 5 == 1)

/-- R38: the takeover, tethered and slot policy bytes are 0 or 1. -/
def authEntryBytesOk (bs : List Byte) : Bool := u8 bs 5 < 2 && u8 bs 6 < 2 && u8 bs 11 < 2

/-- An authority entry of fourteen bytes, its numeric fields clamped; the hold time of a discrete function reads back as
0 (R38). -/
def readAuthEntry (f : Fn) (bs : List Byte) : AuthEntry where
  primary := if u8 bs 0 = 1 then .companion else .radio
  secondary := (sourceFieldOfCode (u8 bs 1)).getD none
  trim := (sourceFieldOfCode (u8 bs 2)).getD none
  trimLimit := clampN 0 250 (u16 bs 3)
  takeover := u8 bs 5 == 1
  tethered := u8 bs 6 == 1
  breakaway := clampN 100 1000 (u16 bs 7)
  handover := clampN 0 1000 (u16 bs 9)
  keep := u8 bs 11 == 1
  hold := if isNumeric f then clampN 50 2000 (u16 bs 12) else 0

/-- R38: a broken map condition answers BADMAP before a bad byte answers VALUE. -/
def checkAuthority (bs : List Byte) : Except Cause (PerFn AuthEntry) :=
  if !(Fn.all.all fun f => authEntryMapOk f (bs.drop (14 * fnNumber f))) then .error .badMap
  else if !(Fn.all.all fun f => authEntryBytesOk (bs.drop (14 * fnNumber f))) then .error .value
  else .ok (PerFn.of fun f => readAuthEntry f (bs.drop (14 * fnNumber f)))

/-- The byte of a FAILSAFE section at which a function's field starts (section 2.3). -/
def contentAt : Fn → Nat
  | .drive => 0
  | .steer => 2
  | .steermode => 4
  | .winch => 5
  | .drag => 7
  | .range => 9
  | .scene => 10

/-- R30: a numeric content is HOLD or clamped; a discrete one is HOLD or within the enumeration. -/
def readContent (f : Fn) (bs : List Byte) : Option Int :=
  if isNumeric f then
    let z := i16 bs (contentAt f)
    if z = -32768 then none else some (clampI (fnLow f) (fnHigh f) z)
  else
    let n := u8 bs (contentAt f)
    if n = 255 then none else some n

/-- R30: a discrete field neither within its enumeration nor 255 refuses the write. -/
def contentOk (f : Fn) (bs : List Byte) : Bool :=
  isNumeric f || u8 bs (contentAt f) == 255 || decide ((u8 bs (contentAt f) : Int) ≤ fnHigh f)

/-- R30. -/
def checkFailsafe (bs : List Byte) : Except Cause (PerFn (Option Int)) :=
  if Fn.all.all fun f => contentOk f bs then .ok (PerFn.of fun f => readContent f bs) else .error .value

/-- A servo's eight bytes from byte `i`, its numeric fields clamped. -/
def readServo (bs : List Byte) (i : Nat) : Servo where
  centre := clampN 800 2200 (u16 bs i)
  rate := clampN 1 40 (u8 bs (i + 2))
  low := clampN 800 2200 (u16 bs (i + 3))
  high := clampN 800 2200 (u16 bs (i + 5))
  reverse := u8 bs (i + 7) == 1

/-- R75: after clamping, the low endpoint lies below the high one and the centre between them. -/
def servoOk (v : Servo) : Bool := decide (v.low < v.high ∧ v.low ≤ v.centre ∧ v.centre ≤ v.high)

/-- R75: the numeric fields are clamped first, then the structural checks apply. -/
def checkGeometry (bs : List Byte) : Except Cause Geometry :=
  let v : Geometry :=
    { wheelbase := clampN 150 450 (u16 bs 0)
      track := clampN 100 350 (u16 bs 2)
      maxAngle := clampN 50 450 (u16 bs 4)
      rearRatio := clampN 0 100 (u8 bs 6)
      rearSlew := clampN 1 450 (u16 bs 7)
      speedGate := clampN 0 2000 (u16 bs 9)
      transition := clampN 0 1000 (u16 bs 11)
      framePeriod := u8 bs 13
      pivotAllowed := u8 bs 14 == 1
      strength := clampN 0 100 (u8 bs 15)
      front := readServo bs 16
      rear := readServo bs 24 }
  if (u8 bs 13 = 10 ∨ u8 bs 13 = 20) ∧ u8 bs 14 < 2 ∧ u8 bs 23 < 2 ∧ u8 bs 31 < 2 ∧ servoOk v.front ∧ servoOk v.rear then
    .ok v
  else .error .value

/-- R98: every field is clamped, then the three tops must not decrease. -/
def checkDrive (bs : List Byte) : Except Cause DriveSection :=
  let v : DriveSection :=
    { neutralBand := clampN 0 200 (u16 bs 0)
      topLow := clampN 100 1000 (u16 bs 2)
      topMid := clampN 100 1000 (u16 bs 4)
      topHigh := clampN 100 1000 (u16 bs 6)
      accel := clampN 1 1000 (u16 bs 8)
      circumference := clampN 50 1000 (u16 bs 10)
      edgesPerRev := clampN 12 2048 (u16 bs 12)
      slipMargin := clampN 5 100 (u8 bs 14)
      imax := clampN 1000 30000 (u16 bs 15)
      tripLevel := clampN 1000 32000 (u16 bs 17)
      tripCount := clampN 1 10 (u8 bs 19)
      tripWindow := clampN 500 10000 (u16 bs 20)
      clearTime := clampN 100 5000 (u16 bs 22) }
  if v.topLow ≤ v.topMid ∧ v.topMid ≤ v.topHigh then .ok v else .error .value

/-- R116. -/
def checkWinch (bs : List Byte) : Except Cause WinchSection :=
  if u8 bs 18 < 2 ∧ u8 bs 20 < 2 then
    .ok
      { edgesPer100 := clampN 16 10000 (u16 bs 0)
        payoutMax := clampN 100 10000 (u16 bs 2)
        top := clampN 100 1000 (u16 bs 4)
        slowIn := clampN 50 1000 (u16 bs 6)
        accel := clampN 1 1000 (u16 bs 8)
        imax := clampN 1000 20000 (u16 bs 10)
        stallCurrent := clampN 500 20000 (u16 bs 12)
        stallTime := clampN 50 5000 (u16 bs 14)
        stallClear := clampN 50 5000 (u16 bs 16)
        syncEnable := u8 bs 18 == 1
        syncMargin := clampN 1 50 (u8 bs 19)
        reverse := u8 bs 20 == 1 }
  else .error .value

/-- A current channel's four bytes from byte `i`, clamped. -/
def readShunt (bs : List Byte) (i : Nat) : Shunt where
  zero := clampN 0 4095 (u16 bs i)
  full := clampN 1000 65000 (u16 bs (i + 2))

/-- R128 and R145: a cell count of 1 or above 6 is structural; the rest is clamped, then the thresholds must rise
strictly and the servo reserve lie below Amax. -/
def checkPack (bs : List Byte) : Except Cause Pack :=
  let v : Pack :=
    { cellCount := u8 bs 0
      checkInterval := clampN 5 250 (u8 bs 1)
      leadThreshold := clampN 100 2000 (u16 bs 2)
      tapFull := Vector.ofFn fun i => clampN 1000 40000 (u16 bs (4 + 2 * i.val))
      shuntPack := readShunt bs 16
      shuntWheel := ⟨readShunt bs 20, readShunt bs 24, readShunt bs 28, readShunt bs 32⟩
      shuntWinch := readShunt bs 36
      vcut := clampN 2500 4400 (u16 bs 40)
      vshed := clampN 2500 4400 (u16 bs 42)
      vcau := clampN 2500 4400 (u16 bs 44)
      vrecover := clampN 2500 4400 (u16 bs 46)
      hysteresis := clampN 10 200 (u16 bs 48)
      rcell := clampN 0 50 (u8 bs 50)
      cutoffDwell := clampN 100 10000 (u16 bs 51)
      recoveryDwell := clampN 1000 30000 (u16 bs 53)
      recoveryCurrent := clampN 100 5000 (u16 bs 55)
      cutoffDrag := clampN 0 1000 (u16 bs 57)
      amax := clampN 5000 60000 (u16 bs 59)
      servoReserve := clampN 500 10000 (u16 bs 61)
      blindCap := clampN 10 100 (u8 bs 63)
      driveFloor := clampN 0 30000 (u16 bs 64)
      winchFloor := clampN 0 20000 (u16 bs 66)
      lampFloor := clampN 0 8000 (u16 bs 68) }
  if u8 bs 0 = 1 ∨ 6 < u8 bs 0 then .error .value
  else if v.vcut < v.vshed ∧ v.vshed < v.vcau ∧ v.vcau < v.vrecover ∧ v.servoReserve < v.amax then .ok v
  else .error .value

/-- The role of a code, if it is 0..9. -/
def roleOfCode : Nat → Option Role
  | 0 => some .head
  | 1 => some .tail
  | 2 => some .brake
  | 3 => some .reverse
  | 4 => some .indLeft
  | 5 => some .indRight
  | 6 => some .rock
  | 7 => some .bar
  | 8 => some .winch
  | 9 => some .beacon
  | _ => none

/-- R158: a role code above 9 refuses the write; the rest is clamped. -/
def checkLamps (bs : List Byte) : Except Cause Lamps :=
  if (List.range 8).all fun i => (roleOfCode (u8 bs (3 * i))).isSome then
    .ok
      { channels := Vector.ofFn fun i =>
          { role := (roleOfCode (u8 bs (3 * i.val))).getD .head, rated := clampN 0 1000 (u16 bs (3 * i.val + 1)) }
        halfPeriod := clampN 100 2000 (u16 bs 24)
        indicator := clampN 50 1000 (u16 bs 26)
        tailLevel := clampN 0 1000 (u16 bs 28) }
  else .error .value

/-- A scene's seventeen bytes, its base levels clamped (R159). -/
def readScene (bs : List Byte) : Scene where
  levels := Vector.ofFn fun i => clampN 0 1000 (u16 bs (2 * i.val))
  patterned := BitVec.ofNat 8 (u8 bs 16)

/-- SCENES as a whole stored copy: sixteen scenes. -/
def readScenes (bs : List Byte) : Vector Scene 16 := Vector.ofFn fun i => readScene (bs.drop (17 * i.val))

/-- R169. -/
def checkReply (bs : List Byte) : Except Cause ReplySection :=
  if u8 bs 2 < 2 then
    .ok
      { delay := clampN 100 500 (u16 bs 0)
        alertEnable := u8 bs 2 == 1
        packEvery := u8 bs 3
        cellsEvery := u8 bs 4
        winchEvery := u8 bs 5
        driveEvery := u8 bs 6
        flagsEvery := u8 bs 7 }
  else .error .value

/-- Check 4 of R172 on what a PROFILE_WRITE of a section carries. For SCENES the body is the scene number, checked
before, and the scene's bytes. -/
def checkBody : Sect → List Byte → Except Cause SectionData
  | .sources, bs => (checkSources bs).map .sources
  | .map, bs => (checkMap bs).map .map
  | .authority, bs => (checkAuthority bs).map .authority
  | .failsafe, bs => (checkFailsafe bs).map .failsafe
  | .geometry, bs => (checkGeometry bs).map .geometry
  | .drive, bs => (checkDrive bs).map .drive
  | .winch, bs => (checkWinch bs).map .winch
  | .pack, bs => (checkPack bs).map .pack
  | .lamps, bs => (checkLamps bs).map .lamps
  | .scenes, bs => .ok (.scene (Fin.ofNat 16 (u8 bs 0)) (readScene (bs.drop 1)))
  | .reply, bs => (checkReply bs).map .reply

/-- The live copies after an accepted write (R172). -/
def Profile.write (p : Profile) : SectionData → Profile
  | .sources v => { p with sources := v }
  | .map v => { p with map := v }
  | .authority v => { p with authority := v }
  | .failsafe v => { p with failsafe := v }
  | .geometry v => { p with geometry := v }
  | .drive v => { p with drive := v }
  | .winch v => { p with winch := v }
  | .pack v => { p with pack := v }
  | .lamps v => { p with lamps := v }
  | .scene i v => { p with scenes := p.scenes.set i v }
  | .reply v => { p with reply := v }

end Sys2Proof.Machine
end

