-- ==== Sys2Proof/Machine/Blocks.lean ====
section
/-! DEFINITION. The records of the fifteen blocks as plain data, each with its reset values. A record that the manual
computes from others at every moment (parked, drive at rest, the claim Cd, the busy mark, ATTN, the limit count, the
payout count of counter and overflow) has no field: Machine/Ops.lean gives it as a view. -/
namespace Sys2Proof.Machine

/-! ### Source Contexts (chapter 1) -/

/-- States of a master's context (section 1.2). -/
inductive CtxState where
  | absent
  | live
  | lapsed
deriving DecidableEq, Repr

/-- The RADIO context (section 1.1). `timer` is the silence timer's remaining ms, running while LIVE. -/
structure RadioCtx where
  state : CtxState
  timer : Nat
  accepted : BitVec 32
  refused : BitVec 32
  checkErrors : Nat
  formatErrors : Nat
  unmatched : Nat
  missed : Nat
  lastSeq : Option (BitVec 6)
  flags : BitVec 4
deriving DecidableEq, Repr

/-- The COMPANION context (section 1.1). Bit c of `causes` stands for the cause of code c. -/
structure CompCtx where
  state : CtxState
  timer : Nat
  barred : Bool
  accepted : BitVec 32
  refused : BitVec 32
  causes : BitVec 14
  flags : BitVec 4
deriving DecidableEq, Repr

/-- R19. -/
def RadioCtx.reset : RadioCtx := ⟨.absent, 0, 0, 0, 0, 0, 0, 0, none, 0⟩

/-- R19. -/
def CompCtx.reset : CompCtx := ⟨.absent, 0, false, 0, 0, 0, 0⟩

/-! ### Demand Table (chapter 2) -/

/-- States of a demand slot (section 2.1). -/
inductive SlotState where
  | empty
  | fresh
  | taken
  | stale
deriving DecidableEq, Repr

/-- A RADIO or COMPANION demand slot (section 2.1). A discrete function's value is its index. -/
structure Slot where
  value : Option Int
  state : SlotState
  age : Nat
  seq : BitVec 8
  superseded : Nat
  offered : Option Int
  confirmed : Bool
deriving DecidableEq, Repr

/-- R37. -/
def Slot.reset : Slot := ⟨none, .empty, 0, 0, 0, none, false⟩

/-- The slots of both masters. -/
structure Slots where
  radio : PerFn Slot
  comp : PerFn Slot
deriving DecidableEq, Repr

/-- R37. -/
def Slots.reset : Slots := ⟨PerFn.of fun _ => Slot.reset, PerFn.of fun _ => Slot.reset⟩

/-! ### Authority Resolver (chapter 3) -/

/-- The deciding levels (section 3.3). -/
inductive Level where
  | lockout
  | grant
  | primary
  | secondary
  | failsafe
deriving DecidableEq, Repr

/-- The deciding sources (R47). -/
inductive Src where
  | radio
  | companion
  | failsafe
  | none
deriving DecidableEq, Repr

/-- A running handover blend (R48, R49). `next` is the ms left to the next blend step. -/
structure Blend where
  start : Int
  elapsed : Nat
  time : Nat
  next : Nat
deriving DecidableEq, Repr

/-- One entry of the effective record (R47). The blending flag is set exactly while `blend` is present. -/
structure Eff where
  value : Int
  level : Level
  source : Src
  blend : Option Blend
  target : Int
  underlying : Int
deriving DecidableEq, Repr

/-- The reasons a grant ends (section 3.6). -/
inductive EndReason where
  | expiry
  | release
  | breakaway
  | lapse
  | tether
  | lockout
  | stale
  | mapChange
deriving DecidableEq, Repr

/-- What a HELD grant record holds. -/
structure HeldGrant where
  remaining : Nat
  breakaway : Nat
deriving DecidableEq, Repr

/-- One grant record (section 3.6): HELD exactly while `held` is present. -/
structure Grant where
  held : Option HeldGrant
  lastEnd : Option EndReason
deriving DecidableEq, Repr

/-- The resolver's record. `lockout` says that the lockout set holds DRIVE, WINCH and DRAG (R41). -/
structure Resolver where
  lockout : Bool
  grants : PerFn Grant
  eff : PerFn Eff
deriving DecidableEq, Repr

/-- The value a HOLD content holds after a reset (R57). -/
def holdDefault : Fn → Int
  | .drag => 1000
  | _ => 0

/-- An effective entry before the first resolution, at the reset default (R57). -/
def Eff.reset (f : Fn) : Eff := ⟨holdDefault f, .failsafe, .failsafe, none, holdDefault f, holdDefault f⟩

/-- R57. -/
def Resolver.reset : Resolver := ⟨false, PerFn.of fun _ => ⟨none, none⟩, PerFn.of Eff.reset⟩

/-! ### Steering Unit (chapter 4) -/

/-- The steering modes (section 4.2). -/
inductive SteerMode where
  | front
  | counter
  | crab
  | rear
deriving DecidableEq, Repr

/-- The steering states (section 4.4). -/
inductive SteerState where
  | settled
  | waiting
  | slewing
deriving DecidableEq, Repr

/-- The geometry record (R73). -/
structure GeometryRec where
  ratios : PerWheel Int
  parallel : Bool
  pivot : Bool
  x0 : Int
  y0 : Option Int
  seq : BitVec 16
deriving DecidableEq, Repr

/-- The steering record (section 4.1), the geometry record, the servo frame timer, and the speed gate in force: the GEOMETRY
field as the last steering update took it, since a written one applies from the next update (R60, R75). -/
structure Steering where
  state : SteerState
  mode : SteerMode
  next : Option SteerMode
  heldSteer : Int
  frontTarget : Int
  rearTarget : Int
  frontOut : Int
  rearOut : Int
  frontPulse : Int
  rearPulse : Int
  geometry : GeometryRec
  frameTimer : Nat
  gate : Nat
deriving DecidableEq, Repr

/-- R76: the geometry record after a reset. -/
def GeometryRec.reset : GeometryRec := ⟨⟨1024, 1024, 1024, 1024⟩, true, false, 0, none, 0⟩

/-- R76, for a first effective STEERMODE and STEER and the GEOMETRY fields as loaded. -/
def Steering.reset (mode : SteerMode) (steer : Int) (g : Geometry) : Steering where
  state := .settled
  mode := mode
  next := none
  heldSteer := steer
  frontTarget := 0
  rearTarget := 0
  frontOut := 0
  rearOut := 0
  frontPulse := g.front.centre
  rearPulse := g.rear.centre
  geometry := GeometryRec.reset
  frameTimer := g.framePeriod
  gate := g.speedGate

/-! ### Wheel Drive Unit (chapter 5) -/

/-- The channel states (R77). -/
inductive ChanState where
  | run
  | drag
  | tripped
  | lockedOut
deriving DecidableEq, Repr

/-- A wheel channel record (section 5.1). `lastReverse` is the last drive sign. `timing`, `carry` and `edgeIdle` are the
edge timer of R78 and R79: an interval is being timed, the µs of ignored edges it already holds, the ms since the last
accepted edge. `ratio` is the ratio of the channel's last update (R85). -/
structure Channel where
  state : ChanState
  command : Int
  target : Int
  duty : Int
  dragLevel : Int
  slip : Nat
  limiter : Nat
  speed : Int
  lastReverse : Bool
  current : Nat
  claim : Nat
  apportioned : Nat
  limit : Nat
  overs : Nat
  trips : List Nat
  retry : Option Nat
  clear : Option Nat
  timer : Nat
  timing : Bool
  carry : Nat
  edgeIdle : Nat
  ratio : Int
deriving DecidableEq, Repr

/-- R99, for a first effective DRAG. -/
def Channel.reset (drag : Int) : Channel where
  state := .drag
  command := 0
  target := 0
  duty := 0
  dragLevel := drag
  slip := 0
  limiter := 0
  speed := 0
  lastReverse := false
  current := 0
  claim := 0
  apportioned := 0
  limit := 0
  overs := 0
  trips := []
  retry := none
  clear := none
  timer := Config.wheelPeriod
  timing := false
  carry := 0
  edgeIdle := 0
  ratio := 1024

/-- The Wheel Drive Unit: the channels and the records that belong to no single channel (section 5.1). -/
structure DriveUnit where
  channels : PerWheel Channel
  apportioned : Nat
  grant : Nat
  still : Nat
deriving DecidableEq, Repr

/-- R99. -/
def DriveUnit.reset (drag : Int) : DriveUnit := ⟨PerWheel.of fun _ => Channel.reset drag, 0, 0, 0⟩

/-! ### Winch Unit (chapter 6) -/

/-- The winch states (section 6.4): IN and OUT are `inward` and `outward`. -/
inductive WinchState where
  | idle
  | inward
  | outward
  | limitIn
  | limitOut
  | stalled
deriving DecidableEq, Repr

/-- The sync record (section 6.7). -/
structure Sync where
  active : Bool
  cap : Nat
  vl : Nat
  vw : Nat
deriving DecidableEq, Repr

/-- The winch record (section 6.1). The payout count is held as the hardware counter and its overflow count (R100);
`lastPayout` is the payout count at the previous update (R101); `encA` and `encB` are the phase levels of the last
edge. -/
structure WinchUnit where
  state : WinchState
  known : Bool
  counter : BitVec 16
  overflow : Int
  lastPayout : Int
  lineSpeed : Int
  encErrors : Nat
  held : Int
  demand : Nat
  target : Int
  duty : Int
  limiter : Nat
  current : Nat
  claim : Nat
  limit : Nat
  stall : Option Nat
  clear : Option Nat
  hookClosed : Bool
  encA : Bool
  encB : Bool
  sync : Sync
  timer : Nat
deriving DecidableEq, Repr

/-- R117, with the input levels read when outputs start (R102). -/
def WinchUnit.reset (held : Int) (pins : Pins) : WinchUnit where
  state := if pins.hookClosed then .limitIn else .idle
  known := pins.hookClosed
  counter := 0
  overflow := 0
  lastPayout := 0
  lineSpeed := 0
  encErrors := 0
  held := held
  demand := 0
  target := 0
  duty := 0
  limiter := 0
  current := 0
  claim := 0
  limit := 0
  stall := none
  clear := none
  hookClosed := pins.hookClosed
  encA := pins.encA
  encB := pins.encB
  sync := ⟨false, 1000, 0, 0⟩
  timer := Config.winchPeriod

/-! ### Sense Unit (chapter 7) -/

/-- The slot kind in flight (R120). -/
inductive SlotKind where
  | none
  | cell
  | check
deriving DecidableEq, Repr

/-- The six current readings, in mA, signed (R119). -/
structure Currents where
  pack : Int
  wheels : PerWheel Int
  winch : Int
deriving DecidableEq, Repr

/-- A tap's last check pair, in mV (R123). -/
structure CheckPair where
  high : Nat
  low : Nat
deriving DecidableEq, Repr

/-- The zero codes and full scales of the six current channels (R119). -/
structure Shunts where
  pack : Shunt
  wheels : PerWheel Shunt
  winch : Shunt
deriving DecidableEq, Repr

/-- The current channels' settings in a PACK section. -/
def shuntsOf (p : Pack) : Shunts := ⟨p.shuntPack, p.shuntWheel, p.shuntWinch⟩

/-- What a slot of the tap converter keeps from its start: the tap full scales and, for a lead check sweep, its lead
threshold and how many taps it takes (R123, R128). -/
structure TapSettings where
  full : Vector Nat 6
  threshold : Nat
  taps : Nat
deriving DecidableEq, Repr

/-- The sense record (section 7.1). Entry i of a vector is tap or cell i + 1; bit k of `openSet` is tap k. `count` is
absent while AUTO is unresolved. `swept` says that a cell sweep has completed since the last reset (R120, R133).
`currentSweep` and `tapSweep` are the settings of the sweep in flight, as its start took them: written ones act at the next
sweep (R128). -/
structure Sense where
  currents : Option Currents
  taps : Vector (Option Nat) 6
  cells : Vector (Option Int) 6
  packVolts : Option Nat
  count : Option Nat
  slot : SlotKind
  checkDue : Bool
  slotCounter : Nat
  openSet : BitVec 7
  pairs : Vector (Option CheckPair) 6
  currentSweeps : BitVec 16
  cellSweeps : BitVec 16
  checkSweeps : BitVec 16
  waiting : Bool
  swept : Bool
  currentSweep : Option Shunts
  tapSweep : Option TapSettings
  currentTimer : Nat
  slotTimer : Nat
deriving DecidableEq, Repr

/-- The cell count a PACK section resolves by itself: a fixed count (R126). -/
def fixedCount (p : Pack) : Option Nat := if p.cellCount = 0 then none else some p.cellCount

/-- R129. The first slot is due at once (R120). -/
def Sense.reset (p : Pack) : Sense where
  currents := none
  taps := #v[none, none, none, none, none, none]
  cells := #v[none, none, none, none, none, none]
  packVolts := none
  count := fixedCount p
  slot := .none
  checkDue := true
  slotCounter := 0
  openSet := 0
  pairs := #v[none, none, none, none, none, none]
  currentSweeps := 0
  cellSweeps := 0
  checkSweeps := 0
  waiting := false
  swept := false
  currentSweep := none
  tapSweep := none
  currentTimer := Config.currentPeriod
  slotTimer := 0

/-! ### Pack Protection and Budget Unit (chapter 8) -/

/-- The protection states (section 8.2). -/
inductive ProtState where
  | precheck
  | normal
  | caution
  | shed
  | cutoff
deriving DecidableEq, Repr

/-- The latch reasons (section 8.3). -/
inductive LatchReason where
  | undervolt
  | nopack
deriving DecidableEq, Repr

/-- Vcorr_min and the cell that gave it (R130). -/
structure VMin where
  volts : Int
  cell : Nat
deriving DecidableEq, Repr

/-- The voltage thresholds, the hysteresis and the cell resistance (section 8.6). -/
structure Thresholds where
  vcut : Nat
  vshed : Nat
  vcau : Nat
  vrecover : Nat
  hysteresis : Nat
  rcell : Nat
deriving DecidableEq, Repr

/-- The thresholds of a PACK section. -/
def thresholdsOf (p : Pack) : Thresholds := ⟨p.vcut, p.vshed, p.vcau, p.vrecover, p.hysteresis, p.rcell⟩

/-- The Pack Protection record (chapter 8). The cutoff latch stands in the retained store. `thresholds` are those in force:
as the last cell sweep completion took them, since written ones act at the next one (R145). `cellOk`, `currentOk` and
`driveOk` are the three recovery conditions as each was last tested (R137). -/
structure Protection where
  state : ProtState
  vmin : Option VMin
  ip : Int
  blind : Bool
  dwell : Option Nat
  recovery : Option Nat
  cellOk : Bool
  currentOk : Bool
  driveOk : Bool
  thresholds : Thresholds
  target : Nat
  allowance : Nat
deriving DecidableEq, Repr

/-- R146, for the PACK section as loaded and a retained latch. -/
def Protection.reset (p : Pack) (latched : Bool) : Protection where
  state := if latched then .cutoff else .precheck
  vmin := none
  ip := 0
  blind := false
  dwell := none
  recovery := none
  cellOk := false
  currentOk := true
  driveOk := true
  thresholds := thresholdsOf p
  target := p.servoReserve
  allowance := p.servoReserve

/-- The Budget Unit record (section 8.5). `winchFirst` is the precedence WINCH, DRIVE, LAMPS. -/
structure Budget where
  cd : Nat
  cw : Nat
  cl : Nat
  used : Nat
  winchFirst : Bool
  gs : Nat
  gd : Nat
  gw : Nat
  gl : Nat
  headroom : Nat
  count : BitVec 32
  timer : Nat
deriving DecidableEq, Repr

/-- R146. -/
def Budget.reset : Budget := ⟨0, 0, 0, 0, false, 0, 0, 0, 0, 0, 0, Config.apportionPeriod⟩

/-! ### Lamp Unit (chapter 9) -/

/-- A lamp channel record (section 9.1); its role and rated current stand in the LAMPS section. -/
structure LampChannel where
  base : Nat
  patterned : Bool
  pattern : Option Nat
  role : Nat
  wished : Nat
  output : Nat
deriving DecidableEq, Repr

/-- A pattern step (R148). -/
structure Step where
  mask : BitVec 8
  level : Nat
  duration : Nat
  isEnd : Bool
  isEmpty : Bool
deriving DecidableEq, Repr

/-- Where the sequencer stands at a step: the step and the ms left of it (R148). -/
structure Position where
  step : Nat
  timer : Nat
deriving DecidableEq, Repr

/-- The Lamp Unit record (sections 9.1 to 9.3). `active` says that bank 1 is active; no position means at the wrap. -/
structure LampUnit where
  channels : Vector LampChannel 8
  bank0 : Vector Step 32
  bank1 : Vector Step 32
  active : Bool
  switchPending : Bool
  position : Option Position
  claim : Nat
  grant : Nat
  blinkOn : Bool
  blinkTimer : Nat
deriving DecidableEq, Repr

/-- An EMPTY step with no other mark set; the fields the rule leaves out are held at their least values. -/
def Step.reset : Step := ⟨0, 0, 1, false, true⟩

/-- R160, with the scene named by the first effective SCENE. -/
def LampUnit.reset (scene : Scene) (halfPeriod : Nat) : LampUnit where
  channels := Vector.ofFn fun i => ⟨scene.levels.get i, scene.patterned.getLsbD i.val, none, 0, 0, 0⟩
  bank0 := Vector.replicate 32 Step.reset
  bank1 := Vector.replicate 32 Step.reset
  active := false
  switchPending := false
  position := none
  claim := 0
  grant := 0
  blinkOn := false
  blinkTimer := halfPeriod

/-! ### Link ports (chapter 10) -/

/-- The frame assembler between two commands (R161). -/
inductive Assembler where
  | hunting
  | collecting
deriving DecidableEq, Repr

/-- A reply on the radio line: waiting out its delay or being sent, with the µs left (R163). -/
inductive ReplyPhase where
  | none
  | delay (bytes : List Byte) (micros : Nat)
  | sending (bytes : List Byte) (micros : Nat)
deriving DecidableEq, Repr

/-- The frame counts of reply slots 1 to 5 (section 10.2). -/
structure ReplyCounts where
  pack : Nat
  cells : Nat
  winch : Nat
  drive : Nat
  flags : Nat
deriving DecidableEq, Repr

/-- The Radio Link Port. -/
structure RadioPort where
  assembler : Assembler
  counts : ReplyCounts
  reply : ReplyPhase
deriving DecidableEq, Repr

/-- R168. -/
def RadioPort.reset : RadioPort := ⟨.hunting, ⟨0, 0, 0, 0, 0⟩, .none⟩

/-- The requests that keep the request cell occupied (R166). -/
inductive HeldRequest where
  | profileWrite
  | checkLeads
deriving DecidableEq, Repr

/-- The companion transfer between the fall and the rise of SEL: the status byte and the answer it clocks out, or a
transfer whose fall came before the links listened (R164, R168). -/
inductive Transfer where
  | idle
  | running (status : Byte) (answer : Option (List Byte))
  | passedOver
deriving DecidableEq, Repr

/-- The Companion Link Port (section 10.3). `restartHeld` says that the answer held is that of an accepted RESTART. -/
structure CompPort where
  request : Option HeldRequest
  answer : Option (List Byte)
  transfer : Transfer
  restartHeld : Bool
deriving DecidableEq, Repr

/-- R168. -/
def CompPort.reset (selLow : Bool) : CompPort := ⟨none, none, if selLow then .passedOver else .idle, false⟩

/-! ### Notice Unit and Profile Store (chapter 11) -/

/-- The two pending sets: bit k is notice kind k (R170). -/
structure Notices where
  radio : BitVec 16
  comp : BitVec 16
deriving DecidableEq, Repr

/-- A section's flash copy: bytes and their CRC, or what a store cut short or failed leaves, whose CRC fails (R173). -/
inductive FlashCopy where
  | whole (bytes : List Byte) (crc : BitVec 16)
  | broken
deriving DecidableEq, Repr

/-- The Profile Store: STORING exactly while `storing` names a section (section 11.2). -/
structure Store where
  flash : Vector FlashCopy 11
  storing : Option Sect
deriving DecidableEq, Repr

/-- The copy a completed store leaves: the bytes and a fresh CRC (R173). -/
def flashOf (bytes : List Byte) : FlashCopy := .whole bytes (crc16 bytes)

/-- The section of a store index. -/
def sectOfIndex (i : Fin 11) : Sect := (sectOfNumber i.val).getD .sources

/-- The flash copies of a profile all of whose sections have been stored. -/
def flashOfProfile (p : Profile) : Vector FlashCopy 11 := Vector.ofFn fun i => flashOf (sectionBytes p (sectOfIndex i))

/-- The reset kinds (section 11.3). -/
inductive ResetKind where
  | powerOn
  | supplyDip
  | restart
deriving DecidableEq, Repr

/-- The retained store (section 11.3): the cutoff latch is set exactly while `latch` names its reason; `checkOk` says
that the store's own check value holds. -/
structure Retained where
  latch : Option LatchReason
  dips : Nat
  lastReset : ResetKind
  restartFlag : Bool
  checkOk : Bool
deriving DecidableEq, Repr

/-- R175: the retained store that a POWER-ON leaves. -/
def Retained.reset : Retained := ⟨none, 0, .powerOn, false, true⟩

end Sys2Proof.Machine
end

