-- ==== Sys2Proof/Machine/State.lean ====
section
/-! DEFINITION. The state of the WKC44, the reasons a step could stop, and the state after reset. -/
namespace Sys2Proof.Machine

/-- The machine's faults. There are none: the manual gives no command of the block an effect that stops it, and every
value the manual leaves open is a free value, so that no constructor is needed. -/
inductive Fault where
deriving DecidableEq, Repr

/-- The reasons a command is refused. -/
inductive Refusal where
  /-- A command that has no meaning yet, raised by an arm of `exec` alone; safe, since the machine only stops. No arm of
  this model raises it. -/
  | notModelled (mnemonic : String)
deriving DecidableEq, Repr

/-- The whole state: every block's record, the live profile, the flash copies, the retained store, the model's own
clock of ms since start-up, and the queue of waiting commands, first in, first out. -/
structure State where
  radio : RadioCtx
  comp : CompCtx
  slots : Slots
  resolver : Resolver
  steering : Steering
  drive : DriveUnit
  winch : WinchUnit
  sense : Sense
  protection : Protection
  budget : Budget
  lamps : LampUnit
  radioPort : RadioPort
  compPort : CompPort
  notices : Notices
  profile : Profile
  store : Store
  retained : Retained
  nowMs : Nat
  pending : List Instr
deriving DecidableEq, Repr

/-- Input pins at rest: hook open, both phases low, SEL high. -/
def Pins.rest : Pins := ⟨false, false, false, false⟩

/-- The machine right after reset: POWER-ON and its start-up (R175, R176) with flash copies that hold the defaults and
the input pins at rest. RESTARTED is pending for the companion, and the first lamp resolution (R160) has wished the
default BRAKE lamp L3 at 1000 under a grant of 0. -/
def State.reset : State where
  radio := RadioCtx.reset
  comp := CompCtx.reset
  slots := Slots.reset
  resolver := Resolver.reset
  steering := Steering.reset .front 0 defaultGeometry
  drive := DriveUnit.reset 1000
  winch := WinchUnit.reset 0 Pins.rest
  sense := Sense.reset defaultPack
  protection := Protection.reset defaultPack false
  budget := Budget.reset
  lamps :=
    { LampUnit.reset (defaultScene 0) 350 with
      channels := (LampUnit.reset (defaultScene 0) 350).channels.set 3 ⟨0, false, none, 1000, 1000, 0⟩
      claim := 150 }
  radioPort := RadioPort.reset
  compPort := CompPort.reset false
  notices := ⟨0, 0x8000#16⟩
  profile := defaultProfile
  store := ⟨flashOfProfile defaultProfile, none⟩
  retained := Retained.reset
  nowMs := 0
  pending := []

end Sys2Proof.Machine
end

