-- ==== Sys2Proof/Machine/Ops.lean ====
section
/-! DEFINITION. The named operations over the state: one replacement per block, the views that the manual computes from
the records at every moment, the sets of notices and causes, and the raising of a notice. -/
namespace Sys2Proof.Machine

/-! ### Replacing a block's record -/

/-- The state with `radio` replaced. -/
def State.setRadio (s : State) (v : RadioCtx) : State := { s with radio := v }

/-- The state with `comp` replaced. -/
def State.setComp (s : State) (v : CompCtx) : State := { s with comp := v }

/-- The state with `slots` replaced. -/
def State.setSlots (s : State) (v : Slots) : State := { s with slots := v }

/-- The state with `resolver` replaced. -/
def State.setResolver (s : State) (v : Resolver) : State := { s with resolver := v }

/-- The state with `steering` replaced. -/
def State.setSteering (s : State) (v : Steering) : State := { s with steering := v }

/-- The state with `drive` replaced. -/
def State.setDrive (s : State) (v : DriveUnit) : State := { s with drive := v }

/-- The state with `winch` replaced. -/
def State.setWinch (s : State) (v : WinchUnit) : State := { s with winch := v }

/-- The state with `sense` replaced. -/
def State.setSense (s : State) (v : Sense) : State := { s with sense := v }

/-- The state with `protection` replaced. -/
def State.setProtection (s : State) (v : Protection) : State := { s with protection := v }

/-- The state with `budget` replaced. -/
def State.setBudget (s : State) (v : Budget) : State := { s with budget := v }

/-- The state with `lamps` replaced. -/
def State.setLamps (s : State) (v : LampUnit) : State := { s with lamps := v }

/-- The state with `radioPort` replaced. -/
def State.setRadioPort (s : State) (v : RadioPort) : State := { s with radioPort := v }

/-- The state with `compPort` replaced. -/
def State.setCompPort (s : State) (v : CompPort) : State := { s with compPort := v }

/-- The state with `notices` replaced. -/
def State.setNotices (s : State) (v : Notices) : State := { s with notices := v }

/-- The state with `profile` replaced. -/
def State.setProfile (s : State) (v : Profile) : State := { s with profile := v }

/-- The state with `store` replaced. -/
def State.setStore (s : State) (v : Store) : State := { s with store := v }

/-- The state with `retained` replaced. -/
def State.setRetained (s : State) (v : Retained) : State := { s with retained := v }

/-- The state with `nowMs` replaced. -/
def State.setNowMs (s : State) (v : Nat) : State := { s with nowMs := v }

/-- The state with `pending` replaced. -/
def State.setPending (s : State) (v : List Instr) : State := { s with pending := v }

/-! ### Views -/

/-- RADIO is present exactly while its context is LIVE; COMPANION while LIVE and not barred (R2). -/
def present (s : State) : Master → Bool
  | .radio => s.radio.state == .live
  | .companion => s.comp.state == .live && !s.comp.barred

/-- A master's reach function mask (R13). -/
def fnMask (s : State) : Master → BitVec 7
  | .radio => s.profile.sources.radioFns
  | .companion => s.profile.sources.compFns

/-- A master's slot for a function. -/
def slotOf (s : State) (m : Master) (f : Fn) : Slot :=
  match m with
  | .radio => s.slots.radio.get f
  | .companion => s.slots.comp.get f

/-- The state with a slot replaced. -/
def setSlot (s : State) (m : Master) (f : Fn) (x : Slot) : State :=
  match m with
  | .radio => s.setSlots { s.slots with radio := s.slots.radio.set f x }
  | .companion => s.setSlots { s.slots with comp := s.slots.comp.set f x }

/-- A slot is usable when it is FRESH or TAKEN, confirmed where its function has a mark, and within its source's function
mask (R27). -/
def usable (s : State) (m : Master) (f : Fn) : Bool :=
  ((slotOf s m f).state == .fresh || (slotOf s m f).state == .taken) && (!hasMark f || (slotOf s m f).confirmed)
    && (fnMask s m).getLsbD (fnNumber f)

/-- The authority map's entry of a function. -/
def authOf (s : State) (f : Fn) : AuthEntry := s.profile.authority.get f

/-- The effective record's entry of a function. -/
def effOf (s : State) (f : Fn) : Eff := s.resolver.eff.get f

/-- The effective value of a function. -/
def effective (s : State) (f : Fn) : Int := (effOf s f).value

/-- The state with an effective entry replaced. -/
def setEff (s : State) (f : Fn) (e : Eff) : State := s.setResolver { s.resolver with eff := s.resolver.eff.set f e }

/-- The grant record of a function. -/
def grantOf (s : State) (f : Fn) : Grant := s.resolver.grants.get f

/-- The state with a grant record replaced. -/
def setGrant (s : State) (f : Fn) (g : Grant) : State :=
  s.setResolver { s.resolver with grants := s.resolver.grants.set f g }

/-- At least one grant is HELD (BEACON, R155). -/
def anyHeld (s : State) : Bool := Fn.all.any fun f => (grantOf s f).held.isSome

/-- The function is in the lockout set (R41). -/
def locked (s : State) (f : Fn) : Bool := s.resolver.lockout && lockable f

/-- A value's magnitude is no greater than the neutral band (R26). -/
def inBand (s : State) (v : Int) : Bool := decide (v.natAbs ≤ s.profile.drive.neutralBand)

/-- The Steering Unit's busy mark, set exactly while SLEWING (section 4.1). -/
def busy (s : State) : Bool := s.steering.state == .slewing

/-- A wheel channel's record. -/
def chan (s : State) (w : Wheel) : Channel := s.drive.channels.get w

/-- The state with a wheel channel replaced. -/
def setChan (s : State) (w : Wheel) (c : Channel) : State :=
  s.setDrive { s.drive with channels := s.drive.channels.set w c }

/-- The state with a rule applied to every wheel channel. -/
def mapChans (s : State) (g : Channel → Channel) : State :=
  s.setDrive { s.drive with channels := s.drive.channels.map g }

/-- The mean wheel speed: the floor of the mean of the four magnitudes (section 4.3). -/
def meanSpeed (s : State) : Nat := (s.drive.channels.list.map fun c => c.speed.natAbs).sum / 4

/-- All four wheel speeds are 0 (R96). -/
def allStill (s : State) : Bool := s.drive.channels.list.all fun c => c.speed == 0

/-- The drive at rest summary: no channel is in RUN (R97). -/
def atRest (s : State) : Bool := s.drive.channels.list.all fun c => !(c.state == .run)

/-- The drive claim Cd: the sum of the four claims (R89). -/
def driveClaim (s : State) : Nat := (s.drive.channels.list.map fun c => c.claim).sum

/-- The winch is driven in IN and OUT (section 6.4). -/
def winchDriven (w : WinchUnit) : Bool := w.state == .inward || w.state == .outward

/-- The parked status (R96). -/
def parked (s : State) : Bool :=
  decide (Config.stillTime ≤ s.drive.still)
    && (s.drive.channels.list.all fun c => c.state == .drag || c.state == .lockedOut) && !winchDriven s.winch

/-- The payout count: the overflow count × 65 536 plus the counter (R100). -/
def payout (w : WinchUnit) : Int := w.overflow * 65536 + (w.counter.toNat : Int)

/-- The limit count (R101). -/
def limitCount (p : WinchSection) : Nat := p.payoutMax * p.edgesPer100 / 100

/-- The payout in millimetres (R101). -/
def payoutMm (p : WinchSection) (w : WinchUnit) : Int := (payout w * 100).tdiv p.edgesPer100

/-- At the inward stop: home KNOWN and payout count ≤ 0 (R104). -/
def atInStop (s : State) : Bool := s.winch.known && decide (payout s.winch ≤ 0)

/-- At the outward stop: home KNOWN and payout count ≥ limit count (R104). -/
def atOutStop (s : State) : Bool := s.winch.known && decide ((limitCount s.profile.winch : Int) ≤ payout s.winch)

/-- The top duty of the RANGE in force (R83). -/
def topDuty (s : State) : Nat :=
  if effective s .range = 0 then s.profile.drive.topLow
  else if effective s .range = 1 then s.profile.drive.topMid
  else s.profile.drive.topHigh

/-! ### Bridges and pins -/

/-- What an H bridge does with its motor: off, the motor coasting; driven at a duty whose sign is the direction; or the
motor shorted for a share of each PWM period, in permille (R77, R106). -/
inductive Bridge where
  | off
  | driven (duty : Int)
  | shorted (level : Nat)
deriving DecidableEq, Repr

/-- A bridge driven at a duty: at duty 0 it is off and the motor coasts (R77, R106). -/
def bridgeAt (duty : Int) : Bridge := if duty = 0 then .off else .driven duty

/-- A wheel's bridge (R77). -/
def wheelBridge (c : Channel) : Bridge :=
  match c.state with
  | .run => bridgeAt c.duty
  | .drag => if c.dragLevel = 0 then .off else .shorted c.dragLevel.toNat
  | .tripped => .off
  | .lockedOut => .off

/-- The winch bridge (R106): shorted at full level in the four braked states. From a reset until outputs start it is off
(R117); start-up takes no time (R176), so between two commands it is as here. -/
def winchBridge (w : WinchUnit) : Bridge := if winchDriven w then bridgeAt w.duty else .shorted 1000

/-- What MISO carries as byte i of a transfer: the status byte, then the answer's envelope if there is one, then 0x00. None
is high impedance: SEL is high, or the transfer's fall came before the links listened (R164, R168). -/
def misoByte (s : State) (i : Nat) : Option Byte :=
  match s.compPort.transfer with
  | .running status sent => some ((status :: sent.getD []).getD i 0)
  | .idle => none
  | .passedOver => none

/-! ### Sets -/

/-- The set with member `i` added. -/
def addMember {n : Nat} (v : BitVec n) (i : Nat) : BitVec n := v ||| (1#n <<< i)

/-- The set with member `i` removed. -/
def dropMember {n : Nat} (v : BitVec n) (i : Nat) : BitVec n := v &&& ~~~(1#n <<< i)

/-- The lowest-numbered member of a set: its lead notice, for a pending set (R170). -/
def lead {n : Nat} (v : BitVec n) : Option Nat := (List.range n).find? fun i => v.getLsbD i

/-- A pending set with a raised kind added where the master's notice mask includes it (R170). -/
def raiseIn (set mask : BitVec 16) (k : Notice) : BitVec 16 :=
  if mask.getLsbD (noticeNumber k) then addMember set (noticeNumber k) else set

/-- Raise a notice kind (R170). -/
def raise (k : Notice) (s : State) : State :=
  s.setNotices ⟨raiseIn s.notices.radio s.profile.sources.radioNotices k,
    raiseIn s.notices.comp s.profile.sources.compNotices k⟩

/-- Add a refusal cause to the cause set (R16). -/
def addCause (c : Cause) (s : State) : State :=
  s.setComp { s.comp with causes := addMember s.comp.causes (causeCode c) }

/-- The COMPANION pending set holds a kind that is in the companion notice mask: the NOTICE bit (R167). -/
def noticeWaiting (s : State) : Bool := (s.notices.comp &&& s.profile.sources.compNotices) != 0

/-- ATTN is driven low (R167). -/
def attnLow (s : State) : Bool := s.compPort.answer.isSome || noticeWaiting s

end Sys2Proof.Machine
end

