-- ==== Sys2Proof/Machine/Flags.lean ====
section
/-! DEFINITION. The status byte of the companion link and its flags (section 10.6, R164, R167). -/
namespace Sys2Proof.Machine

/-- A flag at a bit of the status byte. -/
def flagBit (b : Bool) (i : Nat) : Byte := if b then 1#8 <<< i else 0

/-- The CMD_PENDING flag: the request cell is occupied. -/
def cmdPending (s : State) : Bool := s.compPort.request.isSome

/-- The ANS_READY flag: the answer cell is occupied. -/
def ansReady (s : State) : Bool := s.compPort.answer.isSome

/-- The CUTOFF flag. -/
def inCutoff (s : State) : Bool := s.protection.state == .cutoff

/-- The status byte: ANS_READY, CMD_PENDING, NOTICE, BARRED, RADIO_PRESENT, PARKED, CUTOFF, and bit 7 always 1. -/
def statusByte (s : State) : Byte :=
  flagBit (ansReady s) 0 ||| flagBit (cmdPending s) 1 ||| flagBit (noticeWaiting s) 2 ||| flagBit s.comp.barred 3
    ||| flagBit (present s .radio) 4 ||| flagBit (parked s) 5 ||| flagBit (inCutoff s) 6 ||| 0x80#8

end Sys2Proof.Machine
end

