-- ==== Sys2Proof/Machine/LampUnit.lean ====
section
/-! DEFINITION. The Lamp Unit: level resolution (R154 to R157), the scene in force (R147), the pattern sequencer (R149,
R150) and the blink generator (R153). -/
namespace Sys2Proof.Machine

/-- Stage 1: a patterned channel with a pattern level shows it, every other channel its scene's base level (R155). -/
def baseLevel (c : LampChannel) : Nat := if c.patterned then c.pattern.getD c.base else c.base

/-- The role of channel `i`. -/
def roleOf (s : State) (i : Fin 8) : Role := (s.profile.lamps.channels.get i).role

/-- Some channel with role HEAD has a stage 1 level above 0 (R155). -/
def headLit (s : State) : Bool :=
  (List.finRange 8).any fun i => roleOf s i == .head && decide (0 < baseLevel (s.lamps.channels.get i))

/-- 1000 while the blink phase is on, 0 while off. -/
def blinkLevel (s : State) : Nat := if s.lamps.blinkOn then 1000 else 0

/-- Stage 2: the role level (R155). -/
def roleLevel (s : State) (r : Role) (base : Nat) : Nat :=
  match r with
  | .brake => if atRest s ∧ 100 ≤ effective s .drag then 1000 else base
  | .tail => if headLit s then max base s.profile.lamps.tailLevel else base
  | .reverse => if effective s .drive < -(s.profile.drive.neutralBand : Int) then 1000 else base
  | .indLeft => if (s.profile.lamps.indicator : Int) < effective s .steer then blinkLevel s else base
  | .indRight => if effective s .steer < -(s.profile.lamps.indicator : Int) then blinkLevel s else base
  | .winch => if winchDriven s.winch then 1000 else base
  | .beacon => if anyHeld s then blinkLevel s else base
  | .head => base
  | .rock => base
  | .bar => base

/-- Stage 3: the wished level under the protection state (R156). -/
def wishedLevel (s : State) (r : Role) (level : Nat) : Nat :=
  match s.protection.state with
  | .precheck => level
  | .normal => level
  | .caution => if r = .tail then blinkLevel s else level
  | .shed => if r = .tail ∨ r = .brake ∨ r = .indLeft ∨ r = .indRight then level else 0
  | .cutoff =>
    if r = .tail ∨ r = .brake then level else if r = .indLeft ∨ r = .indRight then blinkLevel s else 0

/-- The wished level of channel `i`, through stages 1 to 3. -/
def wishOf (s : State) (i : Fin 8) : Nat :=
  wishedLevel s (roleOf s i) (roleLevel s (roleOf s i) (baseLevel (s.lamps.channels.get i)))

/-- The lamp claim: the sum of floor(rated current × wished level / 1000) (R157). -/
def lampClaim (s : State) : Nat :=
  ((List.finRange 8).map fun i => (s.profile.lamps.channels.get i).rated * wishOf s i / 1000).sum

/-- Stage 4: the output level under a claim and a grant (R157). -/
def outputLevel (wished claim grant : Nat) : Nat := if claim ≤ grant then wished else wished * grant / claim

/-- The Lamp Unit's record after a lamp resolution (R154). -/
def lampsResolved (s : State) : LampUnit :=
  { s.lamps with
    claim := lampClaim s
    channels := Vector.ofFn fun i =>
      { s.lamps.channels.get i with
        role := roleLevel s (roleOf s i) (baseLevel (s.lamps.channels.get i))
        wished := wishOf s i
        output := outputLevel (wishOf s i) (lampClaim s) s.lamps.grant } }

/-- A lamp resolution: all eight channels through the four stages, the claim posted (R154). -/
def lampResolve (s : State) : State := s.setLamps (lampsResolved s)

/-- The number of the scene in force: the effective SCENE (R147). -/
def sceneInForce (s : State) : Fin 16 := Fin.ofNat 16 (effective s .scene).toNat

/-- Each channel takes the base level and patterned mark of the scene in force (R147, R159). -/
def takeScene (s : State) : State :=
  let sc := s.profile.scenes.get (sceneInForce s)
  s.setLamps
    { s.lamps with
      channels := Vector.ofFn fun i =>
        { s.lamps.channels.get i with base := sc.levels.get i, patterned := sc.patterned.getLsbD i.val } }

/-- A new effective SCENE (R147). -/
def sceneHanded (s : State) : State := lampResolve (takeScene s)

/-! ### The sequencer -/

/-- The steps of the active bank (R148). -/
def activeBank (l : LampUnit) : Vector Step 32 := if l.active then l.bank1 else l.bank0

/-- Step `i` of a bank. -/
def stepAt (b : Vector Step 32) (i : Nat) : Step := b.toList.getD i Step.reset

/-- The cycle end: the lowest-numbered step whose END mark is set, or step 31 (R149). -/
def cycleEnd (b : Vector Step 32) : Nat := ((List.range 31).find? fun i => (stepAt b i).isEnd).getD 31

/-- The first step from `i` on, up to and including the cycle end, that is not EMPTY (R150). -/
def findStep (b : Vector Step 32) (i : Nat) : Option Nat :=
  (List.range 32).find? fun j => decide (i ≤ j) && decide (j ≤ cycleEnd b) && !(stepAt b j).isEmpty

/-- The position becomes step `i`, the channels in its mask take its level, and the step timer is loaded (R150). -/
def startStep (i : Nat) (s : State) : State :=
  let st := stepAt (activeBank s.lamps) i
  s.setLamps
    { s.lamps with
      position := some ⟨i, st.duration * 10⟩
      channels := Vector.ofFn fun k =>
        if st.mask.getLsbD k.val then { s.lamps.channels.get k with pattern := some st.level }
        else s.lamps.channels.get k }

/-- Every pattern level becomes absent and the sequencer stands at the wrap (R150). -/
def clearPattern (s : State) : State :=
  s.setLamps
    { s.lamps with
      position := none
      channels := Vector.ofFn fun k => { s.lamps.channels.get k with pattern := none } }

/-- A pending switch is taken at the wrap (R150). -/
def takeSwitch (s : State) : State :=
  if s.lamps.switchPending then
    raise .bankSwitched (s.setLamps { s.lamps with active := !s.lamps.active, switchPending := false })
  else s

/-- The wrap, and the step started after it (R150). -/
def wrapCycle (s : State) : State :=
  let s1 := takeSwitch (clearPattern s)
  match findStep (activeBank s1.lamps) 0 with
  | some i => startStep i s1
  | none => s1

/-- The sequencer's step timer expires (R150). -/
def stepExpires (s : State) : State :=
  match s.lamps.position with
  | none => s
  | some p =>
    let b := activeBank s.lamps
    lampResolve
      (if p.step = cycleEnd b then wrapCycle s
      else match findStep b (p.step + 1) with
        | some i => startStep i s
        | none => wrapCycle s)

/-- A switch to the other bank becomes pending, or is taken at once where the sequencer stands at the wrap (R151). -/
def requestSwitch (s : State) : State :=
  let s1 := s.setLamps { s.lamps with switchPending := true }
  match s.lamps.position with
  | some _ => s1
  | none => lampResolve (wrapCycle s1)

/-- The blink phase toggles, its timer reloads, and a lamp resolution is taken (R153). -/
def blinkExpires (s : State) : State :=
  lampResolve
    (s.setLamps { s.lamps with blinkOn := !s.lamps.blinkOn, blinkTimer := s.profile.lamps.halfPeriod })

/-- A step as a PATTERN_WRITE stores it: level and duration clamped (R152). -/
def storedStep (b : StepBytes) : Step where
  mask := b.mask
  level := clampN 0 1000 b.level.toNat
  duration := clampN 1 255 b.duration.toNat
  isEnd := b.marks.getLsbD 0
  isEmpty := b.marks.getLsbD 1

/-- A bank with steps written from the first index upward (R152). -/
def writeSteps (b : Vector Step 32) (first : Nat) (steps : List StepBytes) : Vector Step 32 :=
  Vector.ofFn fun i =>
    if first ≤ i.val then
      match steps[i.val - first]? with
      | some st => storedStep st
      | none => b.get i
    else b.get i

/-- The steps are written into the bank named, 0 or 1 (R152). -/
def writePattern (bank first : Nat) (steps : List StepBytes) (s : State) : State :=
  if bank = 0 then s.setLamps { s.lamps with bank0 := writeSteps s.lamps.bank0 first steps }
  else s.setLamps { s.lamps with bank1 := writeSteps s.lamps.bank1 first steps }

end Sys2Proof.Machine
end

