-- ==== Sys2Proof/Machine/DriveUnit.lean ====
section
/-! DEFINITION. The Wheel Drive Unit: what a handed-over effective value does at once (R77, R82, R84, R87, R95), the
wheel speeds (R78, R79), the drive chain (R81 to R88), claims and limits (R89, R90), trips (R91 to R95) and the still
timer (R96). -/
namespace Sys2Proof.Machine

/-! ### Changes of state -/

/-- A channel at rest in a state: command, duty target, duty and claim 0, over count 0 (R82, R92, R94). -/
def stopAs (st : ChanState) (c : Channel) : Channel :=
  { c with state := st, command := 0, target := 0, duty := 0, claim := 0, overs := 0 }

/-- A channel goes to DRAG at the effective DRAG (R77, R82). -/
def toDrag (drag : Int) (c : Channel) : Channel :=
  { stopAs .drag c with dragLevel := drag, retry := none, clear := none }

/-- A channel goes to RUN with its duty at 0 (R82, R93). -/
def toRun (c : Channel) : Channel := { stopAs .run c with retry := none, clear := none }

/-- A new effective DRIVE, at a channel: a running channel stops at once within the band (R82), and a locked-out
channel's clear timer starts, runs on or stops (R95). -/
def driveAtChannel (band : Bool) (drag : Int) (c : Channel) : Channel :=
  match c.state with
  | .run => if band then toDrag drag c else c
  | .lockedOut => { c with clear := if band then some (c.clear.getD 0) else none }
  | .drag => c
  | .tripped => c

/-- A new effective DRIVE handed to the Wheel Drive Unit (R82, R95). -/
def driveHanded (s : State) : State :=
  mapChans s (driveAtChannel (inBand s (effective s .drive)) (effective s .drag))

/-- A new effective DRAG: every channel in DRAG follows it at once (R77). -/
def dragHanded (s : State) : State :=
  mapChans s fun c => if c.state = .drag then { c with dragLevel := effective s .drag } else c

/-- A new effective RANGE, or new tops: every duty beyond the top is brought to it, keeping its sign (R87). -/
def rangeHanded (s : State) : State :=
  mapChans s fun c => { c with duty := clampI (-(topDuty s : Int)) (topDuty s) c.duty }

/-- The busy mark set, or a new transition limit while it is set: every channel in RUN clamps its command and its duty
target (R84). -/
def busyClamp (s : State) : State :=
  mapChans s fun c =>
    if c.state = .run then
      let l : Int := s.profile.geometry.transition
      { c with command := clampI (-l) l c.command, target := clampI (-l) l c.target }
    else c

/-! ### Wheel speed -/

/-- The speed magnitude of an interval in µs (R78). -/
def edgeSpeed (p : DriveSection) (micros : Nat) : Nat :=
  min 32767 (p.circumference * 1000000 / (p.edgesPerRev * micros))

/-- A speed of a magnitude with the sign of a last drive sign (R79). -/
def signedSpeed (reverse : Bool) (size : Nat) : Int := if reverse then -(size : Int) else size

/-- A hall edge at a channel, `micros` after that input's previous edge (R78, R79). -/
def edgeAtChannel (p : DriveSection) (micros : Nat) (c : Channel) : Channel :=
  if c.timing then
    let interval := c.carry + micros
    if interval < Config.hallNoise then { c with carry := interval }
    else
      { c with
        carry := 0
        edgeIdle := 0
        speed := signedSpeed c.lastReverse (edgeSpeed p interval) }
  else { c with timing := true, carry := 0, edgeIdle := 0 }

/-- The still timer is set to 0 and held there while any speed is not 0 (R96). -/
def holdStill (s : State) : State := if allStill s then s else s.setDrive { s.drive with still := 0 }

/-- A hall edge on a wheel (R78). -/
def hallEdge (w : Wheel) (micros : Nat) (s : State) : State :=
  holdStill (setChan s w (edgeAtChannel s.profile.drive micros (chan s w)))

/-- No accepted edge for 250 ms: the speed becomes 0, and the next edge only starts an interval (R78, R79). -/
def speedExpires (w : Wheel) (s : State) : State :=
  setChan s w { chan s w with speed := 0, timing := false, carry := 0, edgeIdle := Config.speedTimeout }

/-! ### The drive chain -/

/-- Stages 2 to 4: range, sync cap and ratio (R83). -/
def scaledCommand (e : Int) (top cap : Nat) (ratio : Int) : Int :=
  (((e * top).tdiv 1000 * cap).tdiv 1000 * ratio).tdiv 1024

/-- Stage 5: the transition limit while the busy mark is set (R84). -/
def transitionClamp (s : State) (c : Int) : Int :=
  if busy s then clampI (-(s.profile.geometry.transition : Int)) s.profile.geometry.transition c else c

/-- The command c_w that an update of a wheel computes (R83, R84). -/
def wheelCommand (s : State) (w : Wheel) : Int :=
  transitionClamp s
    (scaledCommand (effective s .drive) (topDuty s) s.winch.sync.cap (s.steering.geometry.ratios.get w))

/-- A channel qualifies for the slip test (R85). -/
def qualifies (c : Channel) : Bool := c.state == .run && decide (50 ≤ c.command.natAbs) && c.ratio != 0

/-- The normalised speed (R85). -/
def normSpeed (c : Channel) : Nat := c.speed.natAbs * 1024 / c.ratio.natAbs

/-- The other channels that qualify. -/
def otherQualifying (s : State) (w : Wheel) : List Channel :=
  ((Wheel.all.filter fun v => v != w).map (chan s)).filter qualifies

/-- The mean normalised speed of channels. -/
def meanNorm (cs : List Channel) : Nat := (cs.map normSpeed).sum / cs.length

/-- The slip test of a channel with this update's command and ratio: its normalised speed is above the threshold that
the others give (R85). -/
def slips (s : State) (w : Wheel) (c : Channel) : Bool :=
  let others := otherQualifying s w
  qualifies c && !others.isEmpty && decide (50 ≤ meanNorm others)
    && decide (meanNorm others * (100 + s.profile.drive.slipMargin) / 100 < normSpeed c)

/-- The slip trim after an update in RUN (R85). -/
def slipAfter (slipping : Bool) (trim : Nat) : Nat := if slipping then min 600 (trim + 10) else trim - 2

/-- The limiter trim after an update in RUN, IN or OUT (R86, R109). -/
def limiterAfter (current limit trim : Nat) : Nat :=
  if limit < current then min 1000 (trim + 20)
  else if current ≤ limit * 15 / 16 then trim - 5
  else trim

/-- A command cut by a trim in permille. -/
def trimmed (c : Int) (trim : Nat) : Int := (c * (1000 - (trim : Int))).tdiv 1000

/-- The last drive sign after an update that gives a duty: it changes when the duty is nonzero with the other sign (R79). -/
def reverseAfter (duty : Int) (reverse : Bool) : Bool := if duty = 0 then reverse else decide (duty < 0)

/-- Stages 2 to 8 of an update of a channel in RUN, and its claim (R83 to R89). The speed takes the sign of the last
nonzero duty (R79). -/
def chainStages (s : State) (w : Wheel) (c0 : Channel) : Channel :=
  let c := { c0 with command := wheelCommand s w, ratio := s.steering.geometry.ratios.get w }
  let slip := slipAfter (slips s w c) c.slip
  let limiter := limiterAfter c.current c.limit c.limiter
  let target := trimmed (trimmed c.command slip) limiter
  let duty := clampI (-(topDuty s : Int)) (topDuty s) (approach c.duty target s.profile.drive.accel)
  let reverse := reverseAfter duty c.lastReverse
  { c with
    slip := slip
    limiter := limiter
    target := target
    duty := duty
    lastReverse := reverse
    speed := signedSpeed reverse c.speed.natAbs
    claim := s.profile.drive.imax * c.command.natAbs / 1000 }

/-- The decay of the trims outside RUN (R88). -/
def decayTrims (c : Channel) : Channel := { c with slip := c.slip - 2, limiter := c.limiter - 5 }

/-- What an update makes of a channel (R81, R82, R88). -/
def updatedChannel (s : State) (w : Wheel) (c : Channel) : Channel :=
  match c.state with
  | .run =>
    if inBand s (effective s .drive) then decayTrims (toDrag (effective s .drag) c) else chainStages s w c
  | .drag => if inBand s (effective s .drive) then decayTrims c else chainStages s w (toRun c)
  | .tripped => decayTrims c
  | .lockedOut => decayTrims c

/-- The lamps follow a change of the drive at rest summary (R154). -/
def lampsIfRest (before : Bool) (s : State) : State := if atRest s = before then s else lampResolve s

/-- A wheel channel's update timer expires (R81). -/
def wheelUpdate (w : Wheel) (s : State) : State :=
  lampsIfRest (atRest s)
    (setChan s w { updatedChannel s w (chan s w) with timer := Config.wheelPeriod })

/-! ### Limits -/

/-- Each channel copies its claim, and the unit copies Cd, as the Budget Unit reads it (R90). -/
def copyClaims (s : State) : State :=
  s.setDrive
    { s.drive with
      channels := s.drive.channels.map fun c => { c with apportioned := c.claim }
      apportioned := driveClaim s }

/-- A published drive grant sets each channel's limit (R90). -/
def publishDrive (gd : Nat) (s : State) : State :=
  s.setDrive
    { s.drive with
      grant := gd
      channels := s.drive.channels.map fun c => { c with limit := gd * c.apportioned / s.drive.apportioned } }

/-! ### Trips -/

/-- The trip list after a trip at `now` (R92): the entries as old as the window leave the head, the new time is
appended. -/
def tripsAfter (now window : Nat) (trips : List Nat) : List Nat :=
  (trips.dropWhile fun t => decide (window ≤ now - t)) ++ [now]

/-- A channel's over count after a sample (R91). -/
def overAfter (level current count : Nat) : Nat := if level < current then count + 1 else 0

/-- What a current sample makes of a channel: its current, and a trip at the third sample above the level (R91 to
R94). -/
def sampledChannel (s : State) (current : Nat) (c0 : Channel) : Channel :=
  let c := { c0 with current := current }
  let p := s.profile.drive
  if c.state = .run ∨ c.state = .drag then
    let count := overAfter p.tripLevel current c.overs
    if count < Config.tripSamples then { c with overs := count }
    else
      let trips := tripsAfter s.nowMs p.tripWindow c.trips
      if trips.length < p.tripCount then
        { stopAs .tripped c with trips := trips, retry := some Config.retryTime, clear := none }
      else
        { stopAs .lockedOut c with
          trips := trips
          retry := none
          clear := if inBand s (effective s .drive) then some 0 else none }
  else c

/-- The notices of a sample at a channel: WHEEL_TRIP at any trip, WHEEL_LOCKOUT as well where it locks out (R92, R94). -/
def tripNotices (before after : ChanState) (s : State) : State :=
  if before = after then s
  else if after = .tripped then raise .wheelTrip s
  else if after = .lockedOut then raise .wheelLockout (raise .wheelTrip s)
  else s

/-- A current sample at a wheel (R91). -/
def sampleWheel (w : Wheel) (current : Nat) (s : State) : State :=
  let c := sampledChannel s current (chan s w)
  tripNotices (chan s w).state c.state (setChan s w c)

/-- The retry timer of a TRIPPED channel expires: RUN or DRAG by the effective DRIVE (R93). -/
def retryExpires (w : Wheel) (s : State) : State :=
  let c := chan s w
  if c.state = .tripped ∧ c.retry.isSome then
    lampsIfRest (atRest s)
      (setChan s w (if inBand s (effective s .drive) then toDrag (effective s .drag) c else toRun c))
  else s

/-- A locked-out channel cleared to DRAG, its trip list emptied (R95). -/
def clearedChannel (drag : Int) (c : Channel) : Channel := { toDrag drag c with trips := [] }

/-- The clear timer of a LOCKED_OUT channel reaches the lockout clear time (R95). -/
def lockoutClears (w : Wheel) (s : State) : State :=
  let c := chan s w
  if c.state = .lockedOut ∧ c.clear.isSome then setChan s w (clearedChannel (effective s .drag) c) else s

/-- The still timer reaches 500 ms while all wheels are still (R96). -/
def stillExpires (s : State) : State :=
  if allStill s then s.setDrive { s.drive with still := Config.stillTime } else s

end Sys2Proof.Machine
end

