-- ==== Sys2Proof/Machine/WinchUnit.lean ====
section
/-! DEFINITION. The Winch Unit: the states and end stops (R104, R105), home (R102, R103), the line count (R100, R101),
the winch update (R107 to R111), the stall (R111, R112) and spool sync (R113, R114). -/
namespace Sys2Proof.Machine

/-! ### Changes of state -/

/-- The lamps follow a change of winch state (R154). -/
def lampsIfWinch (before : WinchState) (s : State) : State := if s.winch.state = before then s else lampResolve s

/-- A braked state is entered: demand duty, duty target, duty and claim 0, the stall timer stopped, sync ended (R104,
R111, R113). -/
def brakedIn (st : WinchState) (w : WinchUnit) : WinchUnit :=
  { w with
    state := st
    demand := 0
    target := 0
    duty := 0
    claim := 0
    stall := none
    clear := none
    sync := { w.sync with active := false } }

/-- IN or OUT is entered: the duty stands, 0 from a braked state; the stall timer is stopped; sync ends where the state
is not IN (R104, R111, R113). -/
def drivenIn (st : WinchState) (w : WinchUnit) : WinchUnit :=
  { w with
    state := st
    stall := none
    clear := none
    sync := { w.sync with active := w.sync.active && st == .inward } }

/-- IDLE is entered (R104). -/
def goIdle (s : State) : State := lampsIfWinch s.winch.state (s.setWinch (brakedIn .idle s.winch))

/-- A limit state is entered: braked, and WINCH_LIMIT raised (R104, R105). -/
def goLimit (st : WinchState) (s : State) : State :=
  lampsIfWinch s.winch.state (raise .winchLimit (s.setWinch (brakedIn st s.winch)))

/-- IN, or LIMIT_IN at the inward stop (R104). -/
def goInward (s : State) : State :=
  if atInStop s then goLimit .limitIn s
  else lampsIfWinch s.winch.state (s.setWinch (drivenIn .inward s.winch))

/-- OUT, or LIMIT_OUT at the outward stop (R104). -/
def goOutward (s : State) : State :=
  if atOutStop s then goLimit .limitOut s
  else lampsIfWinch s.winch.state (s.setWinch (drivenIn .outward s.winch))

/-- STALLED is entered: braked, WINCH_STALL raised, the clear timer stopped (R111). -/
def goStalled (s : State) : State :=
  lampsIfWinch s.winch.state (raise .winchStall (s.setWinch (brakedIn .stalled s.winch)))

/-- A braked winch goes by the held WINCH (R104, R116): IDLE within the band, else its direction. -/
def goByHeld (s : State) : State :=
  if inBand s s.winch.held then goIdle s else if 0 < s.winch.held then goInward s else goOutward s

/-- The held WINCH acts on the winch state as a new effective WINCH does (R104). -/
def winchActs (s : State) : State :=
  let band := inBand s s.winch.held
  let up := decide (0 < s.winch.held)
  match s.winch.state with
  | .idle => if band then s else if up then goInward s else goOutward s
  | .inward => if band then goIdle s else if up then s else goOutward s
  | .outward => if band then goIdle s else if up then goInward s else s
  | .limitIn => if band then goIdle s else if up then s else goOutward s
  | .limitOut => if band then goIdle s else if up then goInward s else s
  | .stalled => s.setWinch { s.winch with clear := if band then some (s.winch.clear.getD 0) else none }

/-- A new effective WINCH handed over (R104). -/
def winchHanded (s : State) : State :=
  winchActs (s.setWinch { s.winch with held := effective s .winch })

/-! ### Home -/

/-- The present position becomes home: payout count 0, home KNOWN (R102, R103). -/
def atHome (w : WinchUnit) : WinchUnit := { w with counter := 0, overflow := 0, known := true }

/-- Home is set with the state going to LIMIT_IN, braked, and WINCH_LIMIT raised (R102, R103). -/
def homeBraked (s : State) : State := goLimit .limitIn (s.setWinch (atHome s.winch))

/-- The filtered HOOK input closes (R102). -/
def hookCloses (s : State) : State :=
  if s.winch.hookClosed then s
  else
    let s1 := s.setWinch { s.winch with hookClosed := true }
    match s.winch.state with
    | .outward => raise .winchLimit (s1.setWinch (atHome s1.winch))
    | .stalled => raise .winchLimit (s1.setWinch (atHome s1.winch))
    | .idle => homeBraked s1
    | .inward => homeBraked s1
    | .limitIn => homeBraked s1
    | .limitOut => homeBraked s1

/-- The filtered HOOK input opens: only the reported level changes (R102). -/
def hookOpens (s : State) : State := s.setWinch { s.winch with hookClosed := false }

/-! ### Counting the line -/

/-- What a pair of phase levels after the previous pair means. -/
inductive EdgeKind where
  | same
  | forward
  | backward
  | error
deriving DecidableEq, Repr

/-- The place of a pair of phase levels in one encoder cycle, phase A leading. -/
def phasePlace (a b : Bool) : Nat :=
  match a, b with
  | false, false => 0
  | true, false => 1
  | true, true => 2
  | false, true => 3

/-- The edge from one pair of levels to the next (R100). Which phase leads as the line pays out is not in the manual:
DESIGN CHOICE, phase A leads as the line pays out with encoder reverse clear. -/
def edgeKind (a b a' b' : Bool) : EdgeKind :=
  match (phasePlace a' b' + 4 - phasePlace a b) % 4 with
  | 0 => .same
  | 1 => .forward
  | 3 => .backward
  | _ => .error

/-- One edge in the payout direction: the counter's carry is taken whole, and the count saturates (R100). -/
def countUp (w : WinchUnit) : WinchUnit :=
  if payout w < 2147483647 then
    { w with counter := w.counter + 1, overflow := if w.counter = 0xFFFF#16 then w.overflow + 1 else w.overflow }
  else w

/-- One edge in the inward direction (R100). -/
def countDown (w : WinchUnit) : WinchUnit :=
  if -2147483648 < payout w then
    { w with counter := w.counter - 1, overflow := if w.counter = 0#16 then w.overflow - 1 else w.overflow }
  else w

/-- A change of the payout count is tested against the end stops at once (R105). -/
def testStops (s : State) : State :=
  match s.winch.state with
  | .inward => if atInStop s then goLimit .limitIn s else s
  | .outward => if atOutStop s then goLimit .limitOut s else s
  | .idle => s
  | .limitIn => s
  | .limitOut => s
  | .stalled => s

/-- An edge counted in a direction, `up` as encoder reverse gives it. -/
def countEdge (up : Bool) (s : State) : State :=
  testStops (s.setWinch (if up then countUp s.winch else countDown s.winch))

/-- An edge on an encoder phase (R100). -/
def encoderEdge (a b : Bool) (s : State) : State :=
  let kind := edgeKind s.winch.encA s.winch.encB a b
  let s1 := s.setWinch { s.winch with encA := a, encB := b }
  match kind with
  | .same => s1
  | .forward => countEdge (!s.profile.winch.reverse) s1
  | .backward => countEdge s.profile.winch.reverse s1
  | .error => s1.setWinch { s1.winch with encErrors := satSucc 65535 s1.winch.encErrors }

/-! ### The winch update -/

/-- The change Δ of the payout count since the previous update (R101). -/
def payoutDelta (w : WinchUnit) : Int := payout w - w.lastPayout

/-- The stall condition of an update (R111). -/
def stallCondition (p : WinchSection) (w : WinchUnit) (delta : Int) : Bool :=
  decide (p.stallCurrent ≤ w.current) && decide (delta.natAbs ≤ 1)

/-- The stall timer after the stall test (R111). -/
def stallAfter (holds : Bool) (timer : Option Nat) : Option Nat :=
  if holds then some (match timer with | none => 0 | some t => t + 5) else none

/-- Stage 1: the line speed (R101). -/
def lineStage (s : State) : State :=
  s.setWinch
    { s.winch with
      lineSpeed := (payoutDelta s.winch * 20000).tdiv s.profile.winch.edgesPer100
      lastPayout := payout s.winch }

/-- Stage 2: the stall test, with this update's Δ (R111). -/
def stallStage (delta : Int) (s : State) : State :=
  if winchDriven s.winch then
    let timer := stallAfter (stallCondition s.profile.winch s.winch delta) s.winch.stall
    let s1 := s.setWinch { s.winch with stall := timer }
    match timer with
    | some t => if s.profile.winch.stallTime ≤ t then goStalled s1 else s1
    | none => s1
  else s

/-- The demand duty m (R108). -/
def winchDemand (p : WinchSection) (w : WinchUnit) : Nat :=
  let m := w.held.natAbs * p.top / 1000
  if w.state = .inward ∧ w.known = false then min m p.slowIn else m

/-- Stages 3 to 5 in IN and OUT: demand and claim (R108), limiter (R109), duty (R110). -/
def drivenStages (p : WinchSection) (w : WinchUnit) : WinchUnit :=
  let m := winchDemand p w
  let limiter := limiterAfter w.current w.limit w.limiter
  let size := trimmed m limiter
  let target := if w.state = .inward then size else -size
  { w with
    demand := m
    claim := p.imax * m / 1000
    limiter := limiter
    target := target
    duty := approach w.duty target p.accel }

/-- Stages 3 to 5 (R107): outside IN and OUT only the limiter trim decays. -/
def dutyStages (p : WinchSection) (w : WinchUnit) : WinchUnit :=
  if winchDriven w then drivenStages p w
  else { w with demand := 0, claim := 0, target := 0, duty := 0, limiter := w.limiter - 5 }

/-- The wheels whose command is not 0 (R114). -/
def commanded (s : State) : List Channel := s.drive.channels.list.filter fun c => c.command != 0

/-- vw: the floor of the mean speed magnitude of the commanded wheels, 0 if there is none (R114). -/
def meanCommanded (s : State) : Nat := ((commanded s).map fun c => c.speed.natAbs).sum / (commanded s).length

/-- Spool sync is active (R113). -/
def syncHolds (s : State) : Bool :=
  s.winch.state == .inward && s.profile.winch.syncEnable
    && decide ((s.profile.drive.neutralBand : Int) < effective s .drive)

/-- The cap after stage 6 (R114). -/
def capAfter (active anyCommand : Bool) (vl vw margin cap : Nat) : Nat :=
  if active then
    if anyCommand then
      if vl * (100 + margin) / 100 < vw then max 100 (cap - 20)
      else if vw < vl * (100 - margin) / 100 then min 1000 (cap + 20)
      else cap
    else cap
  else min 1000 (cap + 20)

/-- Stage 6: the sync record (R113, R114). -/
def syncStage (s : State) : State :=
  let active := syncHolds s
  let vl := s.winch.lineSpeed.natAbs
  let vw := meanCommanded s
  s.setWinch
    { s.winch with
      sync :=
        { active := active
          cap := capAfter active (!(commanded s).isEmpty) vl vw s.profile.winch.syncMargin s.winch.sync.cap
          vl := vl
          vw := vw } }

/-- The winch update timer expires (R107). -/
def winchUpdate (s : State) : State :=
  let delta := payoutDelta s.winch
  let s2 := stallStage delta (lineStage (s.setWinch { s.winch with timer := Config.winchPeriod }))
  syncStage (s2.setWinch (dutyStages s2.profile.winch s2.winch))

/-- The stall timer reaches the stall time (R111). -/
def stallExpires (s : State) : State :=
  if winchDriven s.winch && s.winch.stall.isSome then goStalled s else s

/-- A stalled winch's clear timer reaches the stall clear time: IDLE (R112). -/
def stallClears (s : State) : State :=
  if s.winch.state = .stalled ∧ s.winch.clear.isSome then goIdle s else s

end Sys2Proof.Machine
end

