-- ==== Sys2Proof/Machine/Records.lean ====
section
/-! DEFINITION. The records as the links carry them (section 10.6): the enumeration codes, the status pages, the
telemetry pages and the radio reply payloads. -/
namespace Sys2Proof.Machine

/-! ### Enumeration codes -/

/-- Source context state. -/
def ctxCode : CtxState → Nat
  | .absent => 0
  | .live => 1
  | .lapsed => 2

/-- Demand slot state. -/
def slotCode : SlotState → Nat
  | .empty => 0
  | .fresh => 1
  | .taken => 2
  | .stale => 3

/-- Deciding source. -/
def srcCode : Src → Nat
  | .radio => 0
  | .companion => 1
  | .failsafe => 2
  | .none => 255

/-- Deciding level. -/
def levelCode : Level → Nat
  | .lockout => 0
  | .grant => 1
  | .primary => 2
  | .secondary => 3
  | .failsafe => 4

/-- Grant end reason. -/
def reasonCode : EndReason → Nat
  | .expiry => 0
  | .release => 1
  | .breakaway => 2
  | .lapse => 3
  | .tether => 4
  | .lockout => 5
  | .stale => 6
  | .mapChange => 7

/-- Steering mode. -/
def modeCode : SteerMode → Nat
  | .front => 0
  | .counter => 1
  | .crab => 2
  | .rear => 3

/-- Steering state. -/
def steerCode : SteerState → Nat
  | .settled => 0
  | .waiting => 1
  | .slewing => 2

/-- Wheel channel state. -/
def chanCode : ChanState → Nat
  | .run => 0
  | .drag => 1
  | .tripped => 2
  | .lockedOut => 3

/-- Winch state. -/
def winchCode : WinchState → Nat
  | .idle => 0
  | .inward => 1
  | .outward => 2
  | .limitIn => 3
  | .limitOut => 4
  | .stalled => 5

/-- Protection state. -/
def protCode : ProtState → Nat
  | .precheck => 0
  | .normal => 1
  | .caution => 2
  | .shed => 3
  | .cutoff => 4

/-- Latch reason. -/
def latchCode : LatchReason → Nat
  | .undervolt => 0
  | .nopack => 1

/-- Last reset kind. -/
def resetCode : ResetKind → Nat
  | .powerOn => 0
  | .supplyDip => 1
  | .restart => 2

/-! ### Fields -/

/-- A number of an unsigned range that the model holds as an integer. -/
def putZ (w : Nat) (z : Int) : List Byte := le w (if 0 ≤ z ∧ z < 256 ^ w then z.toNat else Config.outOfField w z)

/-- An optional field of that kind. -/
def putOptZ (w : Nat) : Option Int → List Byte
  | some z => putZ w z
  | none => le w (256 ^ w - 1)

/-- A value of a function: its range decides the width and the sign of the field. -/
def putValue (f : Fn) (v : Option Int) : List Byte :=
  match f with
  | .drive => putOptI 2 v
  | .steer => putOptI 2 v
  | .steermode => putOptZ 1 v
  | .winch => putOptI 2 v
  | .drag => putOptZ 2 v
  | .range => putOptZ 1 v
  | .scene => putOptZ 1 v

/-- An optional flag: absent is all ones. -/
def putOptFlag : Option Bool → List Byte
  | some b => putFlag b
  | none => le 1 255

/-- The wheels' fields in wheel order. -/
def perWheelBytes (s : State) (g : Channel → List Byte) : List Byte := s.drive.channels.list.flatMap g

/-- Winch home: KNOWN 0, UNKNOWN 1. -/
def putHome (w : WinchUnit) : List Byte := putFlag (!w.known)

/-- Crew flags in bits 0 to 3. -/
def putCrew (v : BitVec 4) : List Byte := putU 1 v.toNat

/-- The open set: bit k for tap k. -/
def putOpen (s : State) : List Byte := putU 1 s.sense.openSet.toNat

/-- The AUTO flag: set when the PACK field cell count is AUTO (section 7.1). -/
def putAuto (s : State) : List Byte := putFlag (s.profile.pack.cellCount == 0)

/-! ### Status record -/

/-- A function's fields of the effective record on status page 0. -/
def effBytes (s : State) (f : Fn) : List Byte :=
  let e := effOf s f
  putValue f (some e.value) ++ putU 1 (levelCode e.level) ++ putU 1 (srcCode e.source)
    ++ putOptFlag (if isNumeric f then some e.blend.isSome else none) ++ putValue f (some e.target)

/-- A function's grant record on status page 0. -/
def grantBytes (s : State) (f : Fn) : List Byte :=
  let g := grantOf s f
  putFlag g.held.isSome ++ putOptU 2 (g.held.map fun h => h.remaining) ++ putOptU 1 (g.lastEnd.map reasonCode)

/-- Status page 0, after its page number. -/
def statusPage0 (s : State) : List Byte :=
  putU 1 (ctxCode s.radio.state) ++ putU 1 (ctxCode s.comp.state) ++ putFlag s.comp.barred
    ++ putU 4 s.radio.accepted.toNat ++ putU 4 s.radio.refused.toNat ++ putU 4 s.comp.accepted.toNat
    ++ putU 4 s.comp.refused.toNat ++ putU 2 s.radio.checkErrors ++ putU 2 s.radio.formatErrors
    ++ putU 2 s.radio.unmatched ++ putU 2 s.radio.missed ++ putCrew s.radio.flags
    ++ putU 1 (resetCode s.retained.lastReset) ++ putU 2 s.retained.dips
    ++ Fn.all.flatMap (effBytes s) ++ Fn.all.flatMap (grantBytes s)

/-- Status page 1, after its page number. -/
def statusPage1 (s : State) : List Byte :=
  putU 1 (steerCode s.steering.state) ++ putU 1 (modeCode s.steering.mode)
    ++ putOptU 1 (s.steering.next.map modeCode) ++ perWheelBytes s (fun c => putU 1 (chanCode c.state))
    ++ putFlag (parked s) ++ putU 1 (winchCode s.winch.state) ++ putHome s.winch
    ++ putU 1 (protCode s.protection.state) ++ putOptI 4 (s.protection.vmin.map fun v => v.volts)
    ++ putOptU 1 (s.protection.vmin.map fun v => v.cell) ++ putFlag s.protection.blind
    ++ putFlag s.retained.latch.isSome ++ putOptU 1 (s.retained.latch.map latchCode)
    ++ putU 2 s.protection.target ++ putU 2 s.protection.allowance ++ putU 2 s.budget.gs ++ putU 2 s.budget.gd
    ++ putU 2 s.budget.gw ++ putU 2 s.budget.gl ++ putFlag s.budget.winchFirst
    ++ putFlag s.lamps.active ++ putFlag s.lamps.switchPending

/-- The page of a status record, if there is one. -/
def statusPage (s : State) (page : Nat) : Option (List Byte) :=
  match page with
  | 0 => some (statusPage0 s)
  | 1 => some (statusPage1 s)
  | _ => none

/-! ### Telemetry -/

/-- A slot's fields on telemetry pages 0 and 1. -/
def slotBytes (s : State) (m : Master) (f : Fn) : List Byte :=
  let x := slotOf s m f
  putValue f x.value ++ putU 1 (slotCode x.state) ++ putU 2 x.age ++ putU 1 x.seq.toNat ++ putU 1 x.superseded
    ++ putOptFlag (if hasMark f then some x.confirmed else none)

/-- Telemetry page 2: the steering record's angles and pulses, and the geometry record. -/
def steeringPage (s : State) : List Byte :=
  let t := s.steering
  let g := t.geometry
  putI 2 t.frontTarget ++ putI 2 t.rearTarget ++ putI 2 t.frontOut ++ putI 2 t.rearOut ++ putZ 2 t.frontPulse
    ++ putZ 2 t.rearPulse ++ g.ratios.list.flatMap (putI 2) ++ putFlag g.parallel ++ putFlag g.pivot ++ putI 4 g.x0
    ++ putOptI 4 g.y0 ++ putU 2 g.seq.toNat

/-- A wheel's fields on telemetry page 3. -/
def channelBytes (c : Channel) : List Byte :=
  putU 1 (chanCode c.state) ++ putI 2 c.command ++ putI 2 c.target ++ putI 2 c.duty
    ++ putOptZ 2 (if c.state = .drag then some c.dragLevel else none) ++ putU 2 c.slip ++ putU 2 c.limiter
    ++ putI 2 c.speed ++ putFlag c.lastReverse ++ putU 2 c.current ++ putU 2 c.claim ++ putU 2 c.apportioned
    ++ putU 2 c.limit ++ putOptU 1 (if c.state = .run ∨ c.state = .drag then some c.overs else none)
    ++ putU 1 c.trips.length

/-- The sync record's fields. -/
def syncBytes (y : Sync) : List Byte := putFlag y.active ++ putU 2 y.cap ++ putU 4 y.vl ++ putU 2 y.vw

/-- Telemetry page 4: the winch record and the sync record. -/
def winchPage (s : State) : List Byte :=
  let w := s.winch
  putU 1 (winchCode w.state) ++ putHome w ++ putI 4 (payout w) ++ putI 4 (payoutMm s.profile.winch w)
    ++ putU 4 (limitCount s.profile.winch) ++ putI 4 w.lineSpeed ++ putU 2 w.encErrors ++ putI 2 w.held
    ++ putU 2 w.demand ++ putI 2 w.target ++ putI 2 w.duty ++ putU 2 w.limiter ++ putU 2 w.current ++ putU 2 w.claim
    ++ putU 2 w.limit ++ putFlag w.hookClosed ++ syncBytes w.sync

/-- The six current readings, in sweep order. -/
def currentList (c : Option Currents) : List (Option Int) :=
  match c with
  | some r => [some r.pack, some r.wheels.fl, some r.wheels.fr, some r.wheels.rl, some r.wheels.rr, some r.winch]
  | none => [none, none, none, none, none, none]

/-- A check pair's two readings. -/
def pairBytes (p : Option CheckPair) : List Byte :=
  putOptU 2 (p.map fun x => x.high) ++ putOptU 2 (p.map fun x => x.low)

/-- Tap i + 1 is one that the lead check sweep in flight takes: its last check pair changes at some moment of it (R123). -/
def pairUnsettled (n : Sense) (i : Nat) : Bool :=
  n.slot == .check && decide (i < (n.tapSweep.map fun k => k.taps).getD 0)

/-- A tap's check pair on page 5: free while the check in flight takes the tap. -/
def tapPairBytes (s : State) (i : Fin 6) : List Byte :=
  if pairUnsettled s.sense i.val then
    let free (j : Nat) : List Byte := putU 2 (Config.pairMidCheck s.comp.accepted.toNat j).toNat
    free (2 * i.val) ++ free (2 * i.val + 1)
  else pairBytes (s.sense.pairs.get i)

/-- Telemetry page 5: the sense record. -/
def sensePage (s : State) : List Byte :=
  let n := s.sense
  (currentList n.currents).flatMap (putOptI 4) ++ n.taps.toList.flatMap (putOptU 2)
    ++ n.cells.toList.flatMap (putOptI 4) ++ putOptU 2 n.packVolts ++ putOptU 1 n.count ++ putAuto s ++ putOpen s
    ++ (List.finRange 6).flatMap (tapPairBytes s) ++ putU 2 n.currentSweeps.toNat ++ putU 2 n.cellSweeps.toNat
    ++ putU 2 n.checkSweeps.toNat

/-- Telemetry page 6: the Budget Unit record and the Lamp Unit's common record. -/
def budgetPage (s : State) : List Byte :=
  let b := s.budget
  let l := s.lamps
  putU 4 b.cd ++ putU 2 b.cw ++ putU 2 b.cl ++ putU 2 b.used ++ putFlag b.winchFirst ++ putU 2 b.gs ++ putU 2 b.gd
    ++ putU 2 b.gw ++ putU 2 b.gl ++ putU 2 b.headroom ++ putU 4 b.count.toNat ++ putU 2 l.claim ++ putU 2 l.grant
    ++ putFlag l.blinkOn ++ putFlag l.active ++ putFlag l.switchPending
    ++ putOptU 1 (l.position.map fun p => p.step) ++ putOptU 2 (l.position.map fun p => p.timer)

/-- A lamp channel's fields on telemetry page 7. -/
def lampBytes (s : State) (i : Fin 8) : List Byte :=
  let c := s.lamps.channels.get i
  putU 1 (roleCode (roleOf s i)) ++ putU 2 (s.profile.lamps.channels.get i).rated ++ putU 2 c.base
    ++ putFlag c.patterned ++ putOptU 2 c.pattern ++ putU 2 c.role ++ putU 2 c.wished ++ putU 2 c.output

/-- The page of the telemetry, if there is one, after its page number. -/
def telemetryPage (s : State) (page : Nat) : Option (List Byte) :=
  match page with
  | 0 => some (Fn.all.flatMap (slotBytes s .radio))
  | 1 => some (Fn.all.flatMap (slotBytes s .companion))
  | 2 => some (steeringPage s)
  | 3 => some (perWheelBytes s channelBytes)
  | 4 => some (winchPage s)
  | 5 => some (sensePage s)
  | 6 => some (budgetPage s)
  | 7 => some ((List.finRange 8).flatMap (lampBytes s))
  | _ => none

/-! ### Radio reply payloads -/

/-- The six reply slots, numbered by priority 0 to 5 (section 10.2). -/
inductive ReplySlot where
  | alert
  | pack
  | cells
  | winch
  | drive
  | flags
deriving DecidableEq, Repr

/-- The slot's number, the kind of its reply. -/
def replyKind : ReplySlot → Byte
  | .alert => 0
  | .pack => 1
  | .cells => 2
  | .winch => 3
  | .drive => 4
  | .flags => 5

/-- The lead notice code of a pending set, 255 if the set is empty. -/
def leadCode (set : BitVec 16) : Nat := (lead set).getD 255

/-- The payload of a reply, from the state of its owning blocks as it stands (R163). -/
def replyPayload (s : State) : ReplySlot → List Byte
  | .alert => putU 1 (leadCode s.notices.radio) ++ putU 2 s.notices.radio.toNat
  | .pack =>
    putU 1 (protCode s.protection.state) ++ putOptU 2 s.sense.packVolts
      ++ putOptI 4 (s.protection.vmin.map fun v => v.volts) ++ putI 4 s.protection.ip ++ putU 2 s.protection.allowance
  | .cells => putOptU 1 s.sense.count ++ putAuto s ++ putOpen s ++ s.sense.cells.toList.flatMap (putOptI 4)
  | .winch =>
    putU 1 (winchCode s.winch.state) ++ putHome s.winch ++ putI 4 (payoutMm s.profile.winch s.winch)
      ++ putI 4 s.winch.lineSpeed ++ syncBytes s.winch.sync
  | .drive =>
    perWheelBytes s (fun c => putU 1 (chanCode c.state)) ++ perWheelBytes s (fun c => putI 2 c.speed)
      ++ putValue .drive (some (effective s .drive)) ++ putValue .range (some (effective s .range))
      ++ putFlag (parked s)
  | .flags =>
    putCrew s.comp.flags ++ putCrew s.radio.flags ++ putU 1 (ctxCode s.comp.state) ++ putFlag s.comp.barred

end Sys2Proof.Machine
end

