-- ==== Sys2Proof/Machine/Answers.lean ====
section
/-! DEFINITION. The answer cell: answers and refusals placed and counted (R8, R16, R165, R166). -/
namespace Sys2Proof.Machine

/-- The code of each request kind (section 10.6). -/
inductive Kind where
  | demand
  | grant
  | release
  | statusRead
  | telemetryRead
  | noticeTake
  | causeTake
  | flagsSet
  | profileWrite
  | profileRead
  | patternWrite
  | bankSwitch
  | winchZero
  | checkLeads
  | restart
deriving DecidableEq, Repr

/-- Kind codes 0x01 to 0x0F. -/
def kindCode : Kind → Byte
  | .demand => 0x01
  | .grant => 0x02
  | .release => 0x03
  | .statusRead => 0x04
  | .telemetryRead => 0x05
  | .noticeTake => 0x06
  | .causeTake => 0x07
  | .flagsSet => 0x08
  | .profileWrite => 0x09
  | .profileRead => 0x0A
  | .patternWrite => 0x0B
  | .bankSwitch => 0x0C
  | .winchZero => 0x0D
  | .checkLeads => 0x0E
  | .restart => 0x0F

/-- The envelope of an answer: the request's kind + 0x80. -/
def answerEnvelope (k : Kind) (payload : List Byte) : List Byte := envelope (kindCode k + 0x80#8) payload

/-- The envelope of a REFUSED answer: 0xFF, with the cause code and the request's kind byte. -/
def refusedEnvelope (c : Cause) (kind : Byte) : List Byte := envelope 0xFF#8 (putU 1 (causeCode c) ++ [kind])

/-- An answer goes into the answer cell and the request cell is freed (R165, R166). -/
def placeAnswer (bytes : List Byte) (s : State) : State :=
  s.setCompPort { s.compPort with request := none, answer := some bytes }

/-- A request counted as accepted (R8). -/
def countAccepted (s : State) : State := s.setComp { s.comp with accepted := s.comp.accepted + 1 }

/-- A request counted as refused, its cause added to the cause set (R8, R16). -/
def countRefused (c : Cause) (s : State) : State :=
  addCause c (s.setComp { s.comp with refused := s.comp.refused + 1 })

/-- A request answered with its reply kind. -/
def answer (k : Kind) (payload : List Byte) (s : State) : State :=
  countAccepted (placeAnswer (answerEnvelope k payload) s)

/-- A request answered REFUSED, its kind byte as it was clocked in (R165). -/
def refuseByte (c : Cause) (kind : Byte) (s : State) : State :=
  countRefused c (placeAnswer (refusedEnvelope c kind) s)

/-- A request of a known kind answered REFUSED. -/
def refuse (c : Cause) (k : Kind) (s : State) : State := refuseByte c (kindCode k) s

/-- The payload of an answer that carries OK alone. -/
def okPayload : List Byte := [0]

end Sys2Proof.Machine
end

