-- ==== Sys2Proof/Machine/Operands.lean ====
section
/-! DEFINITION. The operand forms of the companion requests: each request with its operands, the lengths its kind allows,
and the reading of an envelope from the bytes clocked in (section 10.6, R165). -/
namespace Sys2Proof.Machine

/-- A companion request with its operands (section 10.6). -/
inductive Request where
  | demand (pairs : List DemandPair)
  | grant (fn : Byte) (duration : BitVec 16)
  | release (fn : Byte)
  | statusRead (page : Byte)
  | telemetryRead (page : Byte)
  | noticeTake
  | causeTake
  | flagsSet (flags : Byte)
  | profileWrite (sect : Byte) (body : List Byte)
  | profileRead (sect : Byte) (scene : Option Byte)
  | patternWrite (bank : Byte) (first : Byte) (steps : List StepBytes)
  | bankSwitch
  | winchZero
  | checkLeads
  | restart
deriving DecidableEq, Repr

/-- A request's kind. -/
def Request.kind : Request → Kind
  | .demand _ => .demand
  | .grant _ _ => .grant
  | .release _ => .release
  | .statusRead _ => .statusRead
  | .telemetryRead _ => .telemetryRead
  | .noticeTake => .noticeTake
  | .causeTake => .causeTake
  | .flagsSet _ => .flagsSet
  | .profileWrite _ _ => .profileWrite
  | .profileRead _ _ => .profileRead
  | .patternWrite _ _ _ => .patternWrite
  | .bankSwitch => .bankSwitch
  | .winchZero => .winchZero
  | .checkLeads => .checkLeads
  | .restart => .restart

/-! ### Lengths -/

/-- A DEMAND carries 1 to 7 pairs. -/
def pairsFit (n : Nat) : Bool := decide (1 ≤ n) && decide (n ≤ 7)

/-- A PATTERN_WRITE of n steps keeps within the 120 bytes of a payload. -/
def stepsFit (n : Nat) : Bool := decide (3 + 5 * n ≤ 120)

/-- What a PROFILE_WRITE carries after its section number: the section's own length; any that fits a payload for a
section number above 10. -/
def bodyFits (sect n : Nat) : Bool :=
  match sectOfNumber sect with
  | some k => n == sectWriteLength k
  | none => decide (n ≤ 119)

/-- Whether a PROFILE_READ carries a scene number: for SCENES it does, for another section it does not, and a section
number above 10 is taken either way. -/
def sceneFits (sect : Nat) (given : Bool) : Bool :=
  match sectOfNumber sect with
  | some k => given == (k == .scenes)
  | none => true

/-- The request's operands make a payload of a length that its kind allows (section 10.6). -/
def Request.sized : Request → Bool
  | .demand pairs => pairsFit pairs.length
  | .grant _ _ => true
  | .release _ => true
  | .statusRead _ => true
  | .telemetryRead _ => true
  | .noticeTake => true
  | .causeTake => true
  | .flagsSet _ => true
  | .profileWrite sect body => bodyFits sect.toNat body.length
  | .profileRead sect scene => sceneFits sect.toNat scene.isSome
  | .patternWrite _ _ steps => stepsFit steps.length
  | .bankSwitch => true
  | .winchZero => true
  | .checkLeads => true
  | .restart => true

/-- A request whose operands are handed over as they are: FORMAT where they fit no length of its kind (R165). -/
def sizedRequest (r : Request) : Except Cause Request := if r.sized then .ok r else .error .format

/-! ### Reading an envelope -/

/-- The kind of a code, if it is 0x01 to 0x0F. -/
def kindOfCode : Nat → Option Kind
  | 1 => some .demand
  | 2 => some .grant
  | 3 => some .release
  | 4 => some .statusRead
  | 5 => some .telemetryRead
  | 6 => some .noticeTake
  | 7 => some .causeTake
  | 8 => some .flagsSet
  | 9 => some .profileWrite
  | 10 => some .profileRead
  | 11 => some .patternWrite
  | 12 => some .bankSwitch
  | 13 => some .winchZero
  | 14 => some .checkLeads
  | 15 => some .restart
  | _ => none

/-- The 16-bit field at byte i. -/
def wordAt (bs : List Byte) (i : Nat) : BitVec 16 := BitVec.ofNat 16 (u16 bs i)

/-- Byte i of a payload. -/
def byteAt (bs : List Byte) (i : Nat) : Byte := bs.getD i 0

/-- The pairs of a DEMAND payload of n pairs. -/
def readPairs (n : Nat) (bs : List Byte) : List DemandPair :=
  (List.range n).map fun i => ⟨byteAt bs (3 * i), wordAt bs (3 * i + 1)⟩

/-- The steps of a PATTERN_WRITE payload of n steps. -/
def readSteps (n : Nat) (bs : List Byte) : List StepBytes :=
  (List.range n).map fun i =>
    let j := 3 + 5 * i
    ⟨byteAt bs j, wordAt bs (j + 1), byteAt bs (j + 3), byteAt bs (j + 4)⟩

/-- The request of a payload, if the payload's length is one its kind allows (section 10.6). -/
def readPayload (k : Kind) (bs : List Byte) : Option Request :=
  let n := bs.length
  match k with
  | .demand => if n % 3 = 0 ∧ 3 ≤ n ∧ n ≤ 21 then some (.demand (readPairs (n / 3) bs)) else none
  | .grant => if n = 3 then some (.grant (byteAt bs 0) (wordAt bs 1)) else none
  | .release => if n = 1 then some (.release (byteAt bs 0)) else none
  | .statusRead => if n = 1 then some (.statusRead (byteAt bs 0)) else none
  | .telemetryRead => if n = 1 then some (.telemetryRead (byteAt bs 0)) else none
  | .noticeTake => if n = 0 then some .noticeTake else none
  | .causeTake => if n = 0 then some .causeTake else none
  | .flagsSet => if n = 1 then some (.flagsSet (byteAt bs 0)) else none
  | .profileWrite =>
    if 1 ≤ n ∧ bodyFits (u8 bs 0) (n - 1) then some (.profileWrite (byteAt bs 0) (bs.drop 1)) else none
  | .profileRead =>
    if 1 ≤ n ∧ sceneFits (u8 bs 0) (decide (2 ≤ n)) ∧ ((sectOfNumber (u8 bs 0)).isSome → n ≤ 2) then
      some (.profileRead (byteAt bs 0) bs[1]?)
    else none
  | .patternWrite =>
    if 3 ≤ n ∧ n = 3 + 5 * u8 bs 2 then
      some (.patternWrite (byteAt bs 0) (byteAt bs 1) (readSteps (u8 bs 2) bs))
    else none
  | .bankSwitch => if n = 0 then some .bankSwitch else none
  | .winchZero => if n = 0 then some .winchZero else none
  | .checkLeads => if n = 0 then some .checkLeads else none
  | .restart => if n = 0 then some .restart else none

/-- The CRC field after the payload of an envelope equals the CRC of its kind, length and payload. -/
def envelopeCrcOk (bs : List Byte) (len : Nat) : Bool :=
  crcBytes (crc16 (bs.take (2 + len))) == (bs.drop (2 + len)).take 2

/-- The envelope clocked in, checked: FORMAT before CHECK (R165). Only the first 124 bytes are read (R164). -/
def checkEnvelope (mosi : List Byte) : Except Cause Request :=
  let bs := mosi.take 124
  let len := u8 bs 1
  match kindOfCode (u8 bs 0) with
  | none => .error .format
  | some k =>
    if 120 < len ∨ bs.length < 4 + len then .error .format
    else match readPayload k ((bs.drop 2).take len) with
      | none => .error .format
      | some r => if envelopeCrcOk bs len then .ok r else .error .check

end Sys2Proof.Machine
end

