-- ==== Sys2Proof/Machine/Tangent.lean ====
section
/-! DEFINITION. The tangent table of R67: 451 entries, 4096 × tan of 0.0 to 45.0 degrees, rounded half away from zero.
The manual states the rule and twelve entries; the others are computed by that rule (DEDUCED). -/
namespace Sys2Proof.Machine

/-- TAN for 0..49 deci-degrees. -/
def tanPart0 : List Nat := [
  0, 7, 14, 21, 29, 36, 43, 50, 57, 64, 71, 79, 86, 93, 100, 107, 114, 122, 129, 136, 143, 150, 157, 165, 172,
  179, 186, 193, 200, 207, 215, 222, 229, 236, 243, 251, 258, 265, 272, 279, 286, 294, 301, 308, 315, 322, 330, 337, 344, 351]

/-- TAN for 50..99 deci-degrees. -/
def tanPart1 : List Nat := [
  358, 366, 373, 380, 387, 394, 402, 409, 416, 423, 431, 438, 445, 452, 459, 467, 474, 481, 488, 496, 503, 510, 517, 525, 532,
  539, 547, 554, 561, 568, 576, 583, 590, 598, 605, 612, 619, 627, 634, 641, 649, 656, 663, 671, 678, 685, 693, 700, 708, 715]

/-- TAN for 100..149 deci-degrees. -/
def tanPart2 : List Nat := [
  722, 730, 737, 744, 752, 759, 767, 774, 781, 789, 796, 804, 811, 818, 826, 833, 841, 848, 856, 863, 871, 878, 886, 893, 901,
  908, 916, 923, 931, 938, 946, 953, 961, 968, 976, 983, 991, 998, 1006, 1014, 1021, 1029, 1036, 1044, 1052, 1059, 1067, 1075, 1082, 1090]

/-- TAN for 150..199 deci-degrees. -/
def tanPart3 : List Nat := [
  1098, 1105, 1113, 1121, 1128, 1136, 1144, 1151, 1159, 1167, 1175, 1182, 1190, 1198, 1206, 1213, 1221, 1229, 1237, 1244, 1252, 1260, 1268, 1276, 1284,
  1291, 1299, 1307, 1315, 1323, 1331, 1339, 1347, 1355, 1363, 1371, 1378, 1386, 1394, 1402, 1410, 1418, 1426, 1434, 1442, 1450, 1459, 1467, 1475, 1483]

/-- TAN for 200..249 deci-degrees. -/
def tanPart4 : List Nat := [
  1491, 1499, 1507, 1515, 1523, 1531, 1540, 1548, 1556, 1564, 1572, 1581, 1589, 1597, 1605, 1613, 1622, 1630, 1638, 1647, 1655, 1663, 1672, 1680, 1688,
  1697, 1705, 1713, 1722, 1730, 1739, 1747, 1756, 1764, 1772, 1781, 1789, 1798, 1807, 1815, 1824, 1832, 1841, 1849, 1858, 1867, 1875, 1884, 1893, 1901]

/-- TAN for 250..299 deci-degrees. -/
def tanPart5 : List Nat := [
  1910, 1919, 1927, 1936, 1945, 1954, 1962, 1971, 1980, 1989, 1998, 2007, 2015, 2024, 2033, 2042, 2051, 2060, 2069, 2078, 2087, 2096, 2105, 2114, 2123,
  2132, 2141, 2150, 2160, 2169, 2178, 2187, 2196, 2205, 2215, 2224, 2233, 2242, 2252, 2261, 2270, 2280, 2289, 2299, 2308, 2317, 2327, 2336, 2346, 2355]

/-- TAN for 300..349 deci-degrees. -/
def tanPart6 : List Nat := [
  2365, 2374, 2384, 2394, 2403, 2413, 2422, 2432, 2442, 2451, 2461, 2471, 2481, 2490, 2500, 2510, 2520, 2530, 2540, 2550, 2559, 2569, 2579, 2589, 2599,
  2609, 2620, 2630, 2640, 2650, 2660, 2670, 2680, 2691, 2701, 2711, 2721, 2732, 2742, 2752, 2763, 2773, 2784, 2794, 2805, 2815, 2826, 2836, 2847, 2857]

/-- TAN for 350..399 deci-degrees. -/
def tanPart7 : List Nat := [
  2868, 2879, 2889, 2900, 2911, 2922, 2932, 2943, 2954, 2965, 2976, 2987, 2998, 3009, 3020, 3031, 3042, 3053, 3064, 3075, 3087, 3098, 3109, 3120, 3132,
  3143, 3154, 3166, 3177, 3189, 3200, 3212, 3223, 3235, 3246, 3258, 3270, 3282, 3293, 3305, 3317, 3329, 3341, 3353, 3364, 3376, 3389, 3401, 3413, 3425]

/-- TAN for 400..449 deci-degrees. -/
def tanPart8 : List Nat := [
  3437, 3449, 3461, 3474, 3486, 3498, 3511, 3523, 3536, 3548, 3561, 3573, 3586, 3598, 3611, 3624, 3637, 3649, 3662, 3675, 3688, 3701, 3714, 3727, 3740,
  3753, 3766, 3780, 3793, 3806, 3820, 3833, 3846, 3860, 3873, 3887, 3901, 3914, 3928, 3942, 3955, 3969, 3983, 3997, 4011, 4025, 4039, 4053, 4068, 4082]

/-- TAN for 450..450 deci-degrees. -/
def tanPart9 : List Nat := [
  4096]

/-- The table, entry a for a deci-degrees. -/
def tanTable : List Nat :=
  tanPart0 ++ tanPart1 ++ tanPart2 ++ tanPart3 ++ tanPart4 ++ tanPart5 ++ tanPart6 ++ tanPart7 ++ tanPart8 ++ tanPart9

/-- TAN of an angle in deci-degrees: a negative angle gives the negated entry for its magnitude (R67). -/
def tanOf (a : Int) : Int :=
  if a < 0 then -(tanTable.getD a.natAbs 0 : Int) else tanTable.getD a.natAbs 0

/-- The integer square root by trial of one bit at a time, from bit `k - 1` down. -/
def isqrtFrom (n : Nat) : Nat → Nat → Nat
  | 0, r => r
  | k + 1, r => isqrtFrom n k (if (r + 2 ^ k) * (r + 2 ^ k) ≤ n then r + 2 ^ k else r)

/-- ISQRT: the floor of the square root, exact below 2^48 (R70). -/
def isqrt (n : Nat) : Nat := isqrtFrom n 24 0

end Sys2Proof.Machine
end

