-- ==== Sys2Proof/Machine/SteeringUnit.lean ====
section
/-! DEFINITION. The Steering Unit: mode changes handed over (R62, R63, R66), targets (R59), pulses (R61) and the turn
geometry (R67 to R72). The update itself (R60) stands in Machine/SteeringUpdate.lean, after the resolver it calls. -/
namespace Sys2Proof.Machine

/-- The steering mode of a STEERMODE index (section 2.2). -/
def modeOfIndex (v : Int) : SteerMode :=
  if v = 0 then .front else if v = 1 then .counter else if v = 2 then .crab else .rear

/-- SLEWING is entered toward a mode: the busy mark is set, and the drive is clamped at once (R62, R64, R66). -/
def enterSlew (m : SteerMode) (s : State) : State :=
  busyClamp (s.setSteering { s.steering with state := .slewing, next := some m })

/-- A new effective STEERMODE handed over (R62, R63), tested against the speed gate in force (R75). In SLEWING none is
handed over (R45). R62 says that a gate of 0 makes every change wait while any wheel turns, but the floored mean of section
4.3 is 0 for speeds that sum to 1 to 3 mm/s: DESIGN CHOICE (log entry 52), the floored mean decides, and the change slews. -/
def modeHanded (s : State) : State :=
  let m := modeOfIndex (effective s .steermode)
  match s.steering.state with
  | .settled =>
    if s.steering.gate < meanSpeed s then
      s.setSteering { s.steering with state := .waiting, next := some m }
    else enterSlew m s
  | .waiting =>
    if m = s.steering.mode then s.setSteering { s.steering with state := .settled, next := none }
    else s.setSteering { s.steering with next := some m }
  | .slewing => s

/-- A new effective STEER replaces the held STEER (R58); the indicators follow it (R154). -/
def steerHanded (s : State) : State :=
  lampResolve (s.setSteering { s.steering with heldSteer := effective s .steer })

/-- The mode that rules both axles: the next mode while SLEWING, else the mode (R59). -/
def rulingMode (t : Steering) : SteerMode :=
  match t.state, t.next with
  | .slewing, some m => m
  | _, _ => t.mode

/-- The base angle A (R59). -/
def baseAngle (g : Geometry) (steer : Int) : Int := (steer * g.maxAngle).tdiv 1000

/-- The front target of a mode (R59). -/
def frontTargetOf (m : SteerMode) (a : Int) : Int :=
  match m with
  | .front => a
  | .counter => a
  | .crab => a
  | .rear => 0

/-- The rear target of a mode (R59). -/
def rearTargetOf (m : SteerMode) (a : Int) (p : Nat) : Int :=
  match m with
  | .front => 0
  | .counter => -((a * p).tdiv 100)
  | .crab => (a * p).tdiv 100
  | .rear => -a

/-- A servo's pulse for its axle's output angle (R61). -/
def pulseOf (v : Servo) (angle : Int) : Int :=
  clampI v.low v.high (v.centre + ((if v.reverse then -angle else angle) * v.rate).tdiv 10)

/-! ### Turn geometry -/

/-- A wheel's position in half-millimetres (section 4.5). -/
def wheelX (g : Geometry) : Wheel → Int
  | .fl => g.wheelbase
  | .fr => g.wheelbase
  | .rl => -g.wheelbase
  | .rr => -g.wheelbase

/-- A wheel's lateral position in half-millimetres. -/
def wheelY (g : Geometry) : Wheel → Int
  | .fl => g.track
  | .fr => -g.track
  | .rl => g.track
  | .rr => -g.track

/-- The centre's lateral position (R69). -/
def centreY (g : Geometry) (d : Int) : Int := (2 * (g.wheelbase : Int) * 4096).tdiv d

/-- The centre's longitudinal position (R69). -/
def centreX (g : Geometry) (y0 tf : Int) : Int := g.wheelbase - (y0 * tf).tdiv 4096

/-- A wheel's distance to the centre (R70). -/
def wheelDistance (g : Geometry) (x0 y0 : Int) (w : Wheel) : Nat :=
  isqrt ((wheelX g w - x0) * (wheelX g w - x0) + (wheelY g w - y0) * (wheelY g w - y0)).natAbs

/-- The largest of the four distances (R70). -/
def maxDistance (g : Geometry) (x0 y0 : Int) : Nat :=
  max (max (wheelDistance g x0 y0 .fl) (wheelDistance g x0 y0 .fr))
    (max (wheelDistance g x0 y0 .rl) (wheelDistance g x0 y0 .rr))

/-- A wheel lies across the centre from the vehicle's midpoint (R71). -/
def acrossCentre (g : Geometry) (y0 : Int) (w : Wheel) : Bool := decide ((wheelY g w - y0) * (-y0) < 0)

/-- The signed ratio of R71, before pivot and strength. -/
def signedRatio (g : Geometry) (x0 y0 : Int) (w : Wheel) : Int :=
  let size : Int := wheelDistance g x0 y0 w * 1024 / maxDistance g x0 y0
  if acrossCentre g y0 w then -size else size

/-- A negative ratio becomes 0 unless pivot is allowed (R71). -/
def pivotRatio (g : Geometry) (r : Int) : Int := if r < 0 ∧ g.pivotAllowed = false then 0 else r

/-- The ratio blended toward 1024 by the differential strength (R72). -/
def strengthRatio (g : Geometry) (r : Int) : Int := 1024 - ((1024 - r) * g.strength).tdiv 100

/-- The final ratio of a wheel for a centre (R71, R72). -/
def finalRatio (g : Geometry) (x0 y0 : Int) (w : Wheel) : Int := strengthRatio g (pivotRatio g (signedRatio g x0 y0 w))

/-- The geometry record that follows `old` for two output angles (R67 to R73). R68 does not take the stages of R69 to R74 for
parallel axles, while R60, R73 and R74 grow the sequence and hand the record over at each update: DESIGN CHOICE (log entry
53), the parallel record takes the next sequence and is handed over too. -/
def geometryOf (g : Geometry) (old : GeometryRec) (front rear : Int) : GeometryRec :=
  let tf := tanOf front
  let d := tf - tanOf rear
  if d.natAbs < 16 then
    { ratios := ⟨1024, 1024, 1024, 1024⟩, parallel := true, pivot := false, x0 := 0, y0 := none, seq := old.seq + 1 }
  else
    let y0 := centreY g d
    let x0 := centreX g y0 tf
    { ratios := PerWheel.of fun w => finalRatio g x0 y0 w
      parallel := false
      pivot := Wheel.all.any fun w => acrossCentre g y0 w
      x0 := x0
      y0 := some y0
      seq := old.seq + 1 }

end Sys2Proof.Machine
end

