-- ==== Sys2Proof/Machine/Resolver.lean ====
section
/-! DEFINITION. The Authority Resolver: the deciding levels (R41 to R46), resolution and its hand-over (R40), the
handover blend (R48 to R50), and takeover grants (R51, R53, R56). The recovery test that an underlying DRIVE is handed to
(R137) stands here too, since a resolution runs it. -/
namespace Sys2Proof.Machine

/-! ### Cutoff recovery test -/

/-- In CUTOFF the recovery dwell timer runs while all three conditions hold, and stops at 0 when one fails (R137). -/
def recoveryTest (s : State) : State :=
  if s.protection.state = .cutoff then
    s.setProtection
      { s.protection with
        recovery :=
          if s.protection.cellOk && s.protection.currentOk && s.protection.driveOk then
            some (s.protection.recovery.getD 0)
          else none }
  else s

/-- The underlying DRIVE lies within the neutral band (R137). -/
def underlyingInBand (s : State) : Bool := inBand s (effOf s .drive).underlying

/-- The third recovery condition tested against the underlying DRIVE (R137). -/
def recoveryDriveTest (s : State) : State :=
  recoveryTest (s.setProtection { s.protection with driveOk := underlyingInBand s })

/-! ### The deciding levels -/

/-- What the levels from GRANT to FAILSAFE decide: the level, the source and the resolved value; no value is HOLD. -/
structure Decision where
  level : Level
  source : Src
  value : Option Int
deriving DecidableEq, Repr

/-- A master as a deciding source. -/
def srcOf : Master → Src
  | .radio => .radio
  | .companion => .companion

/-- A slot's value; an EMPTY slot counts as 0 (R52). -/
def slotValue (s : State) (m : Master) (f : Fn) : Int := ((slotOf s m f).value).getD 0

/-- A source is present and its slot is usable (R43). -/
def decides (s : State) (m : Master) (f : Fn) : Bool := present s m && usable s m f

/-- The trim added to a value that `m` decides (R46). -/
def trimFor (s : State) (m : Master) (f : Fn) : Int :=
  match (authOf s f).trim with
  | some t =>
    if trimmable f ∧ t ≠ m ∧ decides s t f then (slotValue s t f * (authOf s f).trimLimit).tdiv 1000 else 0
  | none => 0

/-- The resolved value of a deciding slot: its value with trim, clamped where trim may act (R46). -/
def decidedValue (s : State) (m : Master) (f : Fn) : Int :=
  if trimmable f then clampI (-1000) 1000 (slotValue s m f + trimFor s m f) else slotValue s m f

/-- The SECONDARY level, if it applies (R43). -/
def secondaryOf (s : State) (f : Fn) : Option Master :=
  match (authOf s f).secondary with
  | some m => if decides s m f then some m else none
  | none => none

/-- The levels from GRANT to FAILSAFE, in order (R42 to R44). -/
def decision (s : State) (f : Fn) : Decision :=
  if (grantOf s f).held.isSome then ⟨.grant, .companion, some (slotValue s .companion f)⟩
  else if decides s (authOf s f).primary f then
    ⟨.primary, srcOf (authOf s f).primary, some (decidedValue s (authOf s f).primary f)⟩
  else match secondaryOf s f with
    | some m => ⟨.secondary, srcOf m, some (decidedValue s m f)⟩
    | none => ⟨.failsafe, .failsafe, s.profile.failsafe.get f⟩

/-- The value of a locked function: DRIVE 0, WINCH 0, DRAG the cutoff drag (R41). -/
def lockValue (s : State) (f : Fn) : Int := if f = .drag then s.profile.pack.cutoffDrag else 0

/-- Control passes between the two masters (R48). -/
def mastersChange (a b : Src) : Bool := (a == .radio && b == .companion) || (a == .companion && b == .radio)

/-- A numeric entry decided above FAILSAFE: the blend begins, goes on or ends (R48, R50). `byMark` says that a change of
a confirmed mark caused the resolution. -/
def blendEntry (old : Eff) (d : Decision) (r : Int) (handover : Nat) (byMark : Bool) : Eff :=
  let e : Eff := { value := r, level := d.level, source := d.source, blend := none, target := r, underlying := r }
  match old.blend with
  | some b =>
    if byMark then e
    else if mastersChange old.source d.source then
      if handover = 0 then e
      else { e with value := old.value, blend := some ⟨old.value, 0, handover, Config.blendPeriod⟩ }
    else { e with value := old.value, blend := some b }
  | none =>
    if mastersChange old.source d.source ∧ handover ≠ 0 then
      { e with value := old.value, blend := some ⟨old.value, 0, handover, Config.blendPeriod⟩ }
    else e

/-- A resolution's new entry for a function that is not busy (R40 to R50). With HOLD the resolved value is the effective
value as it stands, and under a lock the underlying value as it stands (R44). -/
def resolvedEntry (s : State) (f : Fn) (byMark : Bool) : Eff :=
  let old := effOf s f
  let d := decision s f
  if locked s f then
    { value := lockValue s f, level := .lockout, source := .none, blend := none, target := lockValue s f,
      underlying := d.value.getD old.underlying }
  else
    let r := d.value.getD old.value
    if isNumeric f && d.level != .failsafe then blendEntry old d r (authOf s f).handover byMark
    else { value := r, level := d.level, source := d.source, blend := none, target := r, underlying := r }

/-! ### Resolution -/

/-- A changed effective value is handed to the blocks that act on it (R40). -/
def handOn (f : Fn) (s : State) : State :=
  match f with
  | .drive => lampResolve (driveHanded s)
  | .steer => steerHanded s
  | .steermode => modeHanded s
  | .winch => winchHanded s
  | .drag => lampResolve (dragHanded s)
  | .range => rangeHanded s
  | .scene => sceneHanded s

/-- An underlying DRIVE that changed while the lockout set is filled is handed to Pack Protection (R40, R137). -/
def handUnderlying (before : Int) (s : State) : State :=
  if s.resolver.lockout ∧ (effOf s .drive).underlying ≠ before then recoveryDriveTest s else s

/-- The new entry is written, and what changed is handed on (R40). -/
def commitEff (f : Fn) (e : Eff) (s : State) : State :=
  let s1 := setEff s f e
  handUnderlying (effOf s .drive).underlying (if e.value = effective s f then s1 else handOn f s1)

/-- A slot taken by the resolver (R22). -/
def takenSlot (x : Slot) : Slot := if x.state = .fresh then { x with state := .taken } else x

/-- Every FRESH slot of the function becomes TAKEN (R22). -/
def takeSlots (f : Fn) (s : State) : State :=
  setSlot (setSlot s .radio f (takenSlot (slotOf s .radio f))) .companion f (takenSlot (slotOf s .companion f))

/-- A function whose consumer is busy: STEERMODE while SLEWING (R22, R45). -/
def consumerBusy (s : State) (f : Fn) : Bool := f == .steermode && busy s

/-- Resolve a function (R40). While its consumer is busy nothing is resolved or taken (R45). -/
def resolve (f : Fn) (byMark : Bool) (s : State) : State :=
  if consumerBusy s f then s
  else
    let s1 := takeSlots f s
    commitEff f (resolvedEntry s1 f byMark) s1

/-- Resolve functions in order; `marks` says which of them a change of a confirmed mark also reaches. -/
def resolveList (fs : List Fn) (marks : Fn → Bool) (s : State) : State :=
  fs.foldl (fun s f => resolve f (marks f) s) s

/-- Resolve every function (R2, R14, R39). -/
def resolveAll (s : State) : State := resolveList Fn.all (fun _ => false) s

/-! ### Grants -/

/-- The lamps follow a change of whether any grant is HELD (R154). -/
def lampsIfHeld (before : Bool) (s : State) : State := if anyHeld s = before then s else lampResolve s

/-- A HELD grant ends: the record goes to NONE with the reason, GRANT_ENDED is raised and the function is resolved. An
end that finds no grant does nothing (R51). -/
def endGrant (reason : EndReason) (f : Fn) (s : State) : State :=
  if (grantOf s f).held.isSome then
    lampsIfHeld (anyHeld s)
      (resolve f false (raise .grantEnded (setGrant s f { held := none, lastEnd := some reason })))
  else s

/-- The grants on functions end, in function order (R56). -/
def endGrants (reason : EndReason) (which : Fn → Bool) (s : State) : State :=
  (Fn.all.filter which).foldl (fun s f => endGrant reason f s) s

/-- A grant begins: HELD for the clamped duration, with no breakaway counted (R52). -/
def beginGrant (f : Fn) (duration : Nat) (s : State) : State :=
  lampsIfHeld (anyHeld s)
    (resolve f false (setGrant s f { grantOf s f with held := some ⟨duration, 0⟩ }))

/-! ### Blend steps -/

/-- The effective value of a blend at an elapsed time below its time (R49). -/
def blendValue (start target : Int) (elapsed time : Nat) : Int :=
  start + ((target - start) * (elapsed : Int)).tdiv time

/-- A blend's entry after a step's resolution: on the line, or at its target (R49). -/
def steppedEntry (e : Eff) : Eff :=
  match e.blend with
  | some b =>
    if b.elapsed = 0 then e
    else if b.elapsed < b.time then { e with value := blendValue b.start e.target b.elapsed b.time }
    else { e with value := e.target, blend := none }
  | none => e

/-- A blend step of a function expires (R49): the elapsed grows by 10, the function is resolved, and the effective value
moves along the ramp. The effective value that is compared and handed on is the one before the step. -/
def blendStep (f : Fn) (s : State) : State :=
  match (effOf s f).blend with
  | none => s
  | some b =>
    let s1 := takeSlots f
      (setEff s f { effOf s f with blend := some { b with elapsed := b.elapsed + 10, next := Config.blendPeriod } })
    commitEff f (steppedEntry (resolvedEntry s1 f false)) s1

/-! ### Presence -/

/-- A master's presence changed: while it is gone its grants end by the grant rules, and every function is resolved (R2,
R56). `marks` says on which functions a confirmed mark changed with it. -/
def presenceChanged (m : Master) (marks : Fn → Bool) (s : State) : State :=
  let s1 :=
    if present s m then s
    else match m with
      | .companion => endGrants .lapse (fun _ => true) s
      | .radio => endGrants .tether (fun f => (authOf s f).tethered) s
  resolveList Fn.all marks s1

/-- The lockout set is filled: grants on its functions end, and the three functions take their lockout values (R41). -/
def fillLockout (s : State) : State :=
  let s1 := s.setResolver { s.resolver with lockout := true }
  resolveList [.drive, .winch, .drag] (fun _ => false) (endGrants .lockout lockable s1)

/-- The lockout set is emptied: the three functions take their resolved values at once (R41). -/
def emptyLockout (s : State) : State :=
  resolveList [.drive, .winch, .drag] (fun _ => false) (s.setResolver { s.resolver with lockout := false })

end Sys2Proof.Machine
end

