-- ==== Sys2Proof/Machine/DemandTable.lean ====
section
/-! DEFINITION. The Demand Table (chapter 2): slot writes (R20 to R23, R26) and ageing (R24, R25); and the events of the
source contexts that act through it: live-making (R3, R7), lapse (R9) and barring (R11). -/
namespace Sys2Proof.Machine

/-! ### Slot writes -/

/-- A value brought to the function's range (R20); a discrete value is checked before it is written. -/
def rangedValue (f : Fn) (v : Int) : Int := if isNumeric f then clampI (fnLow f) (fnHigh f) v else v

/-- A value sets the confirmed mark: DRIVE or WINCH within the neutral band (R26). -/
def confirms (s : State) (f : Fn) (v : Int) : Bool := hasMark f && inBand s v

/-- A write to a waiting slot: a repeat, or a supersede under the slot policy (R23). -/
def writeWaiting (keep : Bool) (v : Int) (x : Slot) : Slot :=
  if x.value = some v ∨ x.offered = some v then { x with age := 0, offered := some v }
  else if keep then { x with age := 0, offered := some v, superseded := satSucc 255 x.superseded }
  else
    { x with
      age := 0
      offered := some v
      superseded := satSucc 255 x.superseded
      value := some v
      seq := x.seq + 1 }

/-- A write to a slot that is not waiting (R21). -/
def writePlain (v : Int) (x : Slot) : Slot :=
  if x.value = some v then
    { x with age := 0, offered := some v, state := if x.state = .taken then .taken else .fresh }
  else { x with age := 0, offered := some v, state := .fresh, value := some v, seq := x.seq + 1 }

/-- A slot is waiting: FRESH while its function's consumer is busy (R23). -/
def isWaiting (s : State) (f : Fn) (x : Slot) : Bool := consumerBusy s f && x.state == .fresh

/-- The slot after a write of a ranged value, its confirmed mark included (R21, R23, R26). -/
def writtenSlot (s : State) (f : Fn) (v : Int) (x : Slot) : Slot :=
  let y := if isWaiting s f x then writeWaiting (authOf s f).keep v x else writePlain v x
  { y with confirmed := x.confirmed || confirms s f v }

/-- A write hands the slot to the resolver when it changes its state, its value or its mark (R21, R26). -/
def writeHands (x y : Slot) : Bool := y.state != x.state || y.value != x.value || y.confirmed != x.confirmed

/-- Write a value to a master's slot (R20 to R26). -/
def writeSlot (m : Master) (f : Fn) (v : Int) (s : State) : State :=
  let x := slotOf s m f
  let y := writtenSlot s f (rangedValue f v) x
  let s1 := setSlot s m f y
  if writeHands x y then resolve f (y.confirmed != x.confirmed) s1 else s1

/-! ### Ageing -/

/-- A slot that can go STALE: a TAKEN numeric slot (R24). -/
def canStale (f : Fn) (x : Slot) : Bool := isNumeric f && x.state == .taken

/-- A TAKEN numeric slot goes STALE: a grant it carries ends, and the slot is handed to the resolver (R24, R56). The age
is then past the hold time. -/
def slotStale (m : Master) (f : Fn) (s : State) : State :=
  let x := slotOf s m f
  if canStale f x then
    let s1 := setSlot s m f { x with state := .stale, age := max x.age (min 65535 ((authOf s f).hold + 1)) }
    let s2 := if m = .companion then endGrant .stale f s1 else s1
    resolve f false s2
  else s

/-- New hold times: a TAKEN numeric slot already older goes STALE at once (R25, R39). Where several slots are older, the
spec gives no order: DESIGN CHOICE (log entry 45), the RADIO slots in function order and then the COMPANION slots in
function order, each handed to the resolver as it goes STALE. -/
def staleByHold (s : State) : State :=
  let fs := Fn.all.filter isNumeric
  let older (m : Master) (s : State) (f : Fn) : State :=
    if (authOf s f).hold < (slotOf s m f).age then slotStale m f s else s
  fs.foldl (older .companion) (fs.foldl (older .radio) s)

/-! ### Confirmed marks -/

/-- Clear the confirmed mark of a master's slot. -/
def clearMark (m : Master) (f : Fn) (s : State) : State := setSlot s m f { slotOf s m f with confirmed := false }

/-- Clear the confirmed marks of a master's DRIVE and WINCH slots (R3, R7, R11). -/
def clearMarks (m : Master) (s : State) : State := clearMark m .winch (clearMark m .drive s)

/-- The functions whose mark a clearing changes. -/
def marksSet (s : State) (m : Master) (f : Fn) : Bool := hasMark f && (slotOf s m f).confirmed

/-- The functions whose changed mark hands a slot to the resolver, resolved (R26). -/
def resolveMarks (marks : Fn → Bool) (s : State) : State := resolveList (Fn.all.filter marks) marks s

/-! ### Live-making, lapse and barring -/

/-- The context becomes LIVE and its silence timer is loaded (R3, R7). -/
def loadTimer (m : Master) (s : State) : State :=
  match m with
  | .radio => s.setRadio { s.radio with state := .live, timer := s.profile.sources.radioSilence }
  | .companion => s.setComp { s.comp with state := .live, timer := s.profile.sources.compSilence }

/-- The state of a master's context. -/
def ctxState (s : State) : Master → CtxState
  | .radio => s.radio.state
  | .companion => s.comp.state

/-- A master's return from ABSENT or LAPSED: its marks are cleared, RADIO_LIVE is raised for the radio, and a change of
presence or of a mark is handed to the resolver (R2, R3, R7, R26). -/
def masterReturns (m : Master) (s : State) : State :=
  let marks := marksSet s m
  let s1 := clearMarks m (loadTimer m s)
  let s2 := if m = .radio then raise .radioLive s1 else s1
  if present s2 m then presenceChanged m marks s2 else resolveMarks marks s2

/-- A live-making event (R3, R7). -/
def makeLive (m : Master) (s : State) : State :=
  if ctxState s m = .live then loadTimer m s else masterReturns m s

/-- A master's silence timer expires (R9). While the context is not LIVE no timer runs. -/
def lapse (m : Master) (s : State) : State :=
  match m with
  | .radio =>
    if s.radio.state = .live then
      presenceChanged .radio (fun _ => false)
        (raise .radioLapsed (s.setRadio { s.radio with state := .lapsed, timer := 0, lastSeq := none, flags := 0 }))
    else s
  | .companion =>
    if s.comp.state = .live then
      let s1 := s.setComp { s.comp with state := .lapsed, timer := 0, flags := 0 }
      if s.comp.barred then s1 else presenceChanged .companion (fun _ => false) s1
    else s

/-- The barred flag is written: a change raises BAR_CHANGED, clears marks on clearing, and changes a LIVE companion's
presence (R11). -/
def writeBar (b : Bool) (s : State) : State :=
  if s.comp.barred = b then s
  else
    let marks := fun f => !b && marksSet s .companion f
    let s1 := raise .barChanged (s.setComp { s.comp with barred := b })
    let s2 := if b then s1 else clearMarks .companion s1
    if s.comp.state = .live then presenceChanged .companion marks s2 else resolveMarks marks s2

end Sys2Proof.Machine
end

