-- ==== Sys2Proof/Machine/Protection.lean ====
section
/-! DEFINITION. Pack Protection (chapter 8): corrected voltage (R130, R131), the protection states (R132, R133), the
cutoff dwell (R134), cutoff and recovery (R135 to R138), and the allowance (R140, R141). -/
namespace Sys2Proof.Machine

/-! ### Corrected voltage -/

/-- Cell i lies next to an open tap: tap i, or tap i − 1 below it (R131). -/
def nextToOpen (openSet : BitVec 7) (i : Nat) : Bool := openSet.getLsbD i || openSet.getLsbD (i - 1)

/-- Cell i as judged: while BLIND, a cell next to an open tap takes the mean cell voltage (R131). -/
def judgedCell (s : State) (n i : Nat) : Int :=
  if s.protection.blind && nextToOpen s.sense.openSet i then s.sense.packVolts.getD 0 / n
  else (s.sense.cells.toList.getD (i - 1) none).getD 0

/-- The corrected voltage of cell i (R130). -/
def correctedCell (s : State) (n i : Nat) : Int :=
  judgedCell s n i + (s.protection.ip * s.protection.thresholds.rcell).tdiv 1000

/-- Keep the smaller of a running minimum and cell i's voltage; a tie keeps the earlier cell. -/
def keepLower (m : Option VMin) (v : VMin) : Option VMin :=
  match m with
  | some w => if v.volts < w.volts then some v else some w
  | none => some v

/-- Vcorr_min and its cell over cells 1 to n, absent with n of 0 (R130). -/
def correctedMin (s : State) (n : Nat) : Option VMin :=
  (List.range n).foldl (fun m i => keepLower m ⟨correctedCell s n (i + 1), i + 1⟩) none

/-! ### Allowance -/

/-- The target before the cap of BLIND (R140), with Amax and the servo reserve of the PACK section and the thresholds in
force (R145). -/
def baseTarget (p : Pack) (k : Thresholds) (st : ProtState) (vmin : Option VMin) : Nat :=
  if st = .precheck ∨ st = .cutoff then p.servoReserve
  else match vmin with
    | none => p.servoReserve
    | some m =>
      if (k.vcau : Int) ≤ m.volts then p.amax
      else if (k.vcut : Int) ≤ m.volts then
        p.servoReserve + (p.amax - p.servoReserve) * (m.volts - k.vcut).toNat / (k.vcau - k.vcut)
      else p.servoReserve

/-- The cap that BLIND puts on the target (R140). -/
def blindLimit (p : Pack) : Nat := p.amax * p.blindCap / 100

/-- The allowance target (R140). -/
def targetOf (s : State) : Nat :=
  let t := baseTarget s.profile.pack s.protection.thresholds s.protection.state s.protection.vmin
  if s.protection.blind then min t (blindLimit s.profile.pack) else t

/-- The target is recomputed, and the allowance in force falls to a lower target at once (R140, R141). -/
def retarget (s : State) : State :=
  s.setProtection
    { s.protection with target := targetOf s, allowance := min s.protection.allowance (targetOf s) }

/-! ### Recovery conditions -/

/-- The first recovery condition, on the cell count and Vcorr_min (R137). -/
def cellOkNow (s : State) : Bool :=
  decide (2 ≤ s.sense.count.getD 0) &&
    match s.protection.vmin with
    | some m => decide ((s.protection.thresholds.vrecover : Int) ≤ m.volts)
    | none => false

/-- The second recovery condition, on Ip (R137). -/
def currentOkNow (s : State) : Bool := decide (s.protection.ip < s.profile.pack.recoveryCurrent)

/-- The first condition tested (R137). -/
def recoveryCellTest (s : State) : State :=
  recoveryTest (s.setProtection { s.protection with cellOk := cellOkNow s })

/-- The second condition tested (R137). -/
def recoveryCurrentTest (s : State) : State :=
  recoveryTest (s.setProtection { s.protection with currentOk := currentOkNow s })

/-! ### Changes of state -/

/-- The state changes: PACK_STATE is raised and the lamps follow (R139, R154). -/
def setProtState (st : ProtState) (s : State) : State :=
  if s.protection.state = st then s
  else lampResolve (raise .packState (s.setProtection { s.protection with state := st }))

/-- CUTOFF is entered (R135). The first two recovery conditions are tested in every state at their own events; the third,
handed over only in CUTOFF, is tested at the entry (R137; log entry 20). -/
def enterCutoff (why : LatchReason) (s : State) : State :=
  let s1 := s.setRetained { s.retained with latch := some why }
  let s2 := s1.setProtection { s.protection with state := .cutoff, dwell := none, recovery := none }
  recoveryDriveTest (lampResolve (raise .packState (retarget (fillLockout s2))))

/-- A NOPACK result: CUTOFF, or in CUTOFF a new latch reason and the recovery dwell stopped (R127, R135). -/
def nopackHanded (s : State) : State :=
  if s.protection.state = .cutoff then
    (s.setRetained { s.retained with latch := some .nopack }).setProtection { s.protection with recovery := none }
  else enterCutoff .nopack s

/-- CUTOFF is left (R138). -/
def leaveCutoff (s : State) : State :=
  let s1 := s.setRetained { s.retained with latch := none }
  let s2 := s1.setProtection { s.protection with state := .normal, recovery := none }
  lampResolve (raise .packState (retarget (emptyLockout s2)))

/-! ### Evaluation -/

/-- NORMAL, CAUTION and SHED are the states that a voltage moves (R132). -/
def judging (st : ProtState) : Bool := st == .normal || st == .caution || st == .shed

/-- The state that a corrected voltage gives from a state (R132). -/
def stateAfter (p : Thresholds) (before : ProtState) (v : Int) : ProtState :=
  if v < p.vshed then .shed
  else match before with
    | .normal => if v < p.vcau then .caution else .normal
    | .caution => if (p.vcau + p.hysteresis : Int) ≤ v then .normal else .caution
    | .shed =>
      if (p.vcau + p.hysteresis : Int) ≤ v then .normal
      else if (p.vcau : Int) ≤ v ∨ (p.vshed + p.hysteresis : Int) ≤ v then .caution
      else .shed
    | .precheck => .precheck
    | .cutoff => .cutoff

/-- The state that PRECHECK ends in (R133). -/
def stateAtStart (p : Thresholds) (v : Int) : ProtState :=
  if (p.vcau : Int) ≤ v then .normal else if (p.vshed : Int) ≤ v then .caution else .shed

/-- The cutoff dwell after a cell sweep completion, or the start of it at the end of PRECHECK (R133, R134). -/
def dwellAfter (p : Thresholds) (v : Int) (dwell : Option Nat) : Option Nat :=
  if v < p.vcut then some (dwell.getD 0) else none

/-- The state is evaluated and the cutoff dwell acted on, where a voltage moves the state (R132, R134). -/
def evaluateState (s : State) : State :=
  match s.protection.vmin with
  | some m =>
    if judging s.protection.state then
      let k := s.protection.thresholds
      let s1 := setProtState (stateAfter k s.protection.state m.volts) s
      s1.setProtection { s1.protection with dwell := dwellAfter k m.volts s1.protection.dwell }
    else s
  | none => s

/-- The thresholds, hysteresis and cell resistance of the PACK section come into force (R145). -/
def takeThresholds (s : State) : State :=
  s.setProtection { s.protection with thresholds := thresholdsOf s.profile.pack }

/-- The corrected minimum is taken over cells 1 to n (R130). -/
def takeMinimum (n : Nat) (s : State) : State := s.setProtection { s.protection with vmin := correctedMin s n }

/-- A cell sweep completion as Pack Protection takes it (R130 to R135, R137, R140, R145). -/
def cellsHanded (n : Nat) (nopack : Bool) (s : State) : State :=
  let s1 := takeMinimum n (takeThresholds s)
  let s2 := if nopack then nopackHanded s1 else s1
  recoveryCellTest (retarget (evaluateState s2))

/-- PRECHECK ends at the first check that follows a cell sweep (R133). -/
def endPrecheck (s : State) : State :=
  match s.protection.vmin with
  | some m =>
    if s.protection.state = .precheck ∧ s.sense.swept then
      let k := s.protection.thresholds
      let s1 := setProtState (stateAtStart k m.volts) s
      retarget (s1.setProtection { s1.protection with dwell := dwellAfter k m.volts s1.protection.dwell })
    else s
  | none => s

/-- A lead check completion as Pack Protection takes it: BLIND follows the open set, a change of it recomputes the
target, and PRECHECK may end (R131, R133, R140). -/
def openSetHanded (s : State) : State :=
  let b := s.sense.openSet != 0
  let s1 := s.setProtection { s.protection with blind := b }
  endPrecheck (if s.protection.blind = b then s1 else retarget s1)

/-- The latest pack current, and the second recovery condition with it (R118, R137). -/
def packCurrentHanded (ip : Int) (s : State) : State :=
  recoveryCurrentTest (s.setProtection { s.protection with ip := ip })

/-- The cutoff dwell reaches its time (R134). -/
def dwellExpires (s : State) : State :=
  if judging s.protection.state && s.protection.dwell.isSome then enterCutoff .undervolt s else s

/-- The recovery dwell reaches its time (R138). -/
def recoveryExpires (s : State) : State :=
  if s.protection.state = .cutoff ∧ s.protection.recovery.isSome then leaveCutoff s else s

end Sys2Proof.Machine
end

