-- ==== Sys2Proof/Machine/Sensing.lean ====
section
/-! DEFINITION. The Sense Unit (chapter 7): the current sweep (R118, R119), the tap converter's slots (R120), the cell
sweep (R121, R126, R127) and the lead check sweep (R123 to R125). -/
namespace Sys2Proof.Machine

/-! ### Current sweep -/

/-- A current reading from its code (R119). -/
def currentReading (h : Shunt) (c : Code) : Int := (((c.toNat : Int) - h.zero) * h.full).tdiv 4096

/-- The six readings of a sweep (R118, R119). -/
def readCurrents (h : Shunts) (c : CurrentCodes) : Currents where
  pack := currentReading h.pack c.pack
  wheels :=
    ⟨currentReading h.wheels.fl c.fl, currentReading h.wheels.fr c.fr, currentReading h.wheels.rl c.rl,
      currentReading h.wheels.rr c.rr⟩
  winch := currentReading h.winch c.winch

/-- The current sweep timer expires: a sweep starts with the settings as they stand, and the timer reloads (R118, R128). -/
def sweepStarts (s : State) : State :=
  s.setSense
    { s.sense with currentSweep := some (shuntsOf s.profile.pack), currentTimer := Config.currentPeriod }

/-- The settings a current sweep completes with: those of its start (R128). A completion with no sweep in flight stands for
a start and a completion with nothing between them (DESIGN CHOICE, log entry 37). -/
def sweepShunts (s : State) : Shunts := s.sense.currentSweep.getD (shuntsOf s.profile.pack)

/-- The wheels take their samples, in wheel order (R91, R118). -/
def sampleWheels (r : PerWheel Int) (s : State) : State :=
  Wheel.all.foldl (fun s w => sampleWheel w (r.get w).natAbs s) s

/-- A current sweep completes (R118). -/
def currentsComplete (codes : CurrentCodes) (s : State) : State :=
  let r := readCurrents (sweepShunts s) codes
  let s1 :=
    s.setSense
      { s.sense with currents := some r, currentSweeps := s.sense.currentSweeps + 1, currentSweep := none }
  let s2 := sampleWheels r.wheels s1
  let s3 := s2.setWinch { s2.winch with current := r.winch.natAbs }
  lampsIfRest (atRest s) (packCurrentHanded r.pack s3)

/-! ### Slots -/

/-- The slot that starts now is a lead check sweep (R120). After a PACK write that gives a new fixed count the very next slot
is one, where R128 speaks of the slot after the next cell sweep (DESIGN CHOICE, log entry 50). -/
def checkNext (n : Sense) : Bool := n.checkDue && n.count.isSome && n.swept

/-- What a slot keeps from its start (R123, R128). The spec does not say which n a lead check sweep takes where a write
changes the count while it is in flight: DESIGN CHOICE (log entry 43), the n of its start. -/
def tapSettings (p : Pack) (n : Sense) : TapSettings := ⟨p.tapFull, p.leadThreshold, n.count.getD 0⟩

/-- A slot of the tap converter starts (R120). -/
def slotStarts (s : State) : State :=
  let kept := some (tapSettings s.profile.pack s.sense)
  if checkNext s.sense then
    s.setSense
      { s.sense with
        slot := .check, tapSweep := kept, checkDue := false, slotCounter := 0, slotTimer := Config.slotPeriod }
  else s.setSense { s.sense with slot := .cell, tapSweep := kept, slotTimer := Config.slotPeriod }

/-- The settings a sweep of the taps completes with: those of its start. A completion with no sweep in flight stands for a
start and a completion with nothing between them (DESIGN CHOICE, log entry 37). -/
def sweepTaps (s : State) : TapSettings := s.sense.tapSweep.getD (tapSettings s.profile.pack s.sense)

/-! ### Cell sweep -/

/-- A tap reading from its code (R121). -/
def tapReading (full : Nat) (c : Code) : Nat := c.toNat * full / 4096

/-- How many taps a cell sweep converts: all six while the count is unresolved (R121). It is the count at the completion:
a count written while the sweep is in flight acts at once, and the next completion after a write of AUTO is one that
converts all six (R126, R128; log entry 43). -/
def tapsConverted (n : Sense) : Nat := n.count.getD 6

/-- The tap readings after a cell sweep (R121), at the full scales of its start. -/
def sweptTaps (full : Vector Nat 6) (n : Sense) (codes : Vector Code 6) : Vector (Option Nat) 6 :=
  Vector.ofFn fun i =>
    if i.val < tapsConverted n then some (tapReading (full.get i) (codes.get i)) else n.taps.get i

/-- Tap k's reading, tap 0 at 0 mV. -/
def tapAt (taps : Vector (Option Nat) 6) (k : Nat) : Nat :=
  if k = 0 then 0 else (taps.toList.getD (k - 1) none).getD 0

/-- Cell i from the tap readings (R121). -/
def cellFrom (taps : Vector (Option Nat) 6) (i : Nat) : Int := (tapAt taps i : Int) - tapAt taps (i - 1)

/-- A cell reading counts toward an AUTO resolution (R126). -/
def countsAsCell (v : Int) : Bool := decide (2500 ≤ v) && decide (v ≤ 4500)

/-- The number of consecutive cells from cell 1 within 2500..4500 mV (R126). -/
def autoCount (taps : Vector (Option Nat) 6) : Nat :=
  ([1, 2, 3, 4, 5, 6].takeWhile fun i => countsAsCell (cellFrom taps i)).length

/-- The cell count after a cell sweep (R126). -/
def sweptCount (n : Sense) (taps : Vector (Option Nat) 6) : Nat := n.count.getD (autoCount taps)

/-- The sense record after a cell sweep, steps 1 to 6 of R121. The slot counter grows at every completion (R120), past the
249 of section 7.1 where check interval 250 meets a count that is unresolved at the next slot: the spec does not say that
it stops there, and DESIGN CHOICE (log entry 44) it does not. -/
def sweptSense (interval : Nat) (full : Vector Nat 6) (n : Sense) (codes : Vector Code 6) : Sense :=
  let taps := sweptTaps full n codes
  let k := sweptCount n taps
  { n with
    taps := taps
    count := some k
    cells := Vector.ofFn fun i => if i.val < k then some (cellFrom taps (i.val + 1)) else none
    packVolts := some (tapAt taps k)
    cellSweeps := n.cellSweeps + 1
    slotCounter := n.slotCounter + 1
    checkDue := n.checkDue || decide (interval ≤ n.slotCounter + 2)
    slot := .none
    tapSweep := none
    swept := true }

/-- The resolution of an unresolved count below 2 is a NOPACK result (R127). -/
def foundNopack (n : Sense) (k : Nat) : Bool := n.count.isNone && decide (k < 2)

/-- A cell sweep completes (R121). -/
def cellsComplete (codes : Vector Code 6) (s : State) : State :=
  let n := sweptSense s.profile.pack.checkInterval (sweepTaps s).full s.sense codes
  let k := n.count.getD 0
  cellsHanded k (foundNopack s.sense k) (s.setSense n)

/-! ### Lead check sweep -/

/-- A tap's check pair (R123). -/
def checkPair (full : Nat) (c : LeadCodes) : CheckPair := ⟨tapReading full c.high, tapReading full c.low⟩

/-- The last check pairs after a check: those of taps 1 to n are new, the others stand (R123). -/
def checkedPairs (k : TapSettings) (pairs : Vector (Option CheckPair) 6) (codes : Vector LeadCodes 6) :
    Vector (Option CheckPair) 6 :=
  Vector.ofFn fun i =>
    if i.val < k.taps then some (checkPair (k.full.get i) (codes.get i)) else pairs.get i

/-- A pair whose readings lie further apart than the lead threshold is an open tap's (R123). -/
def pairOpen (threshold : Nat) (x : CheckPair) : Bool := decide (threshold < ((x.high : Int) - x.low).natAbs)

/-- Tap k is found open by a check (R123). -/
def tapOpen (k : TapSettings) (codes : Vector LeadCodes 6) (i : Fin 6) : Bool :=
  decide (i.val < k.taps) && pairOpen k.threshold (checkPair (k.full.get i) (codes.get i))

/-- The set of the taps a check finds open, tap k in bit k (R124). -/
def foundOpen (k : TapSettings) (codes : Vector LeadCodes 6) : BitVec 7 :=
  (List.finRange 6).foldl (fun v i => if tapOpen k codes i then addMember v (i.val + 1) else v) 0

/-- LEAD_OPEN is raised for a new, nonempty open set (R124). -/
def raiseLeadOpen (before : BitVec 7) (s : State) : State :=
  if s.sense.openSet ≠ 0 ∧ s.sense.openSet ≠ before then raise .leadOpen s else s

/-- The CHECK_LEADS answer: OK, the open set and the last check pair of each tap taken (R125). -/
def leadsPayload (taken : Nat) (s : State) : List Byte :=
  okPayload ++ putOpen s ++ (s.sense.pairs.toList.take taken).flatMap pairBytes

/-- A waiting CHECK_LEADS is answered from a check that took `taken` taps (R124, R125). -/
def answerLeads (taken : Nat) (s : State) : State :=
  if s.sense.waiting then answer .checkLeads (leadsPayload taken s) (s.setSense { s.sense with waiting := false })
  else s

/-- The sense record after a lead check sweep (R123, R124). -/
def checkedSense (k : TapSettings) (n : Sense) (codes : Vector LeadCodes 6) : Sense :=
  { n with
    pairs := checkedPairs k n.pairs codes
    openSet := foundOpen k codes
    checkSweeps := n.checkSweeps + 1
    slot := .none
    tapSweep := none }

/-- A lead check sweep completes (R124). -/
def leadsComplete (codes : Vector LeadCodes 6) (s : State) : State :=
  answerLeads (sweepTaps s).taps
    (openSetHanded (raiseLeadOpen s.sense.openSet (s.setSense (checkedSense (sweepTaps s) s.sense codes))))

end Sys2Proof.Machine
end

