-- ==== Sys2Proof/Machine/ProfileStore.lean ====
section
/-! DEFINITION. The Profile Store: what each section's acceptance does at once (R14, R18, R25, R29, R39, R66, R75, R98,
R116, R128, R145, R158, R159), the checks of a write (R172) and the store (R173). -/
namespace Sys2Proof.Machine

/-! ### Acceptance -/

/-- The live copies are replaced. -/
def writeLive (d : SectionData) (s : State) : State := s.setProfile (s.profile.write d)

/-- An accepted SOURCES write: changed function masks end grants out of reach and resolve every function (R14, R18). -/
def sourcesActs (old : Sources) (s : State) : State :=
  if old.radioFns = s.profile.sources.radioFns ∧ old.compFns = s.profile.sources.compFns then s
  else
    resolveAll (endGrants .mapChange (fun f => !(s.profile.sources.compFns.getLsbD (fnNumber f))) s)

/-- An accepted AUTHORITY write, in the order of R39. -/
def authorityActs (s : State) : State :=
  let ends := fun f => !(authOf s f).takeover || ((authOf s f).tethered && !present s .radio)
  resolveAll (staleByHold (endGrants .mapChange ends s))

/-- An accepted FAILSAFE write: every function whose content changed is resolved (R29, R40). -/
def failsafeActs (old : PerFn (Option Int)) (s : State) : State :=
  resolveList (Fn.all.filter fun f => old.get f != s.profile.failsafe.get f) (fun _ => false) s

/-- An accepted GEOMETRY write: the transition limit acts at once while the busy mark is set (R66, R75, R84). -/
def geometryActs (s : State) : State := if busy s then busyClamp s else s

/-- A band that the effective DRIVE moved into or out of starts or stops the clear timers of the LOCKED_OUT channels
(R95, R98). -/
def bandAtLockout (moved band : Bool) (c : Channel) : Channel :=
  if moved && c.state == .lockedOut then { c with clear := if band then some (c.clear.getD 0) else none } else c

/-- A running clear timer at or past a new clear time clears its channel (R98). -/
def clearByTime (clearTime : Nat) (drag : Int) (c : Channel) : Channel :=
  match c.state, c.clear with
  | .lockedOut, some t => if clearTime ≤ t then clearedChannel drag c else c
  | _, _ => c

/-- The neutral band of a DRIVE section holds a value. -/
def inBandOf (d : DriveSection) (v : Int) : Bool := decide (v.natAbs ≤ d.neutralBand)

/-- An accepted DRIVE write (R98). Where one write moves the effective DRIVE out of the band and lowers the clear time, R98
gives no order: DESIGN CHOICE (log entry 47), the band is tested first, so the clear timer it stops is not compared with
the new time and the channel stays LOCKED_OUT. -/
def driveActs (old : DriveSection) (s : State) : State :=
  let e := effective s .drive
  let s1 := recoveryDriveTest s
  let s2 := mapChans s1 (bandAtLockout (inBandOf old e != inBand s e) (inBand s e))
  let s3 := if inBandOf old s.winch.held = inBand s s.winch.held then s2 else winchActs s2
  mapChans (rangeHanded s3) (clearByTime s.profile.drive.clearTime (effective s .drag))

/-- While home is UNKNOWN an inward duty above the slow-in limit is brought to it (R110, R116). -/
def slowInClamp (s : State) : State :=
  if s.winch.known then s
  else s.setWinch { s.winch with duty := min s.winch.duty s.profile.winch.slowIn }

/-- A changed encoder reverse makes home UNKNOWN (R116). -/
def reverseChanged (old : WinchSection) (s : State) : State :=
  if old.reverse = s.profile.winch.reverse then s else s.setWinch { s.winch with known := false }

/-- A STALLED winch whose clear timer is at or past the new time clears to IDLE (R116). -/
def stallByTime (s : State) : State :=
  match s.winch.state, s.winch.clear with
  | .stalled, some t => if s.profile.winch.stallClear ≤ t then goIdle s else s
  | _, _ => s

/-- A limit state whose stop no longer holds goes by the held WINCH (R116). -/
def retestLimit (s : State) : State :=
  match s.winch.state with
  | .limitIn => if atInStop s then s else goByHeld s
  | .limitOut => if atOutStop s then s else goByHeld s
  | .idle => s
  | .inward => s
  | .outward => s
  | .stalled => s

/-- An accepted WINCH write (R116). -/
def winchActsOn (old : WinchSection) (s : State) : State :=
  retestLimit (stallByTime (slowInClamp (reverseChanged old s)))

/-- The cell count and the check-due flag after an accepted PACK write (R128). A write that leaves the field AUTO: R126 makes
the count unresolved when a write changes the field to AUTO, and lets a resolved count stand until the next reset or PACK
write. DESIGN CHOICE (log entry 48): a write that leaves the field AUTO changes nothing, so the resolved count stands.
A write that gives a new fixed count: R128 says that the next check comes in the slot after the next cell sweep, and by R120
the check-due flag that the write sets makes the very next slot the check, since the count is resolved and a cell sweep has
completed. DESIGN CHOICE (log entry 50): the model follows R120, and puts no cell sweep in between. -/
def packSense (old new : Pack) (n : Sense) : Sense :=
  { n with
    count := if old.cellCount = new.cellCount then n.count else fixedCount new
    checkDue := n.checkDue || old.cellCount != new.cellCount || old.leadThreshold != new.leadThreshold }

/-- The cutoff drag, while the lockout set is filled, is handed to the resolver (R40, R145). -/
def cutoffDragHanded (old : Pack) (s : State) : State :=
  if s.resolver.lockout ∧ old.cutoffDrag ≠ s.profile.pack.cutoffDrag then resolve .drag false s else s

/-- A running dwell timer at or past its new time expires (R145). -/
def dwellsByTime (s : State) : State :=
  match s.protection.dwell, s.protection.recovery with
  | some t, _ => if s.profile.pack.cutoffDwell ≤ t then dwellExpires s else s
  | none, some t => if s.profile.pack.recoveryDwell ≤ t then recoveryExpires s else s
  | none, none => s

/-- An accepted PACK write (R128, R145). The target is recomputed with the new Amax, servo reserve and cap under the
thresholds in force, which follow the section only at the next cell sweep completion. R128 and R145 let several fields act
at once and give no order. DESIGN CHOICE (log entry 51): the cell count acts first, with the recovery condition that it
changes; then the cutoff drag is handed to the resolver; then the target is recomputed; and the running dwell timers, as
the cell count has left them, are compared with their new times last. -/
def packActs (old : Pack) (s : State) : State :=
  let s1 := s.setSense (packSense old s.profile.pack s.sense)
  let s2 := if s1.sense.count = s.sense.count then s1 else recoveryCellTest s1
  dwellsByTime (retarget (cutoffDragHanded old s2))

/-- An accepted SCENES write: the scene in force is taken anew (R159). -/
def sceneActs (i : Fin 16) (s : State) : State := if sceneInForce s = i then sceneHanded s else s

/-- What the owning blocks do at once with new fields; `old` is the profile before the write. -/
def sectionActs (old : Profile) (d : SectionData) (s : State) : State :=
  match d with
  | .sources _ => sourcesActs old.sources s
  | .map _ => s
  | .authority _ => authorityActs s
  | .failsafe _ => failsafeActs old.failsafe s
  | .geometry _ => geometryActs s
  | .drive _ => driveActs old.drive s
  | .winch _ => winchActsOn old.winch s
  | .pack _ => packActs old.pack s
  | .lamps _ => lampResolve s
  | .scene i _ => sceneActs i s
  | .reply _ => s

/-- A write is accepted: the live copy is replaced, its blocks act, and the store begins (R172). -/
def acceptWrite (k : Sect) (d : SectionData) (s : State) : State :=
  let s1 := sectionActs s.profile d (writeLive d s)
  let s2 := s1.setStore { s1.store with storing := some k }
  s2.setCompPort { s2.compPort with request := some .profileWrite }

/-! ### Checks -/

/-- Check 1 of R172: the section, and for SCENES a scene number within 0..15. -/
def writeTarget (sect : Byte) (body : List Byte) : Option Sect :=
  match sectOfNumber sect.toNat with
  | some k => if k = .scenes ∧ 15 < u8 body 0 then none else some k
  | none => none

/-- Check 2 of R172: within COMPANION's section mask, and not radio-held while RADIO is present (R15). -/
def sectReach (s : State) (k : Sect) : Bool :=
  s.profile.sources.compSections.getLsbD (sectNumber k)
    && !(present s .radio && s.profile.sources.radioSections.getLsbD (sectNumber k))

/-- The four checks of a PROFILE_WRITE, in order (R172). -/
def checkWrite (s : State) (sect : Byte) (body : List Byte) : Except Cause (Sect × SectionData) :=
  match writeTarget sect body with
  | none => .error .value
  | some k =>
    if !sectReach s k then .error .reach
    else if !parked s then .error .notParked
    else (checkBody k body).map fun d => (k, d)

/-- A PROFILE_WRITE request (R172). -/
def writeProfile (sect : Byte) (body : List Byte) (s : State) : State :=
  match checkWrite s sect body with
  | .error c => refuse c .profileWrite s
  | .ok (k, d) => acceptWrite k d s

/-! ### Reading -/

/-- The live bytes that a PROFILE_READ returns: for SCENES, the one scene named (R174). -/
def readSection (s : State) (sect : Byte) (scene : Option Byte) : Option (List Byte) :=
  match sectOfNumber sect.toNat with
  | none => none
  | some .scenes =>
    match scene with
    | some i => if i.toNat < 16 then some (bytesScene (s.profile.scenes.get (Fin.ofNat 16 i.toNat))) else none
    | none => none
  | some k => some (sectionBytes s.profile k)

/-- A PROFILE_READ request (R174). -/
def readProfile (sect : Byte) (scene : Option Byte) (s : State) : State :=
  match readSection s sect scene with
  | some bytes => answer .profileRead (sect :: bytes) s
  | none => refuse .value .profileRead s

/-! ### Store -/

/-- What a store leaves in the flash: a whole copy with a fresh CRC, or a copy whose CRC fails (R173). -/
def storedCopy (s : State) (k : Sect) (matched : Bool) : FlashCopy :=
  if matched then flashOf (sectionBytes s.profile k) else .broken

/-- The flash with one section's copy replaced. -/
def setFlash (v : Vector FlashCopy 11) (k : Sect) (c : FlashCopy) : Vector FlashCopy 11 := v.set (sectNumber k) c

/-- The store completes, DONE where the copy read back matches (R173). -/
def storeCompletes (matched : Bool) (s : State) : State :=
  match s.store.storing with
  | none => s
  | some k =>
    let s1 := s.setStore ⟨setFlash s.store.flash k (storedCopy s k matched), none⟩
    answer .profileWrite [if matched then 0 else 1] (raise (if matched then .storeDone else .storeFailed) s1)

end Sys2Proof.Machine
end

