-- ==== Sys2Proof/Machine/StartUp.lean ====
section
/-! DEFINITION. Resets and start-up: the reset kind (R175), the loading of the sections, and the steps of start-up (R176),
with every block at its reset values (R19, R37, R57, R76, R99, R117, R129, R146, R160, R168). -/
namespace Sys2Proof.Machine

/-! ### Retained store -/

/-- The retained store after a reset, its check value formed again (R175). -/
def settleReset (r : Retained) : Retained :=
  if !r.checkOk then { latch := none, dips := 0, lastReset := .powerOn, restartFlag := false, checkOk := true }
  else if r.restartFlag then { r with lastReset := .restart, restartFlag := false }
  else { r with lastReset := .supplyDip, dips := satSucc 65535 r.dips }

/-! ### Sections -/

/-- The length of a section (section 11.2). -/
def sectLength (k : Sect) : Nat := if k = .scenes then 272 else sectWriteLength k

/-- A section's contents put into a profile, through the checks of its owning rule; none where they fail. -/
def loadBody (k : Sect) (bytes : List Byte) (p : Profile) : Option Profile :=
  if k = .scenes then some { p with scenes := readScenes bytes }
  else match checkBody k bytes with
    | .ok d => some (p.write d)
    | .error _ => none

/-- A flash copy loaded into a profile: none where its CRC or its structural checks fail (R176). -/
def loadCopy (k : Sect) (c : FlashCopy) (p : Profile) : Option Profile :=
  match c with
  | .whole bytes crc => if crc16 bytes = crc ∧ bytes.length = sectLength k then loadBody k bytes p else none
  | .broken => none

/-- The live sections after start-up, and whether any section was defaulted. -/
structure Loaded where
  profile : Profile
  defaulted : Bool
deriving DecidableEq, Repr

/-- One section loaded, or left at its defaults and marked defaulted (R176). -/
def loadSection (flash : Vector FlashCopy 11) (l : Loaded) (k : Sect) : Loaded :=
  match loadCopy k (flash.get (sectNumber k)) l.profile with
  | some p => ⟨p, l.defaulted⟩
  | none => ⟨l.profile, true⟩

/-- The sections in section order. -/
def allSects : List Sect :=
  [.sources, .map, .authority, .failsafe, .geometry, .drive, .winch, .pack, .lamps, .scenes, .reply]

/-- Step 2 of start-up: every flash copy is loaded in section order (R176). -/
def loadAll (flash : Vector FlashCopy 11) : Loaded := allSects.foldl (loadSection flash) ⟨defaultProfile, false⟩

/-- The flash after a reset: a store cut short leaves its copy part-written (R173). -/
def flashAfterReset (t : Store) : Vector FlashCopy 11 :=
  match t.storing with
  | some k => setFlash t.flash k .broken
  | none => t.flash

/-! ### The steps -/

/-- Step 3: both pending sets are emptied, PROFILE_DEFAULTED is raised once if a section was defaulted, then RESTARTED
(R176). -/
def startNotices (defaulted : Bool) (s : State) : State :=
  let s1 := s.setNotices ⟨0, 0⟩
  raise .restarted (if defaulted then raise .profileDefaulted s1 else s1)

/-- One function's first resolution, written without a hand-over: the outputs start from the values (R57, R176). -/
def firstEntry (s : State) (f : Fn) : State := setEff s f (resolvedEntry s f false)

/-- Step 5: every function is resolved once (R57). -/
def firstResolution (s : State) : State := Fn.all.foldl firstEntry s

/-- The hook reading closed as outputs start is taken as a closing: WINCH_LIMIT is raised (R102). -/
def startHook (pins : Pins) (s : State) : State := if pins.hookClosed then raise .winchLimit s else s

/-- Step 6: the outputs start from the effective values, and the first lamp resolution is taken (R76, R99, R117, R160,
R176). -/
def startOutputs (pins : Pins) (s : State) : State :=
  let p := s.profile
  let s1 := s.setSteering (Steering.reset (modeOfIndex (effective s .steermode)) (effective s .steer) p.geometry)
  let s2 := s1.setDrive (DriveUnit.reset (effective s .drag))
  let s3 := startHook pins (s2.setWinch (WinchUnit.reset (effective s .winch) pins))
  lampResolve (s3.setLamps (LampUnit.reset (p.scenes.get (sceneInForce s)) p.lamps.halfPeriod))

/-- The state that start-up builds on: every block at its reset values, the lockout set as Pack Protection's state needs
it, the profile as loaded and the retained store as settled; the queue of waiting commands stands. -/
def resetBase (r : Retained) (flash : Vector FlashCopy 11) (p : Profile) (pins : Pins) (pending : List Instr) :
    State where
  radio := RadioCtx.reset
  comp := CompCtx.reset
  slots := Slots.reset
  resolver := { Resolver.reset with lockout := r.latch.isSome }
  steering := Steering.reset .front 0 p.geometry
  drive := DriveUnit.reset 0
  winch := WinchUnit.reset 0 pins
  sense := Sense.reset p.pack
  protection := Protection.reset p.pack r.latch.isSome
  budget := Budget.reset
  lamps := LampUnit.reset (p.scenes.get 0) p.lamps.halfPeriod
  radioPort := RadioPort.reset
  compPort := CompPort.reset pins.selLow
  notices := ⟨0, 0⟩
  profile := p
  store := ⟨flash, none⟩
  retained := r
  nowMs := 0
  pending := pending

/-- Under a retained latch the third recovery condition is tested at the start as it stands (R136, R137; the start itself as
a test is log entry 20). -/
def startRecovery (s : State) : State := if s.protection.state = .cutoff then recoveryDriveTest s else s

/-- Start-up, after each reset kind (R175, R176). -/
def startUp (pins : Pins) (s : State) : State :=
  let r := settleReset s.retained
  let flash := flashAfterReset s.store
  let l := loadAll flash
  startRecovery
    (startOutputs pins
      (firstResolution (startNotices l.defaulted (resetBase r flash l.profile pins s.pending))))

/-- The supply rises from off: the retained store's check value fails (R175). -/
def powerOn (pins : Pins) (s : State) : State :=
  startUp pins (s.setRetained { s.retained with checkOk := false })

/-- The logic supply dips and recovers with the retained store intact (R175). -/
def supplyDip (pins : Pins) (s : State) : State := startUp pins s

/-- The restart flag is set, the check value formed again, and the part resets (R166, R175, R177). -/
def takeRestart (pins : Pins) (s : State) : State :=
  startUp pins (s.setRetained { s.retained with restartFlag := true, checkOk := true })

end Sys2Proof.Machine
end

