-- ==== Sys2Proof/Machine/CompanionPort.lean ====
section
/-! DEFINITION. The Companion Link Port and the requests it routes: the transfer (R164), the taking of a request (R165,
R166), and each request's own checks and effect (R16, R17, R28, R52, R54, R103, R125, R151, R152, R171, R177). -/
namespace Sys2Proof.Machine

/-! ### Requests -/

/-- A pair's value, as its signed 16-bit number. -/
def pairValue (x : DemandPair) : Int := x.value.toInt

/-- The checks of one DEMAND pair, in order (R28). -/
def checkPairOf (s : State) (x : DemandPair) : Except Cause Fn :=
  match fnOfNumber x.fn.toNat with
  | none => .error .value
  | some f =>
    if !(fnMask s .companion).getLsbD (fnNumber f) then .error .reach
    else if !isNumeric f && (decide (pairValue x < fnLow f) || decide (fnHigh f < pairValue x)) then .error .value
    else .ok f

/-- A state and the results of the pairs taken so far. -/
structure PairRun where
  state : State
  results : List Byte

/-- One pair is written or refused (R28). -/
def takePair (r : PairRun) (x : DemandPair) : PairRun :=
  match checkPairOf r.state x with
  | .ok f => ⟨writeSlot .companion f (pairValue x) r.state, r.results ++ [0]⟩
  | .error c => ⟨addCause c r.state, r.results ++ putU 1 (causeCode c)⟩

/-- The pairs of a DEMAND, in order (R28). -/
def takePairs (pairs : List DemandPair) (s : State) : PairRun := pairs.foldl takePair ⟨s, []⟩

/-- DEMAND (R28): a barred companion's request is refused as a whole. -/
def runDemand (pairs : List DemandPair) (s : State) : State :=
  if s.comp.barred then refuse .barred .demand s
  else
    let r := takePairs pairs s
    answer .demand r.results r.state

/-- Check 9 of R52: where the function is tethered and numeric, the radio slot's magnitude lies below half the
breakaway. -/
def radioQuiet (s : State) (f : Fn) : Bool :=
  !((authOf s f).tethered && isNumeric f) || decide ((slotValue s .radio f).natAbs < (authOf s f).breakaway / 2)

/-- The checks of a GRANT, in order (R52). -/
def checkGrant (s : State) (fn : Nat) : Except Cause Fn :=
  match fnOfNumber fn with
  | none => .error .value
  | some f =>
    if s.comp.barred then .error .barred
    else if !(fnMask s .companion).getLsbD (fnNumber f) then .error .reach
    else if (grantOf s f).held.isSome then .error .grantHeld
    else if locked s f then .error .locked
    else if !(authOf s f).takeover then .error .denied
    else if !usable s .companion f then .error .denied
    else if (authOf s f).tethered && !present s .radio then .error .denied
    else if !radioQuiet s f then .error .denied
    else .ok f

/-- The clamped duration of a GRANT, in ms (R52). -/
def grantTime (duration : BitVec 16) : Nat := clampN 100 30000 duration.toNat

/-- GRANT (R52). -/
def runGrant (fn : Byte) (duration : BitVec 16) (s : State) : State :=
  match checkGrant s fn.toNat with
  | .error c => refuse c .grant s
  | .ok f => answer .grant (okPayload ++ putU 2 (grantTime duration)) (beginGrant f (grantTime duration) s)

/-- The checks of a RELEASE, in order (R54). -/
def checkRelease (s : State) (fn : Nat) : Except Cause Fn :=
  match fnOfNumber fn with
  | none => .error .value
  | some f =>
    if !(fnMask s .companion).getLsbD (fnNumber f) then .error .reach
    else if (grantOf s f).held.isSome then .ok f
    else .error .noGrant

/-- RELEASE (R54). -/
def runRelease (fn : Byte) (s : State) : State :=
  match checkRelease s fn.toNat with
  | .error c => refuse c .release s
  | .ok f => answer .release okPayload (endGrant .release f s)

/-- STATUS_READ (section 10.6). -/
def runStatus (page : Byte) (s : State) : State :=
  match statusPage s page.toNat with
  | some bytes => answer .statusRead (page :: bytes) s
  | none => refuse .value .statusRead s

/-- TELEMETRY_READ (section 10.6). -/
def runTelemetry (page : Byte) (s : State) : State :=
  match telemetryPage s page.toNat with
  | some bytes => answer .telemetryRead (page :: bytes) s
  | none => refuse .value .telemetryRead s

/-- NOTICE_TAKE: the lead notice and the whole set, which is then emptied (R171). -/
def runNoticeTake (s : State) : State :=
  answer .noticeTake (putU 1 (leadCode s.notices.comp) ++ putU 2 s.notices.comp.toNat)
    (s.setNotices { s.notices with comp := 0 })

/-- CAUSE_TAKE: the cause set, which is then emptied (R16). -/
def runCauseTake (s : State) : State :=
  answer .causeTake (putU 2 s.comp.causes.toNat) (s.setComp { s.comp with causes := 0 })

/-- FLAGS_SET: the four companion flags are replaced (R17). -/
def runFlagsSet (flags : Byte) (s : State) : State :=
  answer .flagsSet okPayload (s.setComp { s.comp with flags := BitVec.setWidth 4 flags })

/-- Check 1 of R152. -/
def patternFits (bank first count : Nat) : Bool :=
  decide (bank ≤ 1) && decide (1 ≤ count) && decide (count ≤ 8) && decide (first + count ≤ 32)

/-- Check 3 of R152: no bit of a marks byte is set but END and EMPTY. -/
def marksFit (x : StepBytes) : Bool := decide (x.marks.toNat < 4)

/-- The checks of a PATTERN_WRITE, in order (R152). -/
def checkPattern (s : State) (bank first : Nat) (steps : List StepBytes) : Except Cause Unit :=
  if !patternFits bank first steps.length then .error .value
  else if decide (bank = 1) == s.lamps.active then .error .activeBank
  else if !steps.all marksFit then .error .value
  else .ok ()

/-- PATTERN_WRITE (R152). -/
def runPattern (bank first : Byte) (steps : List StepBytes) (s : State) : State :=
  match checkPattern s bank.toNat first.toNat steps with
  | .error c => refuse c .patternWrite s
  | .ok _ => answer .patternWrite okPayload (writePattern bank.toNat first.toNat steps s)

/-- BANK_SWITCH (R151). -/
def runBankSwitch (s : State) : State := answer .bankSwitch okPayload (requestSwitch s)

/-- WINCH_ZERO: home is set while the winch is IDLE or at a limit (R103). -/
def runWinchZero (s : State) : State :=
  if winchDriven s.winch || s.winch.state == .stalled then refuse .notParked .winchZero s
  else answer .winchZero okPayload (homeBraked s)

/-- CHECK_LEADS joins the check in flight or makes one due, and waits for its answer (R125). -/
def runCheckLeads (s : State) : State :=
  let n := s.sense
  let s1 := s.setSense { n with waiting := true, checkDue := n.checkDue || n.slot != .check }
  s1.setCompPort { s1.compPort with request := some .checkLeads }

/-- RESTART is accepted while parked: its OK answer is held until a transfer consumes it (R166, R177). -/
def runRestart (s : State) : State :=
  if parked s then
    let s1 := answer .restart okPayload s
    s1.setCompPort { s1.compPort with restartHeld := true }
  else refuse .notParked .restart s

/-- A request routed to its owning block (section 10.6). -/
def runRequest (r : Request) (s : State) : State :=
  match r with
  | .demand pairs => runDemand pairs s
  | .grant fn duration => runGrant fn duration s
  | .release fn => runRelease fn s
  | .statusRead page => runStatus page s
  | .telemetryRead page => runTelemetry page s
  | .noticeTake => runNoticeTake s
  | .causeTake => runCauseTake s
  | .flagsSet flags => runFlagsSet flags s
  | .profileWrite sect body => writeProfile sect body s
  | .profileRead sect scene => readProfile sect scene s
  | .patternWrite bank first steps => runPattern bank first steps s
  | .bankSwitch => runBankSwitch s
  | .winchZero => runWinchZero s
  | .checkLeads => runCheckLeads s
  | .restart => runRestart s

/-! ### Taking a request -/

/-- Either cell is occupied (R165). -/
def cellsBusy (s : State) : Bool := s.compPort.request.isSome || s.compPort.answer.isSome

/-- The checks of step 3 of R165 were passed. -/
def wellFormed (r : Except Cause Request) : Bool :=
  match r with
  | .ok _ => true
  | .error _ => false

/-- A request refused BUSY: no answer is made; it is a live-making event if its envelope would have passed (R165). -/
def refuseBusy (r : Except Cause Request) (s : State) : State :=
  countRefused .busy (if wellFormed r then makeLive .companion s else s)

/-- Steps 2 to 4 of R165, on a request whose envelope checks gave `r`. -/
def takeRequest (kind : Byte) (r : Except Cause Request) (s : State) : State :=
  if cellsBusy s then refuseBusy r s
  else match r with
    | .error c => refuseByte c kind s
    | .ok q => runRequest q (makeLive .companion s)

/-- A request named by its operands, as a command gives it. -/
def takeNamed (q : Request) (s : State) : State := takeRequest (kindCode q.kind) (sizedRequest q) s

/-! ### Transfers -/

/-- The fall of SEL: the status byte and the answer that the transfer clocks out are fixed (R164). -/
def selFalls (s : State) : State :=
  s.setCompPort { s.compPort with transfer := .running (statusByte s) s.compPort.answer }

/-- The answer that the transfer in progress clocks out. A rise with no fall taken before it stands for a fall and a rise
with nothing between them. -/
def answerSent (s : State) : Option (List Byte) :=
  match s.compPort.transfer with
  | .running _ sent => sent
  | .idle => s.compPort.answer
  | .passedOver => none

/-- The transfer clocked out the status byte and every byte of its answer (R164). -/
def consumes (sent : Option (List Byte)) (count : Nat) : Bool :=
  match sent with
  | some bytes => decide (1 + bytes.length ≤ count)
  | none => false

/-- The answer cell is emptied where the transfer consumed the answer, and the transfer is over (R164). -/
def endTransfer (consumed : Bool) (s : State) : State :=
  s.setCompPort
    { s.compPort with
      transfer := .idle
      answer := if consumed then none else s.compPort.answer
      restartHeld := s.compPort.restartHeld && !consumed }

/-- What was clocked in is taken: no request where the first byte is 0x00 or no whole byte came (R165). -/
def takeClocked (mosi : List Byte) (s : State) : State :=
  match mosi with
  | [] => s
  | b :: _ => if b = 0 then s else takeRequest b (checkEnvelope mosi) s

/-- The rise of SEL (R164 to R166): a transfer that was passed over does nothing; one that consumed the answer of an
accepted RESTART resets the part; otherwise what was clocked in is taken. -/
def selRises (mosi : List Byte) (pins : Pins) (s : State) : State :=
  if s.compPort.transfer = .passedOver then endTransfer false s
  else
    let consumed := consumes (answerSent s) mosi.length
    if consumed && s.compPort.restartHeld then takeRestart pins s
    else takeClocked mosi (endTransfer consumed s)

end Sys2Proof.Machine
end

