-- ==== Sys2Proof/Machine/ChannelMap.lean ====
section
/-! DEFINITION. The Channel Map (section 2.4): matching (R31), the transforms (R32, R33), the crew flag and bar targets
(R34), delivery in item order (R35), and the breakaway test after a frame's last item (R55). -/
namespace Sys2Proof.Machine

/-- An item's tag: the low six bits of its first byte (R161). -/
def itemTag (x : RadioItem) : Nat := x.tagByte.toNat % 64

/-- An item's raw value: twelve bits (R161). -/
def itemRaw (x : RadioItem) : Nat := x.low.toNat + 256 * (x.high.toNat % 16)

/-- An entry whose target is not NONE matches where tag and mask agree (R31). -/
def entryMatches (tag : Nat) (e : MapEntry) : Bool := e.target != .none && (tag &&& e.mask) == (e.tag &&& e.mask)

/-- The lowest-numbered entry that matches a tag (R31). -/
def matchEntry (map : Vector MapEntry 12) (tag : Nat) : Option MapEntry := map.toList.find? (entryMatches tag)

/-- Stages 1 to 5 of the numeric transform (R32). -/
def numericDemand (e : MapEntry) (f : Fn) (raw : Nat) : Int :=
  let v1 := clampI (-1000) 1000 ((((raw : Int) - e.center) * 1000).tdiv e.halfSpan)
  let v2 := if e.reverse then -v1 else v1
  let v3 := if v2.natAbs ≤ e.deadband then 0 else v2
  if f = .drag then clampI 0 1000 v3 else v3

/-- The number of values of a discrete function (R33): one more than its greatest index. -/
def valueCount (f : Fn) : Nat := (fnHigh f).toNat + 1

/-- The index transform (R33). -/
def discreteIndex (e : MapEntry) (f : Fn) (raw : Nat) : Nat :=
  let index := raw * valueCount f / 4096
  if e.reverse then valueCount f - 1 - index else index

/-- The value an entry gives a function for a raw value (R32, R33). -/
def demandOf (e : MapEntry) (f : Fn) (raw : Nat) : Int :=
  if isNumeric f then numericDemand e f raw else discreteIndex e f raw

/-- An item counted as unmatched (R13, R31). -/
def countUnmatched (s : State) : State := s.setRadio { s.radio with unmatched := satSucc 65535 s.radio.unmatched }

/-- A radio crew flag is written (R17, R34). -/
def writeRadioFlag (i : Fin 4) (b : Bool) (s : State) : State :=
  s.setRadio { s.radio with flags := if b then addMember s.radio.flags i.val else dropMember s.radio.flags i.val }

/-- A function is within RADIO's function mask (R13). -/
def radioReaches (s : State) (f : Fn) : Bool := (fnMask s .radio).getLsbD (fnNumber f)

/-- The entry that took an item delivers it (R31, R34). -/
def deliverTo (e : MapEntry) (raw : Nat) (s : State) : State :=
  match e.target with
  | .fn f => if radioReaches s f then writeSlot .radio f (demandOf e f raw) s else countUnmatched s
  | .flag i => writeRadioFlag i (decide (Config.switchThreshold ≤ raw)) s
  | .bar => writeBar (decide (Config.switchThreshold ≤ raw)) s
  | .none => countUnmatched s

/-- One item of a frame (R31). -/
def deliverItem (s : State) (x : RadioItem) : State :=
  match matchEntry s.profile.map (itemTag x) with
  | some e => deliverTo e (itemRaw x) s
  | none => countUnmatched s

/-- The frame has an item that writes the function's radio slot (R55). -/
def frameWrites (s : State) (items : List RadioItem) (f : Fn) : Bool :=
  radioReaches s f && items.any fun x =>
    match matchEntry s.profile.map (itemTag x) with
    | some e => e.target == .fn f
    | none => false

/-- The breakaway test of a numeric function whose grant is HELD, on the value the frame left (R55). -/
def numericBreakaway (f : Fn) (h : HeldGrant) (s : State) : State :=
  if (authOf s f).breakaway ≤ (slotValue s .radio f).natAbs then
    if 1 ≤ h.breakaway then endGrant .breakaway f s
    else setGrant s f { grantOf s f with held := some { h with breakaway := h.breakaway + 1 } }
  else setGrant s f { grantOf s f with held := some { h with breakaway := 0 } }

/-- The breakaway test of one function (R55); `before` holds the slot sequence before the frame. -/
def breakawayTest (before : State) (items : List RadioItem) (s : State) (f : Fn) : State :=
  match (grantOf s f).held with
  | none => s
  | some h =>
    if frameWrites s items f then
      if isNumeric f then numericBreakaway f h s
      else if (slotOf s .radio f).seq = (slotOf before .radio f).seq then s
      else endGrant .breakaway f s
    else s

/-- The items of a valid frame, in order, and the breakaway test after the last (R35, R55). -/
def deliverFrame (items : List RadioItem) (s : State) : State :=
  Fn.all.foldl (breakawayTest s items) (items.foldl deliverItem s)

end Sys2Proof.Machine
end

