-- ==== Sys2Proof/Machine/RadioPort.lean ====
section
/-! DEFINITION. The Radio Link Port: the checks on an arriving frame (R161), its errors (R5), its sequence (R6), the frame
as one piece of work (R162) and the reply window (R163). -/
namespace Sys2Proof.Machine

/-! ### The frame -/

/-- An item's three bytes. -/
def itemBytes (x : RadioItem) : List Byte := [x.tagByte, x.low, x.high]

/-- The length byte of a frame of n items is 3 + 3n (section 10.6). -/
def frameLength (f : RadioFrame) : Nat := 3 + 3 * f.items.length

/-- The bytes under a frame's CRC: the length byte through the last item. -/
def frameBody (f : RadioFrame) : List Byte := BitVec.ofNat 8 (frameLength f) :: f.header :: f.items.flatMap itemBytes

/-- The CRC field equals the CRC of the frame. -/
def frameCrcOk (f : RadioFrame) : Bool := crc16 (frameBody f) == f.crc

/-- A length byte that R161 drops: not a multiple of 3, or outside 6..51. -/
def badLength (l : Nat) : Bool := l % 3 != 0 || decide (l < 6) || decide (51 < l)

/-- The receiver failsafe bit. -/
def frameFailsafe (f : RadioFrame) : Bool := f.header.getLsbD 0

/-- The reply permit bit. -/
def framePermit (f : RadioFrame) : Bool := f.header.getLsbD 1

/-- The frame's sequence, header bits 7 to 2. -/
def frameSeq (f : RadioFrame) : BitVec 6 := BitVec.ofNat 6 (f.header.toNat / 4)

/-- The line is the receiver's: no reply waits out its delay or is being sent (R161). -/
def lineFree (s : State) : Bool := s.radioPort.reply == .none

/-- The assembler's state is set. -/
def setAssembler (a : Assembler) (s : State) : State := s.setRadioPort { s.radioPort with assembler := a }

/-! ### Counts -/

/-- A frame dropped as FORMAT (R5). -/
def dropFormat (s : State) : State :=
  s.setRadio
    { s.radio with formatErrors := satSucc 65535 s.radio.formatErrors, refused := s.radio.refused + 1 }

/-- A frame dropped as CHECK (R5). -/
def dropCheck (s : State) : State :=
  s.setRadio { s.radio with checkErrors := satSucc 65535 s.radio.checkErrors, refused := s.radio.refused + 1 }

/-- The frames missed before a frame of a sequence (R6). -/
def missedBefore (last : Option (BitVec 6)) (seq : BitVec 6) : Nat :=
  match last with
  | some l => (seq - l).toNat - 1
  | none => 0

/-- A valid frame is counted and its sequence applied (R3, R4, R6). -/
def countFrame (seq : BitVec 6) (s : State) : State :=
  s.setRadio
    { s.radio with
      accepted := s.radio.accepted + 1
      missed := min 65535 (s.radio.missed + missedBefore s.radio.lastSeq seq)
      lastSeq := some seq }

/-- Every reply slot count grows by 1, up to 255 (R162). -/
def growCounts (s : State) : State :=
  let c := s.radioPort.counts
  s.setRadioPort
    { s.radioPort with
      counts :=
        ⟨satSucc 255 c.pack, satSucc 255 c.cells, satSucc 255 c.winch, satSucc 255 c.drive, satSucc 255 c.flags⟩ }

/-! ### The reply scan -/

/-- A slot of an interval and a count is due (R163). -/
def countDue (interval count : Nat) : Bool := interval != 0 && decide (interval ≤ count)

/-- A reply slot is due (R163). -/
def slotDue (s : State) : ReplySlot → Bool
  | .alert => s.notices.radio != 0 && s.profile.reply.alertEnable
  | .pack => countDue s.profile.reply.packEvery s.radioPort.counts.pack
  | .cells => countDue s.profile.reply.cellsEvery s.radioPort.counts.cells
  | .winch => countDue s.profile.reply.winchEvery s.radioPort.counts.winch
  | .drive => countDue s.profile.reply.driveEvery s.radioPort.counts.drive
  | .flags => countDue s.profile.reply.flagsEvery s.radioPort.counts.flags

/-- The lowest-numbered slot that is due. -/
def dueSlot (s : State) : Option ReplySlot :=
  [ReplySlot.alert, .pack, .cells, .winch, .drive, .flags].find? (slotDue s)

/-- The lead notice leaves the RADIO pending set (R163). -/
def dropLead (s : State) : State :=
  match lead s.notices.radio with
  | some k => s.setNotices { s.notices with radio := dropMember s.notices.radio k }
  | none => s

/-- The reply counts with one slot's count set to 0. -/
def zeroCount (c : ReplyCounts) : ReplySlot → ReplyCounts
  | .alert => c
  | .pack => { c with pack := 0 }
  | .cells => { c with cells := 0 }
  | .winch => { c with winch := 0 }
  | .drive => { c with drive := 0 }
  | .flags => { c with flags := 0 }

/-- What picking a slot takes from the state: slot 0 takes the lead notice, another slot has its count set to 0. -/
def pickSlot (k : ReplySlot) (s : State) : State :=
  if k = .alert then dropLead s
  else s.setRadioPort { s.radioPort with counts := zeroCount s.radioPort.counts k }

/-- The bytes of a slot's reply, composed from the state as it stands (R163). -/
def composeReply (s : State) (k : ReplySlot) : List Byte := radioReply (replyKind k) (replyPayload s k)

/-- The reply scan (R163). -/
def replyScan (s : State) : State :=
  match dueSlot s with
  | none => s
  | some k =>
    let s1 := pickSlot k s
    s1.setRadioPort { s1.radioPort with reply := .delay (composeReply s k) s.profile.reply.delay }

/-! ### Receiving -/

/-- A valid frame, in the order of R162. -/
def validFrame (f : RadioFrame) (s : State) : State :=
  let s1 := countFrame (frameSeq f) s
  let s2 := if frameFailsafe f then s1 else deliverFrame f.items (makeLive .radio s1)
  let s3 := growCounts s2
  if framePermit f then replyScan s3 else s3

/-- A whole frame ends at its last byte. While the part replies the line is its own, and nothing is received (R161). -/
def receiveFrame (f : RadioFrame) (s : State) : State :=
  if !lineFree s then s
  else
    let s1 := setAssembler .hunting s
    if badLength (frameLength f) then dropFormat s1
    else if frameCrcOk f then validFrame f s1
    else dropCheck s1

/-- A gap of more than 1 ms inside a frame; the byte that ended it is taken as a hunting byte (R161). -/
def byteGap (ended : Byte) (s : State) : State :=
  if !lineFree s then s
  else dropFormat (setAssembler (if ended = 0xA6#8 then .collecting else .hunting) s)

/-- The length byte after a sync byte is one that R161 drops. -/
def lengthByte (l : Byte) (s : State) : State :=
  if lineFree s && badLength l.toNat then dropFormat (setAssembler .hunting s) else s

/-- The reply delay ends, and the reply goes out byte after byte (R163). -/
def replyStarts (s : State) : State :=
  match s.radioPort.reply with
  | .delay bytes _ =>
    s.setRadioPort { s.radioPort with reply := .sending bytes (Config.byteTime * bytes.length) }
  | .sending _ _ => s
  | .none => s

/-- The reply's last byte is sent: the line is released and the assembler receives again (R161). -/
def replyEnds (s : State) : State :=
  match s.radioPort.reply with
  | .sending _ _ => s.setRadioPort { s.radioPort with reply := .none, assembler := .hunting }
  | .delay _ _ => s
  | .none => s

end Sys2Proof.Machine
end

