-- ==== Sys2Proof/Machine/SteeringUpdate.lean ====
section
/-! DEFINITION. The steering update (R60): its speed test (R64), targets (R59), outputs, the slew and the end of a mode
change (R65), pulses (R61) and geometry (R67 to R74). -/
namespace Sys2Proof.Machine

/-- Stage 1: in WAITING, a mean speed at or below the gate begins the slew (R64); the mean is floored at a
gate of 0 too (log entry 52). -/
def speedTest (s : State) : State :=
  match s.steering.state, s.steering.next with
  | .waiting, some m => if meanSpeed s ≤ s.steering.gate then enterSlew m s else s
  | _, _ => s

/-- Stages 2 and 3: the targets, and the front output at its target (R59, R60). -/
def targetStage (s : State) : State :=
  let t := s.steering
  let g := s.profile.geometry
  let a := baseAngle g t.heldSteer
  let front := frontTargetOf (rulingMode t) a
  s.setSteering
    { t with frontTarget := front, frontOut := front, rearTarget := rearTargetOf (rulingMode t) a g.rearRatio }

/-- The mode change is complete: the mode settles, MODE_SETTLED is raised and STEERMODE is resolved once (R65). -/
def settleMode (s : State) : State :=
  let t := s.steering
  resolve .steermode false
    (raise .modeSettled (s.setSteering { t with mode := t.next.getD t.mode, next := none, state := .settled }))

/-- Stage 4: the rear output takes its target, or moves toward it by the rear slew and may complete the change (R60,
R65). -/
def rearStage (s : State) : State :=
  let t := s.steering
  let rear := if t.state = .slewing then approach t.rearOut t.rearTarget s.profile.geometry.rearSlew else t.rearTarget
  let s1 := s.setSteering { t with rearOut := rear }
  if t.state = .slewing ∧ rear = t.rearTarget then settleMode s1 else s1

/-- Stages 5 and 6: the pulses and the geometry record, from the output angles (R61, R74). -/
def outputStage (s : State) : State :=
  let t := s.steering
  let g := s.profile.geometry
  s.setSteering
    { t with
      frontPulse := pulseOf g.front t.frontOut
      rearPulse := pulseOf g.rear t.rearOut
      geometry := geometryOf g t.geometry t.frontOut t.rearOut }

/-- An update begins: the servo frame timer reloads with the frame period, and the speed gate comes into force (R60,
R75). -/
def beginFrame (s : State) : State :=
  s.setSteering
    { s.steering with frameTimer := s.profile.geometry.framePeriod, gate := s.profile.geometry.speedGate }

/-- A steering update (R60). -/
def steeringUpdate (s : State) : State := outputStage (rearStage (targetStage (speedTest (beginFrame s))))

end Sys2Proof.Machine
end

