-- ==== Sys2Proof/Machine/Clock.lean ====
section
/-! DEFINITION. The passing of time while no command waits: one millisecond at every running timer, and the expiry that
is due. The table has no row for a tick: DESIGN CHOICE, an idle step takes the first due expiry of a fixed order, and
where none is due one millisecond passes. Sweep completions, store completions, edges and transfers come as commands
only. -/
namespace Sys2Proof.Machine

/-! ### One millisecond -/

/-- One ms at a slot: the age of a slot that is not EMPTY counts, up to 65 535 (R24). -/
def tickSlot (x : Slot) : Slot := if x.state = .empty then x else { x with age := satSucc 65535 x.age }

/-- One ms at every slot of a master. -/
def tickSlots (t : PerFn Slot) : PerFn Slot := PerFn.of fun f => tickSlot (t.get f)

/-- One ms at a grant: its remaining time counts down (R53). -/
def tickGrant (g : Grant) : Grant :=
  { g with held := g.held.map fun h => { h with remaining := h.remaining - 1 } }

/-- One ms at an effective entry: a running blend nears its next step (R49). -/
def tickEff (e : Eff) : Eff := { e with blend := e.blend.map fun b => { b with next := b.next - 1 } }

/-- One ms at a wheel channel's timers (R78, R79, R81, R92, R95). -/
def tickChannel (c : Channel) : Channel :=
  { c with
    timer := c.timer - 1
    retry := c.retry.map fun t => t - 1
    clear := c.clear.map fun t => t + 1
    edgeIdle := if c.timing then c.edgeIdle + 1 else c.edgeIdle }

/-- One ms at the drive: the still timer runs while all speeds are 0, up to its time to parked (R96). -/
def tickDrive (s : State) : DriveUnit :=
  { s.drive with
    channels := s.drive.channels.map tickChannel
    still := if allStill s then min Config.stillTime (s.drive.still + 1) else 0 }

/-- One ms on the radio line. -/
def tickReply (r : ReplyPhase) : ReplyPhase :=
  match r with
  | .none => .none
  | .delay bytes t => .delay bytes (t - 1000)
  | .sending bytes t => .sending bytes (t - 1000)

/-- One ms at a sequencer position. -/
def tickPosition (p : Position) : Position := { p with timer := p.timer - 1 }

/-- One millisecond passes at every running timer. -/
def tick (s : State) : State :=
  { s with
    radio := { s.radio with timer := s.radio.timer - 1 }
    comp := { s.comp with timer := s.comp.timer - 1 }
    slots := ⟨tickSlots s.slots.radio, tickSlots s.slots.comp⟩
    resolver :=
      { s.resolver with
        grants := PerFn.of fun f => tickGrant (grantOf s f)
        eff := PerFn.of fun f => tickEff (effOf s f) }
    steering := { s.steering with frameTimer := s.steering.frameTimer - 1 }
    drive := tickDrive s
    winch := { s.winch with timer := s.winch.timer - 1, clear := s.winch.clear.map fun t => t + 1 }
    sense := { s.sense with currentTimer := s.sense.currentTimer - 1, slotTimer := s.sense.slotTimer - 1 }
    protection :=
      { s.protection with
        dwell := s.protection.dwell.map fun t => t + 1
        recovery := s.protection.recovery.map fun t => t + 1 }
    budget := { s.budget with timer := s.budget.timer - 1 }
    lamps :=
      { s.lamps with
        blinkTimer := s.lamps.blinkTimer - 1
        position := s.lamps.position.map tickPosition }
    radioPort := { s.radioPort with reply := tickReply s.radioPort.reply }
    nowMs := s.nowMs + 1 }

/-! ### Due expiries -/

/-- A command where its condition holds. -/
def dueIf (b : Bool) (c : Instr) : Option Instr := if b then some c else none

/-- A timer that counts up has reached its time. -/
def reached (t : Option Nat) (time : Nat) : Bool :=
  match t with
  | some n => decide (time ≤ n)
  | none => false

/-- A timer that counts down has run out. -/
def ranOut (t : Option Nat) : Bool :=
  match t with
  | some n => n == 0
  | none => false

/-- The silence timers that have expired (R9). -/
def dueSilence (s : State) : List (Option Instr) :=
  [dueIf (s.radio.state == .live && s.radio.timer == 0) (.silenceTimerExpiry .radio),
    dueIf (s.comp.state == .live && s.comp.timer == 0) (.silenceTimerExpiry .companion)]

/-- A slot whose age has passed its hold time (R24). -/
def dueStale (s : State) (m : Master) (f : Fn) : Option Instr :=
  dueIf (canStale f (slotOf s m f) && decide ((authOf s f).hold < (slotOf s m f).age)) (.slotStale m f)

/-- The function's grant or blend step that has run out (R49, R53). -/
def dueFn (s : State) (f : Fn) : List (Option Instr) :=
  [dueStale s .radio f, dueStale s .companion f,
    dueIf (ranOut ((grantOf s f).held.map fun h => h.remaining)) (.grantExpiry f),
    dueIf (ranOut ((effOf s f).blend.map fun b => b.next)) (.blendStep f)]

/-- The wheel's expiries that are due (R79, R81, R93, R95). -/
def dueWheel (s : State) (w : Wheel) : List (Option Instr) :=
  let c := chan s w
  [dueIf (c.timing && decide (Config.speedTimeout ≤ c.edgeIdle)) (.speedTimeout w),
    dueIf (c.state == .tripped && ranOut c.retry) (.tripRetryExpiry w),
    dueIf (c.state == .lockedOut && reached c.clear s.profile.drive.clearTime) (.lockoutClearExpiry w),
    dueIf (c.timer == 0) (.wheelUpdate w)]

/-- The winch's expiries that are due (R107, R111, R112). -/
def dueWinch (s : State) : List (Option Instr) :=
  [dueIf (winchDriven s.winch && reached s.winch.stall s.profile.winch.stallTime) .stallTimerExpiry,
    dueIf (s.winch.state == .stalled && reached s.winch.clear s.profile.winch.stallClear) .stallClearExpiry,
    dueIf (s.winch.timer == 0) .winchUpdate]

/-- The expiries of sensing, protection, budget and lamps that are due (R118, R120, R134, R138, R142, R150, R153). -/
def duePack (s : State) : List (Option Instr) :=
  [dueIf (s.sense.currentTimer == 0) .currentSweepStart,
    dueIf (s.sense.slotTimer == 0) .cellSweepSlotStart,
    dueIf (judging s.protection.state && reached s.protection.dwell s.profile.pack.cutoffDwell) .cutoffDwellExpiry,
    dueIf (s.protection.state == .cutoff && reached s.protection.recovery s.profile.pack.recoveryDwell)
      .recoveryDwellExpiry,
    dueIf (s.budget.timer == 0) .apportionment,
    dueIf (s.lamps.blinkTimer == 0) .blinkToggle,
    dueIf (ranOut (s.lamps.position.map fun p => p.timer)) .stepTimerExpiry]

/-- The radio line's expiries that are due (R161, R163). -/
def dueReply (s : State) : Option Instr :=
  match s.radioPort.reply with
  | .none => none
  | .delay _ t => dueIf (t == 0) .replyDelayExpiry
  | .sending _ t => dueIf (t == 0) .replyEnd

/-- The first due expiry of the fixed order. -/
def dueCommand (s : State) : Option Instr :=
  (dueSilence s ++ Fn.all.flatMap (dueFn s) ++ [dueIf (s.steering.frameTimer == 0) .steeringUpdate]
    ++ Wheel.all.flatMap (dueWheel s) ++ dueWinch s ++ duePack s ++ [dueReply s]).findSome? id

end Sys2Proof.Machine
end

