-- ==== Sys2Proof/Machine/Authority.lean ====
section
/-! DEFINITION. The timed events of the contexts, the demand table and the resolver. -/
namespace Sys2Proof.Machine

/-- SILENCE_TIMER_EXPIRY (R9). -/
def execSilenceTimerExpiry (master : Master) (s : State) : Host.Outcome State Fault Refusal := .next (lapse master s)

/-- SLOT_STALE (R24). -/
def execSlotStale (master : Master) (fn : Fn) (s : State) : Host.Outcome State Fault Refusal := .next (slotStale master fn s)

/-- GRANT_EXPIRY (R53). -/
def execGrantExpiry (fn : Fn) (s : State) : Host.Outcome State Fault Refusal := .next (endGrant .expiry fn s)

/-- BLEND_STEP (R49). -/
def execBlendStep (fn : Fn) (s : State) : Host.Outcome State Fault Refusal := .next (blendStep fn s)

end Sys2Proof.Machine
end

