-- ==== Sys2Proof/Machine/CompanionLink.lean ====
section
/-! DEFINITION. The commands of the companion transfer: the fall of SEL and its rise. -/
namespace Sys2Proof.Machine

/-- COMPANION_TRANSFER (R164): SEL rises. -/
def execCompanionTransfer (mosi : List Byte) (pins : Pins) (s : State) : Host.Outcome State Fault Refusal := .next (selRises mosi pins s)

/-- SEL_FALL (R164). -/
def execSelFall (s : State) : Host.Outcome State Fault Refusal := .next (selFalls s)

end Sys2Proof.Machine
end

