-- ==== Sys2Proof/Machine/Lamps.lean ====
section
/-! DEFINITION. The commands of the Lamp Unit. -/
namespace Sys2Proof.Machine

/-- BLINK_TOGGLE (R153). -/
def execBlinkToggle (s : State) : Host.Outcome State Fault Refusal := .next (blinkExpires s)

/-- STEP_TIMER_EXPIRY (R150). -/
def execStepTimerExpiry (s : State) : Host.Outcome State Fault Refusal := .next (stepExpires s)

end Sys2Proof.Machine
end

