-- ==== Sys2Proof/Machine/Budget.lean ====
section
/-! DEFINITION. The Budget Unit: the rise of the allowance (R141), the two passes of an apportionment (R143) and its
publication (R144). -/
namespace Sys2Proof.Machine

/-- What a consumer brings to an apportionment: its claim and its floor. -/
structure Consumer where
  claim : Nat
  floor : Nat
deriving DecidableEq, Repr

/-- What the two passes give three consumers in their order, and what remains. -/
structure Shares where
  first : Nat
  second : Nat
  third : Nat
  rest : Nat
deriving DecidableEq, Repr

/-- Passes 1 and 2 over three consumers in precedence order, from a remainder (R143). -/
def twoPasses (a b c : Consumer) (r : Nat) : Shares :=
  let ga := min a.claim (min a.floor r)
  let gb := min b.claim (min b.floor (r - ga))
  let gc := min c.claim (min c.floor (r - ga - gb))
  let left := r - ga - gb - gc
  let ea := min (a.claim - ga) left
  let eb := min (b.claim - gb) (left - ea)
  let ec := min (c.claim - gc) (left - ea - eb)
  ⟨ga + ea, gb + eb, gc + ec, left - ea - eb - ec⟩

/-- The allowance in force after the rise step of an apportionment (R141). -/
def risen (target allowance : Nat) : Nat :=
  if allowance < target then min target (allowance + Config.allowanceRise) else allowance

/-- The Budget Unit's record after an apportionment that read these claims and this allowance (R143). -/
def apportioned (p : Pack) (b : Budget) (a cd cw cl : Nat) (winchFirst : Bool) : Budget :=
  let gs := min p.servoReserve a
  let d : Consumer := ⟨cd, p.driveFloor⟩
  let w : Consumer := ⟨cw, p.winchFloor⟩
  let l : Consumer := ⟨cl, p.lampFloor⟩
  let x := if winchFirst then twoPasses w d l (a - gs) else twoPasses d w l (a - gs)
  { b with
    cd := cd
    cw := cw
    cl := cl
    used := a
    winchFirst := winchFirst
    gs := gs
    gd := if winchFirst then x.second else x.first
    gw := if winchFirst then x.first else x.second
    gl := x.third
    headroom := x.rest
    count := b.count + 1
    timer := Config.apportionPeriod }

/-- The four grants are published together, and the lamps follow theirs (R144). -/
def publish (s : State) : State :=
  let s1 := publishDrive s.budget.gd s
  let s2 := s1.setWinch { s1.winch with limit := s.budget.gw }
  lampResolve (s2.setLamps { s2.lamps with grant := s.budget.gl })

/-- One apportionment (R142 to R144). -/
def apportion (s : State) : State :=
  let s1 := s.setProtection { s.protection with allowance := risen s.protection.target s.protection.allowance }
  let s2 := copyClaims s1
  publish
    (s2.setBudget
      (apportioned s.profile.pack s.budget s1.protection.allowance (driveClaim s) s.winch.claim s.lamps.claim
        s.winch.sync.active))

end Sys2Proof.Machine
end

