-- ==== Sys2Proof/Machine/PackBudget.lean ====
section
/-! DEFINITION. The commands of Pack Protection and the Budget Unit. -/
namespace Sys2Proof.Machine

/-- CUTOFF_DWELL_EXPIRY (R134). -/
def execCutoffDwellExpiry (s : State) : Host.Outcome State Fault Refusal := .next (dwellExpires s)

/-- RECOVERY_DWELL_EXPIRY (R138). -/
def execRecoveryDwellExpiry (s : State) : Host.Outcome State Fault Refusal := .next (recoveryExpires s)

/-- APPORTIONMENT (R143). -/
def execApportionment (s : State) : Host.Outcome State Fault Refusal := .next (apportion s)

end Sys2Proof.Machine
end

