-- ==== Sys2Proof/Machine/RadioLink.lean ====
section
/-! DEFINITION. The commands of the radio link: a whole frame, the two framing errors, and the reply window. -/
namespace Sys2Proof.Machine

/-- RADIO_FRAME (R162). -/
def execRadioFrame (frame : RadioFrame) (s : State) : Host.Outcome State Fault Refusal := .next (receiveFrame frame s)

/-- INTER_BYTE_GAP (R161). -/
def execInterByteGap (ended : Byte) (s : State) : Host.Outcome State Fault Refusal := .next (byteGap ended s)

/-- REPLY_DELAY_EXPIRY (R163). -/
def execReplyDelayExpiry (s : State) : Host.Outcome State Fault Refusal := .next (replyStarts s)

/-- REPLY_END (R161). -/
def execReplyEnd (s : State) : Host.Outcome State Fault Refusal := .next (replyEnds s)

/-- BAD_LENGTH_BYTE (R161). -/
def execBadLengthByte (length : Byte) (s : State) : Host.Outcome State Fault Refusal := .next (lengthByte length s)

end Sys2Proof.Machine
end

