-- ==== Sys2Proof/Machine/Requests.lean ====
section
/-! DEFINITION. The companion requests as commands: each is taken as R165 gives for a request whose CRC is correct. -/
namespace Sys2Proof.Machine

/-- DEMAND (R28). -/
def execDemand (pairs : List DemandPair) (s : State) : Host.Outcome State Fault Refusal := .next (takeNamed (.demand pairs) s)

/-- GRANT (R52). -/
def execGrant (fn : Byte) (duration : BitVec 16) (s : State) : Host.Outcome State Fault Refusal := .next (takeNamed (.grant fn duration) s)

/-- RELEASE (R54). -/
def execRelease (fn : Byte) (s : State) : Host.Outcome State Fault Refusal := .next (takeNamed (.release fn) s)

/-- STATUS_READ (R47). -/
def execStatusRead (page : Byte) (s : State) : Host.Outcome State Fault Refusal := .next (takeNamed (.statusRead page) s)

/-- TELEMETRY_READ (R165). -/
def execTelemetryRead (page : Byte) (s : State) : Host.Outcome State Fault Refusal := .next (takeNamed (.telemetryRead page) s)

/-- NOTICE_TAKE (R171). -/
def execNoticeTake (s : State) : Host.Outcome State Fault Refusal := .next (takeNamed .noticeTake s)

/-- CAUSE_TAKE (R16). -/
def execCauseTake (s : State) : Host.Outcome State Fault Refusal := .next (takeNamed .causeTake s)

/-- FLAGS_SET (R17). -/
def execFlagsSet (flags : Byte) (s : State) : Host.Outcome State Fault Refusal := .next (takeNamed (.flagsSet flags) s)

/-- PROFILE_WRITE (R172). -/
def execProfileWrite (sect : Byte) (body : List Byte) (s : State) : Host.Outcome State Fault Refusal := .next (takeNamed (.profileWrite sect body) s)

/-- PROFILE_READ (R174). -/
def execProfileRead (sect : Byte) (scene : Option Byte) (s : State) : Host.Outcome State Fault Refusal := .next (takeNamed (.profileRead sect scene) s)

/-- PATTERN_WRITE (R152). -/
def execPatternWrite (bank : Byte) (first : Byte) (steps : List StepBytes) (s : State) : Host.Outcome State Fault Refusal := .next (takeNamed (.patternWrite bank first steps) s)

/-- BANK_SWITCH (R151). -/
def execBankSwitch (s : State) : Host.Outcome State Fault Refusal := .next (takeNamed .bankSwitch s)

/-- WINCH_ZERO (R103). -/
def execWinchZero (s : State) : Host.Outcome State Fault Refusal := .next (takeNamed .winchZero s)

/-- CHECK_LEADS (R125). -/
def execCheckLeads (s : State) : Host.Outcome State Fault Refusal := .next (takeNamed .checkLeads s)

/-- RESTART (R177). -/
def execRestart (s : State) : Host.Outcome State Fault Refusal := .next (takeNamed .restart s)

end Sys2Proof.Machine
end

