-- ==== Sys2Proof/Machine/Resets.lean ====
section
/-! DEFINITION. The commands of the Profile Store and of the supply: the end of a store, and the two resets that come from outside. -/
namespace Sys2Proof.Machine

/-- STORE_COMPLETE (R173). -/
def execStoreComplete (matched : Bool) (s : State) : Host.Outcome State Fault Refusal := .next (storeCompletes matched s)

/-- POWER_ON (R175). -/
def execPowerOn (pins : Pins) (s : State) : Host.Outcome State Fault Refusal := .next (powerOn pins s)

/-- SUPPLY_DIP (R175). -/
def execSupplyDip (pins : Pins) (s : State) : Host.Outcome State Fault Refusal := .next (supplyDip pins s)

end Sys2Proof.Machine
end

