-- ==== Sys2Proof/Machine/Sensors.lean ====
section
/-! DEFINITION. The commands of the Sense Unit. -/
namespace Sys2Proof.Machine

/-- CURRENT_SWEEP_START (R118). -/
def execCurrentSweepStart (s : State) : Host.Outcome State Fault Refusal := .next (sweepStarts s)

/-- CURRENT_SWEEP_COMPLETE (R118). -/
def execCurrentSweepComplete (codes : CurrentCodes) (s : State) : Host.Outcome State Fault Refusal := .next (currentsComplete codes s)

/-- CELL_SWEEP_SLOT_START (R120). -/
def execCellSweepSlotStart (s : State) : Host.Outcome State Fault Refusal := .next (slotStarts s)

/-- CELL_SWEEP_COMPLETE (R121). -/
def execCellSweepComplete (codes : Vector Code 6) (s : State) : Host.Outcome State Fault Refusal := .next (cellsComplete codes s)

/-- LEAD_CHECK_COMPLETE (R124). -/
def execLeadCheckComplete (codes : Vector LeadCodes 6) (s : State) : Host.Outcome State Fault Refusal := .next (leadsComplete codes s)

end Sys2Proof.Machine
end

