-- ==== Sys2Proof/Machine/Steering.lean ====
section
/-! DEFINITION. The command of the Steering Unit. -/
namespace Sys2Proof.Machine

/-- STEERING_UPDATE (R60). -/
def execSteeringUpdate (s : State) : Host.Outcome State Fault Refusal := .next (steeringUpdate s)

end Sys2Proof.Machine
end

