-- ==== Sys2Proof/Machine/WheelDrive.lean ====
section
/-! DEFINITION. The commands of the Wheel Drive Unit. -/
namespace Sys2Proof.Machine

/-- HALL_EDGE (R78). -/
def execHallEdge (wheel : Wheel) (micros : Nat) (s : State) : Host.Outcome State Fault Refusal := .next (hallEdge wheel micros s)

/-- SPEED_TIMEOUT (R79). -/
def execSpeedTimeout (wheel : Wheel) (s : State) : Host.Outcome State Fault Refusal := .next (speedExpires wheel s)

/-- WHEEL_UPDATE (R81). -/
def execWheelUpdate (wheel : Wheel) (s : State) : Host.Outcome State Fault Refusal := .next (wheelUpdate wheel s)

/-- TRIP_RETRY_EXPIRY (R93). -/
def execTripRetryExpiry (wheel : Wheel) (s : State) : Host.Outcome State Fault Refusal := .next (retryExpires wheel s)

/-- LOCKOUT_CLEAR_EXPIRY (R95). -/
def execLockoutClearExpiry (wheel : Wheel) (s : State) : Host.Outcome State Fault Refusal := .next (lockoutClears wheel s)

/-- STILL_TIMER_EXPIRY (R96). -/
def execStillTimerExpiry (s : State) : Host.Outcome State Fault Refusal := .next (stillExpires s)

end Sys2Proof.Machine
end

