-- ==== Sys2Proof/Machine/Winch.lean ====
section
/-! DEFINITION. The commands of the Winch Unit. -/
namespace Sys2Proof.Machine

/-- ENCODER_EDGE (R100). -/
def execEncoderEdge (a : Bool) (b : Bool) (s : State) : Host.Outcome State Fault Refusal := .next (encoderEdge a b s)

/-- HOOK_CLOSING (R102). -/
def execHookClosing (s : State) : Host.Outcome State Fault Refusal := .next (hookCloses s)

/-- HOOK_OPENING (R102). -/
def execHookOpening (s : State) : Host.Outcome State Fault Refusal := .next (hookOpens s)

/-- WINCH_UPDATE (R107). -/
def execWinchUpdate (s : State) : Host.Outcome State Fault Refusal := .next (winchUpdate s)

/-- STALL_TIMER_EXPIRY (R111). -/
def execStallTimerExpiry (s : State) : Host.Outcome State Fault Refusal := .next (stallExpires s)

/-- STALL_CLEAR_EXPIRY (R112). -/
def execStallClearExpiry (s : State) : Host.Outcome State Fault Refusal := .next (stallClears s)

end Sys2Proof.Machine
end

