-- ==== Sys2Proof/Machine/Dispatch.lean ====
section
/-! DEFINITION. One arm per command of spec/opcode_table.json: its meaning. -/
namespace Sys2Proof.Machine

/-- The effect of a command on everything but the queue. -/
def exec (i : Instr) (s : State) : Host.Outcome State Fault Refusal :=
  match i with
  | .radioFrame frame => Sys2Proof.Machine.execRadioFrame frame s
  | .interByteGap ended => Sys2Proof.Machine.execInterByteGap ended s
  | .replyDelayExpiry => Sys2Proof.Machine.execReplyDelayExpiry s
  | .replyEnd => Sys2Proof.Machine.execReplyEnd s
  | .silenceTimerExpiry master => Sys2Proof.Machine.execSilenceTimerExpiry master s
  | .companionTransfer mosi pins => Sys2Proof.Machine.execCompanionTransfer mosi pins s
  | .demand pairs => Sys2Proof.Machine.execDemand pairs s
  | .grant fn duration => Sys2Proof.Machine.execGrant fn duration s
  | .release fn => Sys2Proof.Machine.execRelease fn s
  | .statusRead page => Sys2Proof.Machine.execStatusRead page s
  | .telemetryRead page => Sys2Proof.Machine.execTelemetryRead page s
  | .noticeTake => Sys2Proof.Machine.execNoticeTake s
  | .causeTake => Sys2Proof.Machine.execCauseTake s
  | .flagsSet flags => Sys2Proof.Machine.execFlagsSet flags s
  | .profileWrite sect body => Sys2Proof.Machine.execProfileWrite sect body s
  | .profileRead sect scene => Sys2Proof.Machine.execProfileRead sect scene s
  | .patternWrite bank first steps => Sys2Proof.Machine.execPatternWrite bank first steps s
  | .bankSwitch => Sys2Proof.Machine.execBankSwitch s
  | .winchZero => Sys2Proof.Machine.execWinchZero s
  | .checkLeads => Sys2Proof.Machine.execCheckLeads s
  | .restart => Sys2Proof.Machine.execRestart s
  | .storeComplete matched => Sys2Proof.Machine.execStoreComplete matched s
  | .powerOn pins => Sys2Proof.Machine.execPowerOn pins s
  | .supplyDip pins => Sys2Proof.Machine.execSupplyDip pins s
  | .slotStale master fn => Sys2Proof.Machine.execSlotStale master fn s
  | .grantExpiry fn => Sys2Proof.Machine.execGrantExpiry fn s
  | .blendStep fn => Sys2Proof.Machine.execBlendStep fn s
  | .steeringUpdate => Sys2Proof.Machine.execSteeringUpdate s
  | .hallEdge wheel micros => Sys2Proof.Machine.execHallEdge wheel micros s
  | .speedTimeout wheel => Sys2Proof.Machine.execSpeedTimeout wheel s
  | .wheelUpdate wheel => Sys2Proof.Machine.execWheelUpdate wheel s
  | .currentSweepStart => Sys2Proof.Machine.execCurrentSweepStart s
  | .currentSweepComplete codes => Sys2Proof.Machine.execCurrentSweepComplete codes s
  | .tripRetryExpiry wheel => Sys2Proof.Machine.execTripRetryExpiry wheel s
  | .lockoutClearExpiry wheel => Sys2Proof.Machine.execLockoutClearExpiry wheel s
  | .stillTimerExpiry => Sys2Proof.Machine.execStillTimerExpiry s
  | .encoderEdge a b => Sys2Proof.Machine.execEncoderEdge a b s
  | .hookClosing => Sys2Proof.Machine.execHookClosing s
  | .winchUpdate => Sys2Proof.Machine.execWinchUpdate s
  | .stallTimerExpiry => Sys2Proof.Machine.execStallTimerExpiry s
  | .stallClearExpiry => Sys2Proof.Machine.execStallClearExpiry s
  | .cellSweepSlotStart => Sys2Proof.Machine.execCellSweepSlotStart s
  | .cellSweepComplete codes => Sys2Proof.Machine.execCellSweepComplete codes s
  | .leadCheckComplete codes => Sys2Proof.Machine.execLeadCheckComplete codes s
  | .cutoffDwellExpiry => Sys2Proof.Machine.execCutoffDwellExpiry s
  | .recoveryDwellExpiry => Sys2Proof.Machine.execRecoveryDwellExpiry s
  | .apportionment => Sys2Proof.Machine.execApportionment s
  | .blinkToggle => Sys2Proof.Machine.execBlinkToggle s
  | .stepTimerExpiry => Sys2Proof.Machine.execStepTimerExpiry s
  | .badLengthByte length => Sys2Proof.Machine.execBadLengthByte length s
  | .selFall => Sys2Proof.Machine.execSelFall s
  | .hookOpening => Sys2Proof.Machine.execHookOpening s

end Sys2Proof.Machine
end

