-- ==== Sys2Proof/Pages.lean ====
section
/-! DEFINITION. What the status pages, the telemetry pages and the radio replies carry, field by field at its byte, in the
order and the widths of section 10.6. Claims read the bytes with these words; the machine writes them in
Machine/Records.lean. -/
namespace Sys2Proof.Machine

/-! ### Fields -/

/-- The little-endian number of a list of bytes. -/
def numberOf : List Byte → Nat
  | [] => 0
  | b :: bs => b.toNat + 256 * numberOf bs

/-- The number in the field of `w` bytes at byte `i`. -/
def fieldAt (bs : List Byte) (i w : Nat) : Nat := numberOf ((bs.drop i).take w)

/-- An unsigned number that fits its field stands in it. -/
def CarriesU (bs : List Byte) (i w n : Nat) : Prop := n < 256 ^ w → fieldAt bs i w = n

/-- A signed number that fits its field stands in it, in two's complement. -/
def CarriesI (bs : List Byte) (i w : Nat) (z : Int) : Prop :=
  -(256 ^ w : Int) ≤ 2 * z → 2 * z < 256 ^ w → (fieldAt bs i w : Int) = if 0 ≤ z then z else z + 256 ^ w

/-- An unsigned number, all ones where it is absent. -/
def CarriesOptU (bs : List Byte) (i w : Nat) : Option Nat → Prop
  | some n => CarriesU bs i w n
  | none => fieldAt bs i w = 256 ^ w - 1

/-- A signed number, the most negative value where it is absent. -/
def CarriesOptI (bs : List Byte) (i w : Nat) : Option Int → Prop
  | some z => CarriesI bs i w z
  | none => fieldAt bs i w = 256 ^ w / 2

/-- A flag: one byte, 0 or 1. -/
def CarriesFlag (bs : List Byte) (i : Nat) (b : Bool) : Prop := fieldAt bs i 1 = if b then 1 else 0

/-- A number of an unsigned range that the model holds as an integer. -/
def CarriesZ (bs : List Byte) (i w : Nat) (z : Int) : Prop := 0 ≤ z → CarriesU bs i w z.toNat

/-- The width of a function's value: two bytes for a numeric function, one for a discrete one. -/
def valueWidth (f : Fn) : Nat := if isNumeric f then 2 else 1

/-- A function's value, signed for DRIVE, STEER and WINCH, absent or present. -/
def CarriesValue (bs : List Byte) (i : Nat) (f : Fn) (v : Option Int) : Prop :=
  if trimmable f then CarriesOptI bs i 2 v
  else match v with
    | some z => CarriesZ bs i (valueWidth f) z
    | none => fieldAt bs i (valueWidth f) = 256 ^ valueWidth f - 1

/-! ### Status record -/

/-- Where a function's fields of the effective record start on status page 0. -/
def effStart : Fn → Nat
  | .drive => 31
  | .steer => 38
  | .steermode => 45
  | .winch => 50
  | .drag => 57
  | .range => 64
  | .scene => 69

/-- The effective record of a function on status page 0. -/
def CarriesEff (s : State) (bs : List Byte) (f : Fn) : Prop :=
  let e := effOf s f
  let i := effStart f
  let w := valueWidth f
  CarriesValue bs i f (some e.value) ∧ fieldAt bs (i + w) 1 = levelCode e.level
    ∧ fieldAt bs (i + w + 1) 1 = srcCode e.source
    ∧ (if isNumeric f then CarriesFlag bs (i + w + 2) e.blend.isSome else fieldAt bs (i + w + 2) 1 = 255)
    ∧ CarriesValue bs (i + w + 3) f (some e.target)

/-- The grant record of a function on status page 0. -/
def CarriesGrant (s : State) (bs : List Byte) (f : Fn) : Prop :=
  let g := grantOf s f
  let i := 74 + 4 * fnNumber f
  CarriesFlag bs i g.held.isSome ∧ CarriesOptU bs (i + 1) 2 (g.held.map fun h => h.remaining)
    ∧ CarriesOptU bs (i + 3) 1 (g.lastEnd.map reasonCode)

/-- Status page 0. -/
def CarriesStatus0 (s : State) (bs : List Byte) : Prop :=
  bs.length = 102
    ∧ fieldAt bs 0 1 = ctxCode s.radio.state ∧ fieldAt bs 1 1 = ctxCode s.comp.state ∧ CarriesFlag bs 2 s.comp.barred
    ∧ fieldAt bs 3 4 = s.radio.accepted.toNat ∧ fieldAt bs 7 4 = s.radio.refused.toNat
    ∧ fieldAt bs 11 4 = s.comp.accepted.toNat ∧ fieldAt bs 15 4 = s.comp.refused.toNat
    ∧ CarriesU bs 19 2 s.radio.checkErrors ∧ CarriesU bs 21 2 s.radio.formatErrors
    ∧ CarriesU bs 23 2 s.radio.unmatched ∧ CarriesU bs 25 2 s.radio.missed
    ∧ fieldAt bs 27 1 = s.radio.flags.toNat ∧ fieldAt bs 28 1 = resetCode s.retained.lastReset
    ∧ CarriesU bs 29 2 s.retained.dips
    ∧ (∀ f, CarriesEff s bs f) ∧ (∀ f, CarriesGrant s bs f)

/-- Status page 1. -/
def CarriesStatus1 (s : State) (bs : List Byte) : Prop :=
  bs.length = 34
    ∧ fieldAt bs 0 1 = steerCode s.steering.state ∧ fieldAt bs 1 1 = modeCode s.steering.mode
    ∧ CarriesOptU bs 2 1 (s.steering.next.map modeCode)
    ∧ fieldAt bs 3 1 = chanCode (chan s .fl).state ∧ fieldAt bs 4 1 = chanCode (chan s .fr).state
    ∧ fieldAt bs 5 1 = chanCode (chan s .rl).state ∧ fieldAt bs 6 1 = chanCode (chan s .rr).state
    ∧ CarriesFlag bs 7 (parked s) ∧ fieldAt bs 8 1 = winchCode s.winch.state
    ∧ CarriesFlag bs 9 (!s.winch.known) ∧ fieldAt bs 10 1 = protCode s.protection.state
    ∧ CarriesOptI bs 11 4 (s.protection.vmin.map fun v => v.volts)
    ∧ CarriesOptU bs 15 1 (s.protection.vmin.map fun v => v.cell)
    ∧ CarriesFlag bs 16 s.protection.blind ∧ CarriesFlag bs 17 s.retained.latch.isSome
    ∧ CarriesOptU bs 18 1 (s.retained.latch.map latchCode)
    ∧ CarriesU bs 19 2 s.protection.target ∧ CarriesU bs 21 2 s.protection.allowance
    ∧ CarriesU bs 23 2 s.budget.gs ∧ CarriesU bs 25 2 s.budget.gd ∧ CarriesU bs 27 2 s.budget.gw
    ∧ CarriesU bs 29 2 s.budget.gl ∧ CarriesFlag bs 31 s.budget.winchFirst
    ∧ CarriesFlag bs 32 s.lamps.active ∧ CarriesFlag bs 33 s.lamps.switchPending

/-- The status page of a number. -/
def CarriesStatus (s : State) (page : Nat) (bs : List Byte) : Prop :=
  match page with
  | 0 => CarriesStatus0 s bs
  | 1 => CarriesStatus1 s bs
  | _ => False

/-! ### Telemetry -/

/-- Where a function's slot starts on telemetry pages 0 and 1. -/
def slotStart : Fn → Nat
  | .drive => 0
  | .steer => 8
  | .steermode => 16
  | .winch => 23
  | .drag => 31
  | .range => 39
  | .scene => 46

/-- A master's slots on telemetry page 0 or 1. -/
def CarriesSlots (s : State) (m : Master) (bs : List Byte) : Prop :=
  bs.length = 53 ∧ ∀ f,
    let x := slotOf s m f
    let i := slotStart f
    let w := valueWidth f
    CarriesValue bs i f x.value ∧ fieldAt bs (i + w) 1 = slotCode x.state ∧ CarriesU bs (i + w + 1) 2 x.age
      ∧ fieldAt bs (i + w + 3) 1 = x.seq.toNat ∧ CarriesU bs (i + w + 4) 1 x.superseded
      ∧ (if hasMark f then CarriesFlag bs (i + w + 5) x.confirmed else fieldAt bs (i + w + 5) 1 = 255)

/-- The steering and geometry records on telemetry page 2. -/
def CarriesSteering (s : State) (bs : List Byte) : Prop :=
  let t := s.steering
  let g := t.geometry
  bs.length = 32
    ∧ CarriesI bs 0 2 t.frontTarget ∧ CarriesI bs 2 2 t.rearTarget ∧ CarriesI bs 4 2 t.frontOut
    ∧ CarriesI bs 6 2 t.rearOut ∧ CarriesZ bs 8 2 t.frontPulse ∧ CarriesZ bs 10 2 t.rearPulse
    ∧ CarriesI bs 12 2 g.ratios.fl ∧ CarriesI bs 14 2 g.ratios.fr ∧ CarriesI bs 16 2 g.ratios.rl
    ∧ CarriesI bs 18 2 g.ratios.rr ∧ CarriesFlag bs 20 g.parallel ∧ CarriesFlag bs 21 g.pivot
    ∧ CarriesI bs 22 4 g.x0 ∧ CarriesOptI bs 26 4 g.y0 ∧ fieldAt bs 30 2 = g.seq.toNat

/-- A wheel's number in wheel order. -/
def wheelNumber : Wheel → Nat
  | .fl => 0
  | .fr => 1
  | .rl => 2
  | .rr => 3

/-- The wheel channels on telemetry page 3. -/
def CarriesWheels (s : State) (bs : List Byte) : Prop :=
  bs.length = 104 ∧ ∀ w,
    let c := chan s w
    let i := 26 * wheelNumber w
    fieldAt bs i 1 = chanCode c.state ∧ CarriesI bs (i + 1) 2 c.command ∧ CarriesI bs (i + 3) 2 c.target
      ∧ CarriesI bs (i + 5) 2 c.duty
      ∧ (if c.state = .drag then CarriesZ bs (i + 7) 2 c.dragLevel else fieldAt bs (i + 7) 2 = 65535)
      ∧ CarriesU bs (i + 9) 2 c.slip ∧ CarriesU bs (i + 11) 2 c.limiter ∧ CarriesI bs (i + 13) 2 c.speed
      ∧ CarriesFlag bs (i + 15) c.lastReverse ∧ CarriesU bs (i + 16) 2 c.current ∧ CarriesU bs (i + 18) 2 c.claim
      ∧ CarriesU bs (i + 20) 2 c.apportioned ∧ CarriesU bs (i + 22) 2 c.limit
      ∧ (if c.state = .run ∨ c.state = .drag then CarriesU bs (i + 24) 1 c.overs else fieldAt bs (i + 24) 1 = 255)
      ∧ CarriesU bs (i + 25) 1 c.trips.length

/-- The sync record, from byte `i`. -/
def CarriesSync (y : Sync) (bs : List Byte) (i : Nat) : Prop :=
  CarriesFlag bs i y.active ∧ CarriesU bs (i + 1) 2 y.cap ∧ CarriesU bs (i + 3) 4 y.vl ∧ CarriesU bs (i + 7) 2 y.vw

/-- The winch and sync records on telemetry page 4. -/
def CarriesWinch (s : State) (bs : List Byte) : Prop :=
  let w := s.winch
  bs.length = 46
    ∧ fieldAt bs 0 1 = winchCode w.state ∧ CarriesFlag bs 1 (!w.known) ∧ CarriesI bs 2 4 (payout w)
    ∧ CarriesI bs 6 4 ((payout w * 100).tdiv s.profile.winch.edgesPer100)
    ∧ CarriesU bs 10 4 (limitCount s.profile.winch) ∧ CarriesI bs 14 4 w.lineSpeed ∧ CarriesU bs 18 2 w.encErrors
    ∧ CarriesI bs 20 2 w.held ∧ CarriesU bs 22 2 w.demand ∧ CarriesI bs 24 2 w.target ∧ CarriesI bs 26 2 w.duty
    ∧ CarriesU bs 28 2 w.limiter ∧ CarriesU bs 30 2 w.current ∧ CarriesU bs 32 2 w.claim ∧ CarriesU bs 34 2 w.limit
    ∧ CarriesFlag bs 36 w.hookClosed ∧ CarriesSync w.sync bs 37

/-- The sense record on telemetry page 5. A tap that the lead check in flight takes is left out: its pair is free until the
check completes (log entry 42). -/
def CarriesSense (s : State) (bs : List Byte) : Prop :=
  let n := s.sense
  bs.length = 95
    ∧ CarriesOptI bs 0 4 (n.currents.map fun c => c.pack) ∧ CarriesOptI bs 4 4 (n.currents.map fun c => c.wheels.fl)
    ∧ CarriesOptI bs 8 4 (n.currents.map fun c => c.wheels.fr)
    ∧ CarriesOptI bs 12 4 (n.currents.map fun c => c.wheels.rl)
    ∧ CarriesOptI bs 16 4 (n.currents.map fun c => c.wheels.rr)
    ∧ CarriesOptI bs 20 4 (n.currents.map fun c => c.winch)
    ∧ (∀ i : Fin 6, CarriesOptU bs (24 + 2 * i.val) 2 (n.taps.get i))
    ∧ (∀ i : Fin 6, CarriesOptI bs (36 + 4 * i.val) 4 (n.cells.get i))
    ∧ CarriesOptU bs 60 2 n.packVolts ∧ CarriesOptU bs 62 1 n.count
    ∧ CarriesFlag bs 63 (s.profile.pack.cellCount == 0) ∧ fieldAt bs 64 1 = n.openSet.toNat
    ∧ (∀ i : Fin 6, pairUnsettled n i.val = false →
        CarriesOptU bs (65 + 4 * i.val) 2 ((n.pairs.get i).map fun x => x.high)
        ∧ CarriesOptU bs (67 + 4 * i.val) 2 ((n.pairs.get i).map fun x => x.low))
    ∧ fieldAt bs 89 2 = n.currentSweeps.toNat ∧ fieldAt bs 91 2 = n.cellSweeps.toNat
    ∧ fieldAt bs 93 2 = n.checkSweeps.toNat

/-- The Budget Unit record and the Lamp Unit's common record on telemetry page 6. -/
def CarriesBudget (s : State) (bs : List Byte) : Prop :=
  let b := s.budget
  let l := s.lamps
  bs.length = 35
    ∧ CarriesU bs 0 4 b.cd ∧ CarriesU bs 4 2 b.cw ∧ CarriesU bs 6 2 b.cl ∧ CarriesU bs 8 2 b.used
    ∧ CarriesFlag bs 10 b.winchFirst ∧ CarriesU bs 11 2 b.gs ∧ CarriesU bs 13 2 b.gd ∧ CarriesU bs 15 2 b.gw
    ∧ CarriesU bs 17 2 b.gl ∧ CarriesU bs 19 2 b.headroom ∧ fieldAt bs 21 4 = b.count.toNat
    ∧ CarriesU bs 25 2 l.claim ∧ CarriesU bs 27 2 l.grant ∧ CarriesFlag bs 29 l.blinkOn
    ∧ CarriesFlag bs 30 l.active ∧ CarriesFlag bs 31 l.switchPending
    ∧ CarriesOptU bs 32 1 (l.position.map fun p => p.step) ∧ CarriesOptU bs 33 2 (l.position.map fun p => p.timer)

/-- The lamp channels on telemetry page 7. -/
def CarriesLamps (s : State) (bs : List Byte) : Prop :=
  bs.length = 112 ∧ ∀ k : Fin 8,
    let c := s.lamps.channels.get k
    let g := s.profile.lamps.channels.get k
    let i := 14 * k.val
    fieldAt bs i 1 = roleCode g.role ∧ CarriesU bs (i + 1) 2 g.rated ∧ CarriesU bs (i + 3) 2 c.base
      ∧ CarriesFlag bs (i + 5) c.patterned ∧ CarriesOptU bs (i + 6) 2 c.pattern ∧ CarriesU bs (i + 8) 2 c.role
      ∧ CarriesU bs (i + 10) 2 c.wished ∧ CarriesU bs (i + 12) 2 c.output

/-- The telemetry page of a number. -/
def CarriesTelemetry (s : State) (page : Nat) (bs : List Byte) : Prop :=
  match page with
  | 0 => CarriesSlots s .radio bs
  | 1 => CarriesSlots s .companion bs
  | 2 => CarriesSteering s bs
  | 3 => CarriesWheels s bs
  | 4 => CarriesWinch s bs
  | 5 => CarriesSense s bs
  | 6 => CarriesBudget s bs
  | 7 => CarriesLamps s bs
  | _ => False

/-! ### Radio replies -/

/-- The payload of a radio reply. -/
def CarriesReply (s : State) (k : ReplySlot) (bs : List Byte) : Prop :=
  match k with
  | .alert =>
    bs.length = 3 ∧ fieldAt bs 0 1 = (lead s.notices.radio).getD 255 ∧ fieldAt bs 1 2 = s.notices.radio.toNat
  | .pack =>
    bs.length = 13 ∧ fieldAt bs 0 1 = protCode s.protection.state ∧ CarriesOptU bs 1 2 s.sense.packVolts
      ∧ CarriesOptI bs 3 4 (s.protection.vmin.map fun v => v.volts) ∧ CarriesI bs 7 4 s.protection.ip
      ∧ CarriesU bs 11 2 s.protection.allowance
  | .cells =>
    bs.length = 27 ∧ CarriesOptU bs 0 1 s.sense.count ∧ CarriesFlag bs 1 (s.profile.pack.cellCount == 0)
      ∧ fieldAt bs 2 1 = s.sense.openSet.toNat
      ∧ ∀ i : Fin 6, CarriesOptI bs (3 + 4 * i.val) 4 (s.sense.cells.get i)
  | .winch =>
    bs.length = 19 ∧ fieldAt bs 0 1 = winchCode s.winch.state ∧ CarriesFlag bs 1 (!s.winch.known)
      ∧ CarriesI bs 2 4 ((payout s.winch * 100).tdiv s.profile.winch.edgesPer100) ∧ CarriesI bs 6 4 s.winch.lineSpeed
      ∧ CarriesSync s.winch.sync bs 10
  | .drive =>
    bs.length = 16
      ∧ (∀ w, fieldAt bs (wheelNumber w) 1 = chanCode (chan s w).state
          ∧ CarriesI bs (4 + 2 * wheelNumber w) 2 (chan s w).speed)
      ∧ CarriesI bs 12 2 (effective s .drive) ∧ CarriesZ bs 14 1 (effective s .range) ∧ CarriesFlag bs 15 (parked s)
  | .flags =>
    bs.length = 4 ∧ fieldAt bs 0 1 = s.comp.flags.toNat ∧ fieldAt bs 1 1 = s.radio.flags.toNat
      ∧ fieldAt bs 2 1 = ctxCode s.comp.state ∧ CarriesFlag bs 3 s.comp.barred

end Sys2Proof.Machine
end

