-- ==== Sys2Proof/Safety.lean ====
section
/-! DEFINITION. The words that claims use: the blocks of the state and which of them a command leaves unchanged, values
within their ranges, and what makes a state safe under a cutoff. -/
namespace Sys2Proof.Machine

/-! ### Frames -/

/-- The records of the state: one per field of `State`. -/
inductive Block where
  | radio
  | comp
  | slots
  | resolver
  | steering
  | drive
  | winch
  | sense
  | protection
  | budget
  | lamps
  | radioPort
  | compPort
  | notices
  | profile
  | store
  | retained
  | clock
  | queue
deriving DecidableEq, Repr

/-- A record is the same in two states. -/
def Block.Same (b : Block) (s t : State) : Prop :=
  match b with
  | .radio => t.radio = s.radio
  | .comp => t.comp = s.comp
  | .slots => t.slots = s.slots
  | .resolver => t.resolver = s.resolver
  | .steering => t.steering = s.steering
  | .drive => t.drive = s.drive
  | .winch => t.winch = s.winch
  | .sense => t.sense = s.sense
  | .protection => t.protection = s.protection
  | .budget => t.budget = s.budget
  | .lamps => t.lamps = s.lamps
  | .radioPort => t.radioPort = s.radioPort
  | .compPort => t.compPort = s.compPort
  | .notices => t.notices = s.notices
  | .profile => t.profile = s.profile
  | .store => t.store = s.store
  | .retained => t.retained = s.retained
  | .clock => t.nowMs = s.nowMs
  | .queue => t.pending = s.pending

/-- Every record but those named is unchanged. -/
def SameExcept (touched : List Block) (s t : State) : Prop := ∀ b, b ∉ touched → b.Same s t

/-! ### What the operations can change -/

/-- What the sequencer can change. -/
def sequencerTouches : List Block := [.lamps, .notices]

/-- What a wheel channel's own events can change. -/
def channelTouches : List Block := [.drive, .lamps]

/-- What a current sample can change. -/
def sampleTouches : List Block := [.drive, .notices]

/-- What a change of winch state can change. -/
def winchTouches : List Block := [.winch, .lamps, .notices]

/-- What a changed effective value can change in the blocks that act on it. -/
def handTouches : List Block := [.steering, .drive, .winch, .lamps, .notices]

/-- What writing an effective entry and handing it on can change. -/
def commitTouches : List Block := [.resolver, .steering, .drive, .winch, .lamps, .notices, .protection]

/-- What a resolution can change. -/
def resolveTouches : List Block :=
  [.slots, .resolver, .steering, .drive, .winch, .lamps, .notices, .protection]

/-- What an event of a source context can change. -/
def contextTouches : List Block := .radio :: .comp :: resolveTouches

/-- What a command of the radio link can change. -/
def radioTouches : List Block := .radioPort :: contextTouches

/-- What Pack Protection can change. -/
def packTouches : List Block := .retained :: resolveTouches

/-- What an apportionment can change. -/
def budgetTouches : List Block := [.protection, .drive, .budget, .winch, .lamps, .notices]

/-- What a command of the Sense Unit can change. -/
def senseTouches : List Block := .sense :: .comp :: .compPort :: packTouches

/-- What a request other than PROFILE_WRITE can change. -/
def requestTouches : List Block := .sense :: .compPort :: contextTouches

/-- What any request can change. -/
def writeTouches : List Block := .profile :: .store :: .retained :: requestTouches

/-- Every record but the queue. -/
def allButQueue : List Block := .clock :: .budget :: .steering :: .radioPort :: writeTouches

/-! ### Ranges -/

/-- A value lies within its function's range or enumeration (R47). -/
def InRange (f : Fn) (v : Int) : Prop := fnLow f ≤ v ∧ v ≤ fnHigh f

/-- An effective entry whose numbers all lie within the function's range. -/
def EffInRange (f : Fn) (e : Eff) : Prop :=
  InRange f e.value ∧ InRange f e.target ∧ InRange f e.underlying ∧ ∀ b, e.blend = some b → InRange f b.start

/-- Every effective value, slot value, FAILSAFE content and lockout value lies within its function's range. -/
structure Ranged (s : State) : Prop where
  eff : ∀ f, EffInRange f (effOf s f)
  slots : ∀ m f v, (slotOf s m f).value = some v → InRange f v
  failsafe : ∀ f v, s.profile.failsafe.get f = some v → InRange f v
  cutoffDrag : s.profile.pack.cutoffDrag ≤ 1000

/-! ### Cutoff -/

/-- What holds of the drive and the winch whatever the protection state: an effective DRIVE of 0 leaves no channel in RUN,
the Winch Unit holds the effective WINCH, a held WINCH of 0 is not driven, and a winch that is not driven has duty 0. -/
structure Stopping (s : State) : Prop where
  drive : effective s .drive = 0 → ∀ w, (chan s w).state ≠ .run
  held : s.winch.held = effective s .winch
  winch : s.winch.held = 0 → winchDriven s.winch = false
  duty : winchDriven s.winch = false → s.winch.duty = 0

/-- A state in which CUTOFF stops the vehicle: the lockout set and the latch follow the protection state, and under the
lockout the effective DRIVE and WINCH are 0 (R41, R135). -/
structure CutoffSafe (s : State) : Prop extends Stopping s where
  lockout : s.resolver.lockout = true ↔ s.protection.state = .cutoff
  latch : s.retained.latch.isSome = true ↔ s.protection.state = .cutoff
  driveLocked : s.resolver.lockout = true → effective s .drive = 0
  winchLocked : s.resolver.lockout = true → effective s .winch = 0

/-! ### Allowance -/

/-- The allowance in force lies within its target, the target within Amax, and while BLIND within the cap (R141). -/
structure AllowanceBounded (s : State) : Prop where
  reserve : s.profile.pack.servoReserve ≤ s.profile.pack.amax
  allowance : s.protection.allowance ≤ s.protection.target
  target : s.protection.target ≤ s.profile.pack.amax
  blind : s.protection.blind = true → s.protection.target ≤ blindLimit s.profile.pack

/-! ### Steering -/

/-- The STEERMODE that the steering state stands for: the mode while SETTLED, and the next mode while WAITING or SLEWING
(R62, R63, R66). -/
def ModeMatches (t : Steering) (m : SteerMode) : Prop :=
  match t.state with
  | .settled => t.mode = m
  | .waiting => t.next = some m
  | .slewing => t.next = some m

/-- The steering stands for the effective STEERMODE, which never blends (R48, R62, R63, R66). -/
structure ModeFollows (s : State) : Prop where
  matched : ModeMatches s.steering (modeOfIndex (effective s .steermode))
  noBlend : (effOf s .steermode).blend = none

/-! ### Wheels -/

/-- A channel outside RUN commands, drives and claims nothing (section 5.1). -/
def RestsAtZero (c : Channel) : Prop :=
  c.state ≠ .run → c.command = 0 ∧ c.target = 0 ∧ c.duty = 0 ∧ c.claim = 0

/-- The bounds of the wheel channels: nothing outside RUN, the trims within their ranges, every duty within the top of
the RANGE in force (R87), and while the busy mark is set every duty target within the transition limit (R66). -/
structure WheelsBounded (s : State) : Prop where
  rest : ∀ w, RestsAtZero (chan s w)
  trims : ∀ w, (chan s w).slip ≤ 600 ∧ (chan s w).limiter ≤ 1000
  top : ∀ w, (chan s w).duty.natAbs ≤ topDuty s
  transition : busy s = true → ∀ w, (chan s w).target.natAbs ≤ s.profile.geometry.transition

/-! ### Winch -/

/-- While home is KNOWN the winch is driven neither inward at or below a count of 0 nor outward at or above the limit
count, which lies above 0 (R105). -/
structure EndStopsHeld (s : State) : Prop where
  limit : 0 < limitCount s.profile.winch
  inward : s.winch.known = true → s.winch.state = .inward → 0 < payout s.winch
  outward : s.winch.known = true → s.winch.state = .outward → payout s.winch < limitCount s.profile.winch

/-! ### Grants -/

/-- What a HELD grant stands on: the companion present with a usable slot, takeover allowed, the radio present where the
function is tethered, and no lock (R42, R56, section 3.6). -/
structure GrantStands (s : State) (f : Fn) : Prop where
  companion : present s .companion = true
  slot : usable s .companion f = true
  takeover : (authOf s f).takeover = true
  tether : (authOf s f).tethered = true → present s .radio = true
  unlocked : locked s f = false

/-- Every HELD grant stands. -/
def GrantsStand (s : State) : Prop := ∀ f, (grantOf s f).held.isSome = true → GrantStands s f

/-! ### Companion link -/

/-- Both cells of the companion link are empty. -/
structure CellsFree (s : State) : Prop where
  request : s.compPort.request = none
  answer : s.compPort.answer = none

/-- At most one cell is occupied; the request cell holds a PROFILE_WRITE exactly while a store runs and a CHECK_LEADS
exactly while one waits; a held restart has its answer in the cell (section 10.3, R125, R166, R173). -/
structure CellsExclusive (s : State) : Prop where
  one : s.compPort.request.isSome = true → s.compPort.answer = none
  write : s.compPort.request = some .profileWrite ↔ s.store.storing.isSome = true
  check : s.compPort.request = some .checkLeads ↔ s.sense.waiting = true
  restart : s.compPort.restartHeld = true → s.compPort.answer.isSome = true

/-- A request was answered: its answer stands in the answer cell, the request cell is free, and it is counted as
accepted (R8, R165). -/
def Answered (k : Kind) (payload : List Byte) (s t : State) : Prop :=
  t.compPort.answer = some (answerEnvelope k payload) ∧ t.compPort.request = none
    ∧ t.comp.accepted = s.comp.accepted + 1

/-- A command answers REFUSED with a cause: the answer stands in the answer cell, the request is counted as refused, the
cause joins the cause set, and no record but the companion's two changes (R8, R16, R165). -/
def Refuses (c : Instr) (cause : Cause) (kind : Byte) (s : State) : Prop :=
  ∃ t, exec c s = .next t ∧ t.compPort.answer = some (refusedEnvelope cause kind) ∧ t.compPort.request = none
    ∧ t.comp.refused = s.comp.refused + 1 ∧ t.comp.accepted = s.comp.accepted
    ∧ t.comp.causes = addMember s.comp.causes (causeCode cause) ∧ SameExcept [.comp, .compPort] s t

/-- A notice kind was raised: it is pending for each master whose mask includes it (R170). -/
def Raised (k : Notice) (s t : State) : Prop :=
  (s.profile.sources.radioNotices.getLsbD (noticeNumber k) = true → t.notices.radio.getLsbD (noticeNumber k) = true)
    ∧ (s.profile.sources.compNotices.getLsbD (noticeNumber k) = true → t.notices.comp.getLsbD (noticeNumber k) = true)

/-! ### Resets -/

/-- The command takes a reset with these pin levels: POWER_ON, SUPPLY_DIP, or the transfer that consumes the answer of an
accepted RESTART (R175, R177). -/
def TakesReset (c : Instr) (pins : Pins) (s : State) : Prop :=
  c = .powerOn pins ∨ c = .supplyDip pins
    ∨ ∃ mosi, c = .companionTransfer mosi pins ∧ s.compPort.restartHeld = true ∧ s.compPort.transfer ≠ .passedOver
        ∧ consumes (answerSent s) mosi.length = true

/-- A section is the same in two profiles. -/
def SameSection (k : Sect) (p q : Profile) : Prop :=
  match k with
  | .sources => p.sources = q.sources
  | .map => p.map = q.map
  | .authority => p.authority = q.authority
  | .failsafe => p.failsafe = q.failsafe
  | .geometry => p.geometry = q.geometry
  | .drive => p.drive = q.drive
  | .winch => p.winch = q.winch
  | .pack => p.pack = q.pack
  | .lamps => p.lamps = q.lamps
  | .scenes => p.scenes = q.scenes
  | .reply => p.reply = q.reply

/-- The flash copy of a section that start-up finds: that of a store cut short is part-written (R173). -/
def copyAtStart (s : State) (k : Sect) : FlashCopy :=
  if s.store.storing = some k then .broken else s.store.flash.get (sectNumber k)

/-- A flash copy passes the tests of start-up, as the section `v` holds it: its CRC, the section's length and the structural
checks of its owning rule hold (R176). SCENES has no structural check. -/
def CopyHolds (k : Sect) (c : FlashCopy) (v : Profile) : Prop :=
  ∃ bytes, c = .whole bytes (crc16 bytes) ∧ bytes.length = (if k = .scenes then 272 else sectWriteLength k)
    ∧ ((k = .scenes ∧ v = { defaultProfile with scenes := readScenes bytes })
      ∨ (k ≠ .scenes ∧ ∃ d, checkBody k bytes = .ok d ∧ v = defaultProfile.write d))

/-! ### Resolution -/

/-- A source decides at its level: it is present and its slot is usable (R43). -/
def Deciding (t : State) (m : Master) (f : Fn) : Prop := present t m = true ∧ usable t m f = true

/-- The value of a deciding slot with the trim of R46: the trim source's slot, where that source is another master that is
present with a usable slot, adds truncate(value × limit / 1000), and the sum is clamped. -/
def TrimmedValue (t : State) (m : Master) (f : Fn) (v : Int) : Prop :=
  let raw := ((slotOf t m f).value).getD 0
  (trimmable f = false → v = raw)
    ∧ (trimmable f = true → ∀ r, (authOf t f).trim = some r → r ≠ m → Deciding t r f →
        v = max (-1000) (min 1000 (raw + ((((slotOf t r f).value).getD 0) * (authOf t f).trimLimit).tdiv 1000)))
    ∧ (trimmable f = true → (∀ r, (authOf t f).trim = some r → r = m ∨ ¬Deciding t r f) →
        v = max (-1000) (min 1000 raw))

/-- Which level decides a function that is not locked, with which source and resolved value; none is HOLD (R42 to R44). -/
def Decides (t : State) (f : Fn) (l : Level) (src : Src) (v : Option Int) : Prop :=
  let a := authOf t f
  let grant := (grantOf t f).held.isSome = true
  let first := Deciding t a.primary f
  let second := ∃ m, a.secondary = some m ∧ Deciding t m f
  (grant → l = .grant ∧ src = .companion ∧ v = some (((slotOf t .companion f).value).getD 0))
    ∧ (¬grant → first → l = .primary ∧ src = srcOf a.primary ∧ ∃ x, v = some x ∧ TrimmedValue t a.primary f x)
    ∧ (¬grant → ¬first → second →
        l = .secondary ∧ ∃ m, a.secondary = some m ∧ src = srcOf m ∧ ∃ x, v = some x ∧ TrimmedValue t m f x)
    ∧ (¬grant → ¬first → ¬second → l = .failsafe ∧ src = .failsafe ∧ v = t.profile.failsafe.get f)

/-- Control passes between the two masters (R48). -/
def Passes (a b : Src) : Prop := (a = .radio ∧ b = .companion) ∨ (a = .companion ∧ b = .radio)

/-- The entry of the effective record that a resolution leaves in `t`, from the entry `old` before it; `byMark` says that a
change of a confirmed mark caused it. A lock rules at once; FAILSAFE and a discrete function take the resolved value at
once; a change between the two masters begins a blend of the handover time from the value as it stands; a blend goes on
under the same source, and ends by a mark; else the value is the resolved value (R40 to R50). -/
def Resolved (old : Eff) (byMark : Bool) (t : State) (f : Fn) : Prop :=
  ∃ l src v, Decides t f l src v ∧
    let e := effOf t f
    let r := v.getD old.value
    let starts := Passes old.source src ∧ (authOf t f).handover ≠ 0 ∧ ¬(byMark = true ∧ old.blend.isSome = true)
    let goesOn := old.blend.isSome = true ∧ byMark = false ∧ ¬Passes old.source src
    let blends := isNumeric f = true ∧ l ≠ .failsafe
    (locked t f = true →
        e.level = .lockout ∧ e.source = .none ∧ e.blend = none
        ∧ e.value = (if f = .drag then (t.profile.pack.cutoffDrag : Int) else 0) ∧ e.target = e.value
        ∧ e.underlying = v.getD old.underlying)
      ∧ (locked t f = false →
        e.level = l ∧ e.source = src ∧ e.target = r ∧ e.underlying = r
        ∧ (blends → starts → e.value = old.value ∧ e.blend = some ⟨old.value, 0, (authOf t f).handover, 10⟩)
        ∧ (blends → ¬starts → goesOn → e.value = old.value ∧ e.blend = old.blend)
        ∧ (¬blends ∨ (¬starts ∧ ¬goesOn) → e.value = r ∧ e.blend = none))

/-! ### Commands of the links -/

/-- A frame that passes every check of R161: 1 to 16 items and a CRC that matches. -/
structure FrameValid (f : RadioFrame) : Prop where
  some : 1 ≤ f.items.length
  few : f.items.length ≤ 16
  crc : crc16 (frameBody f) = f.crc

/-- A companion that is LIVE and whose two cells are empty: a well-formed request is carried out, and only its silence
timer is reloaded with it (R7, R165). -/
structure RequestReady (s : State) : Prop extends CellsFree s where
  live : s.comp.state = .live

/-- A 16-bit field as its two bytes, low byte first (section 10.6). -/
def twoBytes (v : BitVec 16) : List Byte := [BitVec.setWidth 8 v, BitVec.extractLsb' 8 8 v]

/-- A request's payload, in the layout of section 10.6. -/
def Request.payload : Request → List Byte
  | .demand pairs => pairs.flatMap fun x => x.fn :: twoBytes x.value
  | .grant fn d => fn :: twoBytes d
  | .release fn => [fn]
  | .statusRead page => [page]
  | .telemetryRead page => [page]
  | .noticeTake => []
  | .causeTake => []
  | .flagsSet flags => [flags]
  | .profileWrite sect body => sect :: body
  | .profileRead sect scene => sect :: scene.toList
  | .patternWrite bank first steps =>
    bank :: first :: BitVec.ofNat 8 steps.length :: steps.flatMap fun x =>
      x.mask :: twoBytes x.level ++ [x.duration, x.marks]
  | .bankSwitch => []
  | .winchZero => []
  | .checkLeads => []
  | .restart => []

/-- A payload's length is one that its kind allows (section 10.6): a section number above 10 is taken at any length. -/
def LengthFits (kind : Nat) (payload : List Byte) : Prop :=
  let n := payload.length
  match kind with
  | 1 => n % 3 = 0 ∧ 3 ≤ n ∧ n ≤ 21
  | 2 => n = 3
  | 3 => n = 1
  | 4 => n = 1
  | 5 => n = 1
  | 6 => n = 0
  | 7 => n = 0
  | 8 => n = 1
  | 9 => 1 ≤ n ∧ ∀ k, sectOfNumber (payload.headD 0).toNat = some k → n = 1 + sectWriteLength k
  | 10 =>
    1 ≤ n ∧ ∀ k, sectOfNumber (payload.headD 0).toNat = some k → n = (if k = .scenes then 2 else 1)
  | 11 => 3 ≤ n ∧ n = 3 + 5 * (payload.getD 2 0).toNat
  | 12 => n = 0
  | 13 => n = 0
  | 14 => n = 0
  | 15 => n = 0
  | _ => False

/-- The result of one DEMAND pair: 0 for OK, or the code of the cause that refuses it (R28). -/
def pairResult (s : State) (x : DemandPair) : Nat :=
  match fnOfNumber x.fn.toNat with
  | none => causeCode .value
  | some f =>
    if (fnMask s .companion).getLsbD (fnNumber f) = false then causeCode .reach
    else if isNumeric f = false ∧ (x.value.toInt < fnLow f ∨ fnHigh f < x.value.toInt) then causeCode .value
    else 0

/-- The command that carries a companion request. -/
def Request.command : Request → Instr
  | .demand pairs => .demand pairs
  | .grant fn duration => .grant fn duration
  | .release fn => .release fn
  | .statusRead page => .statusRead page
  | .telemetryRead page => .telemetryRead page
  | .noticeTake => .noticeTake
  | .causeTake => .causeTake
  | .flagsSet flags => .flagsSet flags
  | .profileWrite sect body => .profileWrite sect body
  | .profileRead sect scene => .profileRead sect scene
  | .patternWrite bank first steps => .patternWrite bank first steps
  | .bankSwitch => .bankSwitch
  | .winchZero => .winchZero
  | .checkLeads => .checkLeads
  | .restart => .restart

end Sys2Proof.Machine
end

