-- ==== Sys2Proof/Handover.lean ====
section
/-! DEFINITION. What a changed effective value does at once in the block it is handed to, in the words of the rules that
take it over, for claims about two states `s` and `t` before and after a command that resolves one function. -/
namespace Sys2Proof.Machine

/-! ### Lamps -/

/-- The role levels, wished levels, outputs and claim of `t` are those of a lamp resolution over the other records of `t`,
by its four stages (R154 to R157). -/
def LampsResolved (t : State) : Prop :=
  let l := t.profile.lamps
  let role (i : Fin 8) := (l.channels.get i).role
  let base (i : Fin 8) : Nat :=
    match (t.lamps.channels.get i).patterned, (t.lamps.channels.get i).pattern with
    | true, some v => v
    | _, _ => (t.lamps.channels.get i).base
  let blink : Nat := if t.lamps.blinkOn then 1000 else 0
  let rest := ∀ w, (chan t w).state ≠ .run
  let lit := ∃ i, role i = .head ∧ 0 < base i
  let prot := t.protection.state
  (∀ i,
      let c := t.lamps.channels.get i
      (role i = .head ∨ role i = .rock ∨ role i = .bar → c.role = base i)
      ∧ (role i = .brake → (rest ∧ 100 ≤ effective t .drag → c.role = 1000)
          ∧ (¬(rest ∧ 100 ≤ effective t .drag) → c.role = base i))
      ∧ (role i = .tail → (lit → c.role = max (base i) l.tailLevel) ∧ (¬lit → c.role = base i))
      ∧ (role i = .reverse →
          c.role = if effective t .drive < -(t.profile.drive.neutralBand : Int) then 1000 else base i)
      ∧ (role i = .indLeft → c.role = if (l.indicator : Int) < effective t .steer then blink else base i)
      ∧ (role i = .indRight → c.role = if effective t .steer < -(l.indicator : Int) then blink else base i)
      ∧ (role i = .winch →
          c.role = if t.winch.state = .inward ∨ t.winch.state = .outward then 1000 else base i)
      ∧ (role i = .beacon →
          ((∃ f, (grantOf t f).held.isSome = true) → c.role = blink)
          ∧ ((∀ f, (grantOf t f).held = none) → c.role = base i))
      ∧ (prot = .precheck ∨ prot = .normal → c.wished = c.role)
      ∧ (prot = .caution → c.wished = if role i = .tail then blink else c.role)
      ∧ (prot = .shed →
          c.wished = if role i = .tail ∨ role i = .brake ∨ role i = .indLeft ∨ role i = .indRight then c.role else 0)
      ∧ (prot = .cutoff →
          c.wished =
            if role i = .tail ∨ role i = .brake then c.role
            else if role i = .indLeft ∨ role i = .indRight then blink else 0)
      ∧ c.output = if t.lamps.claim ≤ t.lamps.grant then c.wished else c.wished * t.lamps.grant / t.lamps.claim)
  ∧ t.lamps.claim =
      ((List.finRange 8).map fun i => (l.channels.get i).rated * (t.lamps.channels.get i).wished / 1000).sum

/-- The Lamp Unit's record is unchanged but for each channel's `base` and `patterned` and the results of a resolution. -/
def LampsKept (s t : State) : Prop :=
  t.lamps = { s.lamps with claim := t.lamps.claim, channels := t.lamps.channels }
    ∧ ∀ i, (t.lamps.channels.get i).pattern = (s.lamps.channels.get i).pattern

/-- A lamp resolution was taken, with each channel's base level and patterned mark as they stood (R154). -/
def LampsFollow (s t : State) : Prop :=
  LampsResolved t ∧ LampsKept s t
    ∧ ∀ i, (t.lamps.channels.get i).base = (s.lamps.channels.get i).base
        ∧ (t.lamps.channels.get i).patterned = (s.lamps.channels.get i).patterned

/-- Each channel took the base level and patterned mark of scene `n`, and a lamp resolution was taken (R147). -/
def SceneTaken (n : Fin 16) (s t : State) : Prop :=
  LampsResolved t ∧ LampsKept s t
    ∧ ∀ i, (t.lamps.channels.get i).base = (t.profile.scenes.get n).levels.get i
        ∧ (t.lamps.channels.get i).patterned = (t.profile.scenes.get n).patterned.getLsbD i.val

/-! ### Winch -/

/-- The state that a WINCH of `v` gives the winch of `s`, by the columns of R104's table; STALLED stands. -/
def winchStateFor (band : Nat) (v : Int) (s : State) : WinchState :=
  let st := s.winch.state
  let drivesIn : WinchState := if s.winch.known = true ∧ payout s.winch ≤ 0 then .limitIn else .inward
  let drivesOut : WinchState :=
    if s.winch.known = true ∧ (limitCount s.profile.winch : Int) ≤ payout s.winch then .limitOut else .outward
  if st = .stalled then .stalled
  else if v.natAbs ≤ band then .idle
  else if 0 < v then if st = .inward ∨ st = .limitIn then st else drivesIn
  else if st = .outward ∨ st = .limitOut then st else drivesOut

/-- What going from `w` to a state makes of the winch: entering IDLE or a limit state brakes, with the demand duty, duty
target, duty and claim at 0; entering IN or OUT keeps the duty as it stands, which is 0 in a braked state; the stall timer
stops, and sync ends where the state leaves IN (R104, R111, R113). -/
def WinchGoes (st : WinchState) (w w' : WinchUnit) : Prop :=
  (st = w.state → w' = w)
  ∧ (st ≠ w.state → st = .idle ∨ st = .limitIn ∨ st = .limitOut →
      w' =
        { w with
          state := st, demand := 0, target := 0, duty := 0, claim := 0, stall := none, clear := none
          sync := { w.sync with active := false } })
  ∧ (st ≠ w.state → st = .inward →
      w' = { w with state := .inward, stall := none, clear := none })
  ∧ (st ≠ w.state → st = .outward →
      w' =
        { w with state := .outward, stall := none, clear := none, sync := { w.sync with active := false } })

/-- The lamps follow a change of the winch state (R154). -/
def LampsFollowWinch (s t : State) : Prop :=
  (t.winch.state = s.winch.state → t.lamps = s.lamps) ∧ (t.winch.state ≠ s.winch.state → LampsFollow s t)

/-- A WINCH of `v` was handed to the Winch Unit, under a neutral band: the held WINCH takes it, the state goes by R104's
table, and the clear timer of a STALLED winch starts or runs on within the band and stops at 0 outside it (R104, R112). -/
def WinchTakes (band : Nat) (v : Int) (s t : State) : Prop :=
  let w := { s.winch with held := v }
  (s.winch.state = .stalled →
      t.winch = { w with clear := if v.natAbs ≤ band then some (s.winch.clear.getD 0) else none })
    ∧ (s.winch.state ≠ .stalled → WinchGoes (winchStateFor band v s) w t.winch)
    ∧ LampsFollowWinch s t

/-- The winch entered a limit state. -/
def LimitEntered (s t : State) : Prop :=
  t.winch.state ≠ s.winch.state ∧ (t.winch.state = .limitIn ∨ t.winch.state = .limitOut)

/-! ### Wheels -/

/-- Of the Wheel Drive Unit only the wheel channels changed. -/
def OnlyChannels (s t : State) : Prop := t.drive = { s.drive with channels := t.drive.channels }

/-- A new effective DRIVE at the wheel channels: within the neutral band every channel in RUN goes to DRAG at once with
command, duty target, duty and claim 0, at the effective DRAG, and the clear timer of a LOCKED_OUT channel starts or runs
on; outside the band that timer stops at 0. Every other channel stands (R82, R91, R95). -/
def DriveTaken (s t : State) : Prop :=
  let band := s.profile.drive.neutralBand
  let e := effective t .drive
  (∀ w, (chan s w).state = .run → e.natAbs ≤ band →
      chan t w =
        { chan s w with
          state := .drag, command := 0, target := 0, duty := 0, claim := 0, overs := 0
          dragLevel := effective s .drag, retry := none, clear := none })
    ∧ (∀ w, (chan s w).state = .lockedOut →
        chan t w =
          { chan s w with clear := if e.natAbs ≤ band then some ((chan s w).clear.getD 0) else none })
    ∧ (∀ w, (chan s w).state = .drag ∨ (chan s w).state = .tripped ∨ ((chan s w).state = .run ∧ band < e.natAbs) →
        chan t w = chan s w)
    ∧ OnlyChannels s t

/-- A new effective DRAG: every channel in DRAG takes it as its drag level at once (R77). -/
def DragTaken (s t : State) : Prop :=
  OnlyChannels s t
    ∧ ∀ w, chan t w =
        if (chan s w).state = .drag then { chan s w with dragLevel := effective t .drag } else chan s w

/-- A new effective RANGE: every duty beyond the new top in magnitude is brought to that top, keeping its sign (R87). -/
def RangeTaken (s t : State) : Prop :=
  let d := s.profile.drive
  let e := effective t .range
  let top : Int := if e = 0 then d.topLow else if e = 1 then d.topMid else d.topHigh
  OnlyChannels s t ∧ ∀ w, chan t w = { chan s w with duty := max (-top) (min top (chan s w).duty) }

/-! ### Steering -/

/-- A new effective STEERMODE of `m`. In SETTLED a mean wheel speed above the gate in force waits for it, and one at or
below it enters SLEWING, where every channel in RUN clamps its command and its duty target to the transition limit at
once. In WAITING the mode itself cancels the change, and any other value becomes the next mode (R62, R63, R66, R84). The mean
is the floored one at a gate of 0 too (log entry 52). -/
def ModeTaken (m : SteerMode) (s t : State) : Prop :=
  let waits := s.steering.gate < ((chan s .fl).speed.natAbs + (chan s .fr).speed.natAbs + (chan s .rl).speed.natAbs
    + (chan s .rr).speed.natAbs) / 4
  let l : Int := s.profile.geometry.transition
  (s.steering.state = .settled → waits →
      t.steering = { s.steering with state := .waiting, next := some m } ∧ t.drive = s.drive)
    ∧ (s.steering.state = .settled → ¬waits →
        t.steering = { s.steering with state := .slewing, next := some m } ∧ OnlyChannels s t
        ∧ ∀ w, chan t w =
            if (chan s w).state = .run then
              { chan s w with
                command := max (-l) (min l (chan s w).command), target := max (-l) (min l (chan s w).target) }
            else chan s w)
    ∧ (s.steering.state = .waiting → m = s.steering.mode →
        t.steering = { s.steering with state := .settled, next := none } ∧ t.drive = s.drive)
    ∧ (s.steering.state = .waiting → m ≠ s.steering.mode →
        t.steering = { s.steering with next := some m } ∧ t.drive = s.drive)

/-! ### Hand-over -/

/-- The blocks that a changed effective value acts on at once, of those that one can act on (R40). -/
def handedTo : Fn → List Block
  | .drive => [.drive, .lamps]
  | .steer => [.steering, .lamps]
  | .steermode => [.steering, .drive]
  | .winch => [.winch, .lamps]
  | .drag => [.drive, .lamps]
  | .range => [.drive]
  | .scene => [.lamps]

/-- What a changed effective value of a function does in the blocks that it is handed to (R40). -/
def Taken (f : Fn) (s t : State) : Prop :=
  match f with
  | .drive => DriveTaken s t ∧ LampsFollow s t
  | .steer => t.steering = { s.steering with heldSteer := effective t .steer } ∧ LampsFollow s t
  | .steermode =>
    ∀ m, (effective t .steermode = 0 ∧ m = .front ∨ effective t .steermode = 1 ∧ m = .counter
        ∨ effective t .steermode = 2 ∧ m = .crab ∨ effective t .steermode = 3 ∧ m = .rear) → ModeTaken m s t
  | .winch => WinchTakes s.profile.drive.neutralBand (effective t .winch) s t
  | .drag => DragTaken s t ∧ LampsFollow s t
  | .range => RangeTaken s t
  | .scene => ∀ n : Fin 16, effective t .scene = n.val → SceneTaken n s t

/-- The hand-over of one function's resolution: an effective value that changed acts on its own blocks and on no other; one
that stands is not handed on (R40). -/
def HandsOver (f : Fn) (s t : State) : Prop :=
  (effective t f = effective s f → ∀ b ∈ [Block.steering, .drive, .winch, .lamps], b.Same s t)
    ∧ (effective t f ≠ effective s f →
        (∀ b ∈ [Block.steering, .drive, .winch, .lamps], b ∉ handedTo f → b.Same s t) ∧ Taken f s t)

/-- While the lockout set is filled a changed underlying DRIVE is handed to Pack Protection, which in CUTOFF tests its
third recovery condition: the recovery dwell timer starts at 0 or runs on while all three hold, the other two as they were
last tested (log entry 20), and stops at 0 where one fails. Else Pack Protection stands (R40, R137). -/
def UnderlyingHanded (s t : State) : Prop :=
  let u := (effOf t .drive).underlying
  let handed := s.resolver.lockout = true ∧ u ≠ (effOf s .drive).underlying
  let ok := u.natAbs ≤ s.profile.drive.neutralBand
  (handed → s.protection.state = .cutoff →
      t.protection =
        { s.protection with
          driveOk := decide ok
          recovery :=
            if s.protection.cellOk = true ∧ s.protection.currentOk = true ∧ ok then
              some (s.protection.recovery.getD 0)
            else none })
    ∧ (¬handed → t.protection = s.protection)

end Sys2Proof.Machine
end

