-- ==== Sys2Proof/Delivery.lean ====
section
/-! DEFINITION. What a change of presence, a slot write, an item of a frame, a whole frame and a DEMAND pair do, in the words
of the rules that give them, for claims about two states `s` and `t` before and after. -/
namespace Sys2Proof.Machine

/-! ### Work in order -/

/-- Pieces of work were taken one after another, each whole before the next (R28, R35). -/
def InTurn {α : Type} (one : α → State → State → Prop) : List α → State → State → Prop
  | [], s, t => t = s
  | x :: xs, s, t => ∃ u, one x s u ∧ InTurn one xs u t

/-! ### Resolution of several functions -/

/-- STEERMODE is not resolved while the Steering Unit slews (R45). -/
def Resolvable (s : State) (f : Fn) : Prop := f ≠ .steermode ∨ s.steering.state ≠ .slewing

/-- The functions in `which` were resolved, those in `marks` by a changed confirmed mark too, and no other; a resolution
takes the function's FRESH slots, and the slots are otherwise those given (R22, R40). -/
def ResolvedWhere (which : Fn → Prop) (marks : Fn → Bool) (slots : Master → Fn → Slot) (s t : State) : Prop :=
  ∀ f,
    (which f → Resolved (effOf s f) (marks f) t f) ∧ (¬which f → effOf t f = effOf s f)
    ∧ ∀ m,
        (which f → (slots m f).state = .fresh → slotOf t m f = { slots m f with state := .taken })
        ∧ (¬which f ∨ (slots m f).state ≠ .fresh → slotOf t m f = slots m f)

/-- Every HELD grant in `which` ended with a reason, each raising GRANT_ENDED, and every other grant stands (R51, R56). -/
def GrantsEnd (why : EndReason) (which : Fn → Prop) (s t : State) : Prop :=
  ∀ f,
    ((grantOf s f).held.isSome = true → which f → grantOf t f = ⟨none, some why⟩ ∧ Raised .grantEnded s t)
    ∧ ((grantOf s f).held = none ∨ ¬which f → grantOf t f = grantOf s f)

/-! ### Presence -/

/-- The slots with one master's confirmed marks cleared (R3, R7, R11). -/
def unconfirmed (m : Master) (s : State) (m' : Master) (f : Fn) : Slot :=
  if m' = m ∧ hasMark f = true then { slotOf s m' f with confirmed := false } else slotOf s m' f

/-- The functions whose confirmed mark such a clearing changes. -/
def losesMark (m : Master) (s : State) (f : Fn) : Bool := hasMark f && (slotOf s m f).confirmed

/-- A master became present: its marks are cleared and every function is resolved; no grant changes (R2, R3, R7). -/
def MasterReturns (m : Master) (s t : State) : Prop :=
  ResolvedWhere (Resolvable s) (losesMark m s) (unconfirmed m s) s t ∧ ∀ f, grantOf t f = grantOf s f

/-- A master ceased to be present: its grants end by the grant rules, COMPANION's all with LAPSE, and on RADIO's loss those on
tethered functions with TETHER; and every function is resolved (R2, R9, R56). -/
def MasterLost (m : Master) (s t : State) : Prop :=
  ResolvedWhere (Resolvable s) (fun _ => false) (slotOf s) s t
    ∧ (m = .companion → GrantsEnd .lapse (fun _ => True) s t)
    ∧ (m = .radio → GrantsEnd .tether (fun f => (authOf s f).tethered = true) s t)

/-- A BAR item of a raw value at or above the threshold (`b`) or below it was delivered. One that leaves the flag does
nothing; one that changes it raises BAR_CHANGED and, where it clears the flag, clears COMPANION's marks. With a LIVE companion
its presence changes; else only a cleared mark reaches the resolver (R2, R11, R26). -/
def BarWritten (b : Bool) (s t : State) : Prop :=
  (s.comp.barred = b → t = s)
    ∧ (s.comp.barred ≠ b →
        t.comp = { s.comp with barred := b } ∧ Raised .barChanged s t
        ∧ (s.comp.state = .live → b = true → MasterLost .companion s t)
        ∧ (s.comp.state = .live → b = false → MasterReturns .companion s t)
        ∧ (s.comp.state ≠ .live → ∀ f, grantOf t f = grantOf s f)
        ∧ (s.comp.state ≠ .live → b = true →
            ResolvedWhere (fun _ => False) (fun _ => false) (slotOf s) s t)
        ∧ (s.comp.state ≠ .live → b = false →
            ResolvedWhere (fun f => losesMark .companion s f = true) (losesMark .companion s)
              (unconfirmed .companion s) s t)
        ∧ SameExcept (.comp :: resolveTouches) s t)

/-! ### Slot writes -/

/-- The slot `old` after a write of a value already brought to its range. One that waits takes a repeat of its value or of its
offered value with no more than a new age, and else supersedes by the slot policy (R23). One that does not wait takes the
value, with the next sequence where it is new (R21), and a value within the band sets its mark (R26). -/
def slotAfter (s : State) (f : Fn) (v : Int) (waiting busy handed : Prop) [Decidable waiting] [Decidable busy]
    [Decidable handed] (old : Slot) : Slot :=
  if waiting then
    if old.value = some v ∨ old.offered = some v then { old with age := 0, offered := some v }
    else if (authOf s f).keep then
      { old with age := 0, offered := some v, superseded := min 255 (old.superseded + 1) }
    else
      { old with
        age := 0, offered := some v, superseded := min 255 (old.superseded + 1), value := some v, seq := old.seq + 1 }
  else
    { old with
      value := some v, offered := some v, age := 0
      state := if handed then if busy then .fresh else .taken else old.state
      seq := if old.value = some v then old.seq else old.seq + 1
      confirmed := old.confirmed || (hasMark f && decide (v.natAbs ≤ s.profile.drive.neutralBand)) }

/-- A value was written to a master's slot of a function (R20 to R23, R26, R35, R40). A write that changes the slot's state,
value or mark hands it to the resolver, which resolves the function at once unless its consumer is busy; what a changed
effective value does is `HandsOver`. Every other slot, entry and grant stands. -/
def SlotWritten (m : Master) (f : Fn) (raw : Int) (s t : State) : Prop :=
  let old := slotOf s m f
  let v : Int := max (fnLow f) (min (fnHigh f) raw)
  let marks := !old.confirmed && hasMark f && decide (v.natAbs ≤ s.profile.drive.neutralBand)
  let busy := f = .steermode ∧ s.steering.state = .slewing
  let waiting := busy ∧ old.state = .fresh
  let handed := old.state = .empty ∨ old.state = .stale ∨ old.value ≠ some v ∨ marks = true
  let resolves := handed ∧ ¬busy
  slotOf t m f = slotAfter s f v waiting busy handed old
    ∧ (∀ m', m' ≠ m →
        (resolves → (slotOf s m' f).state = .fresh → slotOf t m' f = { slotOf s m' f with state := .taken })
        ∧ (¬resolves ∨ (slotOf s m' f).state ≠ .fresh → slotOf t m' f = slotOf s m' f))
    ∧ (∀ m' g, g ≠ f → slotOf t m' g = slotOf s m' g)
    ∧ (∀ g, grantOf t g = grantOf s g) ∧ (∀ g, g ≠ f → effOf t g = effOf s g)
    ∧ (resolves →
        Resolved (effOf s f) marks t f ∧ HandsOver f s t ∧ UnderlyingHanded s t
        ∧ (LimitEntered s t → Raised .winchLimit s t) ∧ (¬LimitEntered s t → t.notices = s.notices))
    ∧ (¬resolves → effOf t f = effOf s f ∧ SameExcept [.slots] s t)
    ∧ SameExcept resolveTouches s t

/-! ### Frames -/

/-- An item was counted as unmatched, and nothing else (R13, R31). -/
def CountedUnmatched (s t : State) : Prop :=
  t.radio = { s.radio with unmatched := min 65535 (s.radio.unmatched + 1) } ∧ SameExcept [.radio] s t

/-- A radio crew flag was set or cleared, and nothing else (R17, R34). -/
def FlagWritten (i : Fin 4) (b : Bool) (s t : State) : Prop :=
  t.radio = { s.radio with flags := t.radio.flags } ∧ t.radio.flags.getLsbD i.val = b
    ∧ (∀ j : Fin 4, j ≠ i → t.radio.flags.getLsbD j.val = s.radio.flags.getLsbD j.val) ∧ SameExcept [.radio] s t

/-- One item of a frame was delivered, whole, by the entry that takes it (R13, R31, R34, R35). -/
def ItemDelivered (x : RadioItem) (s t : State) : Prop :=
  match matchEntry s.profile.map (itemTag x) with
  | none => CountedUnmatched s t
  | some e =>
    match e.target with
    | .fn f =>
      ((fnMask s .radio).getLsbD (fnNumber f) = true → SlotWritten .radio f (demandOf e f (itemRaw x)) s t)
        ∧ ((fnMask s .radio).getLsbD (fnNumber f) = false → CountedUnmatched s t)
    | .flag i => FlagWritten i (decide (2048 ≤ itemRaw x)) s t
    | .bar => BarWritten (decide (2048 ≤ itemRaw x)) s t
    | .none => CountedUnmatched s t

/-- An item writes the radio slot of a function within RADIO's mask (R31). -/
def ItemWrites (s : State) (f : Fn) (x : RadioItem) : Prop :=
  (fnMask s .radio).getLsbD (fnNumber f) = true
    ∧ ∃ e, matchEntry s.profile.map (itemTag x) = some e ∧ e.target = .fn f

/-- A valid frame without the failsafe bit was heard, before its items: it is counted and its sequence applied, the radio is
LIVE with its timer loaded, and where it was not LIVE it returns, with RADIO_LIVE (R3, R6). -/
def FrameHeard (f : RadioFrame) (s t : State) : Prop :=
  t.radio =
      { s.radio with
        state := .live, timer := s.profile.sources.radioSilence, accepted := s.radio.accepted + 1
        missed := min 65535 (s.radio.missed + match s.radio.lastSeq with
          | some l => (frameSeq f - l).toNat - 1
          | none => 0)
        lastSeq := some (frameSeq f) }
    ∧ t.radioPort = { s.radioPort with assembler := .hunting }
    ∧ (s.radio.state = .live → SameExcept [.radio, .radioPort] s t)
    ∧ (s.radio.state ≠ .live →
        MasterReturns .radio s t ∧ Raised .radioLive s t ∧ SameExcept (.radio :: .radioPort :: resolveTouches) s t)

/-- The breakaway test of R55 ends the grant of a function, whose radio slot a frame wrote between `before` and `s`: the value
it left lies at or above the breakaway for the second frame in a row, or a discrete slot's sequence advanced. -/
def BreaksAway (before s : State) (f : Fn) : Prop :=
  ∃ h, (grantOf s f).held = some h
    ∧ (isNumeric f = true →
        (authOf s f).breakaway ≤ (((slotOf s .radio f).value).getD 0).natAbs ∧ 1 ≤ h.breakaway)
    ∧ (isNumeric f = false → (slotOf s .radio f).seq ≠ (slotOf before .radio f).seq)

/-- After a frame's last item every function with a HELD grant whose radio slot the frame wrote had its breakaway tested
once, on the value left: its grant ends and it is resolved, or a numeric one's count becomes 1 or 0. Every other grant and
entry stands (R51, R55). -/
def BreakawayTested (items : List RadioItem) (before s t : State) : Prop :=
  let wrote (f : Fn) := ∃ x ∈ items, ItemWrites s f x
  let ends (f : Fn) := wrote f ∧ BreaksAway before s f
  ResolvedWhere (fun f => ends f ∧ Resolvable s f) (fun _ => false) (slotOf s) s t
    ∧ (∀ f,
        (ends f → grantOf t f = ⟨none, some .breakaway⟩ ∧ Raised .grantEnded s t)
        ∧ (∀ h, (grantOf s f).held = some h → wrote f → isNumeric f = true → ¬ends f →
            let reaches := (authOf s f).breakaway ≤ (((slotOf s .radio f).value).getD 0).natAbs
            (reaches → grantOf t f = { grantOf s f with held := some { h with breakaway := 1 } })
            ∧ (¬reaches → grantOf t f = { grantOf s f with held := some { h with breakaway := 0 } }))
        ∧ ((grantOf s f).held = none ∨ ¬wrote f ∨ (isNumeric f = false ∧ ¬ends f) → grantOf t f = grantOf s f))
    ∧ ((∀ f, ¬ends f) → SameExcept [.resolver] s t)
    ∧ SameExcept resolveTouches s t

/-! ### Demands -/

/-- A DEMAND from a companion that is not barred was heard, before its pairs: the companion is LIVE with its timer loaded, and
where it was not LIVE it returns (R7). -/
def DemandHeard (s t : State) : Prop :=
  t.comp = { s.comp with state := .live, timer := s.profile.sources.compSilence }
    ∧ (s.comp.state = .live → SameExcept [.comp] s t)
    ∧ (s.comp.state ≠ .live → MasterReturns .companion s t ∧ SameExcept (.comp :: resolveTouches) s t)

/-- One pair was taken: written to the companion slot, or refused with its cause added to the cause set (R28). -/
def PairTaken (x : DemandPair) (s t : State) : Prop :=
  (pairResult s x ≠ 0 →
      t.comp = { s.comp with causes := addMember s.comp.causes (pairResult s x) } ∧ SameExcept [.comp] s t)
    ∧ ∀ f, fnOfNumber x.fn.toNat = some f → pairResult s x = 0 → SlotWritten .companion f x.value.toInt s t

end Sys2Proof.Machine
end

