-- ==== Sys2Proof/SectionRules.lean ====
section
/-! DEFINITION. The profile sections in the words of their owning rules, for claims about a PROFILE_WRITE: which bodies each
rule refuses and with which cause, the clamped contents that an accepted body leaves in the live section, and what the
owning block does when a write is accepted. Fields are read at their bytes with the words of Pages.lean. -/
namespace Sys2Proof.Machine

/-! ### Structural checks -/

/-- The codes of a MAP entry's target (R36). -/
def TargetCode (n : Nat) : Prop := n ≤ 6 ∨ (8 ≤ n ∧ n ≤ 12) ∨ n = 255

/-- The body breaks a condition that its owning rule refuses BADMAP: only AUTHORITY has one (R38). A takeover byte above 1
with primary COMPANION is not takeover allowed (log entry 46). -/
def BreaksMap (k : Sect) (bs : List Byte) : Prop :=
  k = .authority ∧ ∃ f : Fn,
    let i := 14 * fnNumber f
    let primary := fieldAt bs i 1
    let secondary := fieldAt bs (i + 1) 1
    let trim := fieldAt bs (i + 2) 1
    1 < primary
      ∨ (secondary ≠ 0 ∧ secondary ≠ 1 ∧ secondary ≠ 255) ∨ secondary = primary
      ∨ (trim ≠ 0 ∧ trim ≠ 1 ∧ trim ≠ 255) ∨ trim = primary
      ∨ (f = .steermode ∨ f = .drag ∨ f = .range ∨ f = .scene) ∧ trim ≠ 255
      ∨ primary = 1 ∧ fieldAt bs (i + 5) 1 = 1

/-- A number brought to the nearest end of its range. -/
def clamped (lo hi n : Nat) : Nat := if n < lo then lo else if hi < n then hi else n

/-- A servo's endpoints, after clamping, do not rise, or its centre lies outside them; its fields start at byte `i`
(R75). -/
def ServoBroken (bs : List Byte) (i : Nat) : Prop :=
  let centre := clamped 800 2200 (fieldAt bs i 2)
  let low := clamped 800 2200 (fieldAt bs (i + 3) 2)
  let high := clamped 800 2200 (fieldAt bs (i + 5) 2)
  high ≤ low ∨ centre < low ∨ high < centre

/-- The body breaks a structural check that its owning rule refuses VALUE (R18, R30, R36, R38, R75, R98, R116, R128, R145,
R158, R169). SCENES has none beside its scene number (R159). -/
def BreaksValue (k : Sect) (bs : List Byte) : Prop :=
  match k with
  | .sources => 127 < fieldAt bs 4 1 ∨ 2047 < fieldAt bs 5 2 ∨ 127 < fieldAt bs 7 1 ∨ 2047 < fieldAt bs 8 2
  | .map => ∃ e : Fin 12,
      63 < fieldAt bs (9 * e.val) 1 ∨ 63 < fieldAt bs (9 * e.val + 1) 1 ∨ ¬TargetCode (fieldAt bs (9 * e.val + 2) 1)
        ∨ 1 < fieldAt bs (9 * e.val + 3) 1
  | .authority => ∃ f : Fn,
      1 < fieldAt bs (14 * fnNumber f + 5) 1 ∨ 1 < fieldAt bs (14 * fnNumber f + 6) 1
        ∨ 1 < fieldAt bs (14 * fnNumber f + 11) 1
  | .failsafe =>
      (3 < fieldAt bs 4 1 ∧ fieldAt bs 4 1 ≠ 255) ∨ (2 < fieldAt bs 9 1 ∧ fieldAt bs 9 1 ≠ 255)
        ∨ (15 < fieldAt bs 10 1 ∧ fieldAt bs 10 1 ≠ 255)
  | .geometry =>
      (fieldAt bs 13 1 ≠ 10 ∧ fieldAt bs 13 1 ≠ 20) ∨ 1 < fieldAt bs 14 1 ∨ 1 < fieldAt bs 23 1 ∨ 1 < fieldAt bs 31 1
        ∨ ServoBroken bs 16 ∨ ServoBroken bs 24
  | .drive =>
      clamped 100 1000 (fieldAt bs 4 2) < clamped 100 1000 (fieldAt bs 2 2)
        ∨ clamped 100 1000 (fieldAt bs 6 2) < clamped 100 1000 (fieldAt bs 4 2)
  | .winch => 1 < fieldAt bs 18 1 ∨ 1 < fieldAt bs 20 1
  | .pack =>
      let volts (i : Nat) := clamped 2500 4400 (fieldAt bs i 2)
      fieldAt bs 0 1 = 1 ∨ 6 < fieldAt bs 0 1
        ∨ volts 42 ≤ volts 40 ∨ volts 44 ≤ volts 42 ∨ volts 46 ≤ volts 44
        ∨ clamped 5000 60000 (fieldAt bs 59 2) ≤ clamped 500 10000 (fieldAt bs 61 2)
  | .lamps => ∃ c : Fin 8, 9 < fieldAt bs (3 * c.val) 1
  | .scenes => False
  | .reply => 1 < fieldAt bs 2 1

/-! ### Contents -/

/-- The target that a MAP entry's code stands for (R36). -/
def TargetIs (n : Nat) (t : Target) : Prop :=
  match t with
  | .fn f => n = fnNumber f
  | .flag i => n = 8 + i.val
  | .bar => n = 12
  | .none => n = 255

/-- The source that an AUTHORITY field's code stands for: 0 RADIO, 1 COMPANION, 255 NONE (section 3.1). -/
def SourceIs (n : Nat) (m : Option Master) : Prop :=
  match m with
  | some .radio => n = 0
  | some .companion => n = 1
  | none => n = 255

/-- The signed number in the two bytes at byte `i`. -/
def signedAt (bs : List Byte) (i : Nat) : Int :=
  if fieldAt bs i 2 < 32768 then fieldAt bs i 2 else (fieldAt bs i 2 : Int) - 65536

/-- A signed number brought to its range, −32768 standing for HOLD (R29, R30). -/
def numericContent (lo z : Int) : Option Int :=
  if z = -32768 then none else some (if z < lo then lo else if 1000 < z then 1000 else z)

/-- A discrete content, 255 standing for HOLD (R29). -/
def discreteContent (n : Nat) : Option Int := if n = 255 then none else some n

/-- SOURCES as an accepted body leaves it (R18). -/
def SourcesHold (bs : List Byte) (v : Sources) : Prop :=
  v.radioSilence = clamped 100 1000 (fieldAt bs 0 2) ∧ v.compSilence = clamped 100 5000 (fieldAt bs 2 2)
    ∧ v.radioFns.toNat = fieldAt bs 4 1 ∧ v.radioSections.toNat = fieldAt bs 5 2
    ∧ v.compFns.toNat = fieldAt bs 7 1 ∧ v.compSections.toNat = fieldAt bs 8 2
    ∧ v.radioNotices.toNat = fieldAt bs 10 2 ∧ v.compNotices.toNat = fieldAt bs 12 2

/-- An entry of MAP, from byte `i` (R36). -/
def MapEntryHolds (bs : List Byte) (i : Nat) (v : MapEntry) : Prop :=
  v.tag = fieldAt bs i 1 ∧ v.mask = fieldAt bs (i + 1) 1 ∧ TargetIs (fieldAt bs (i + 2) 1) v.target
    ∧ (v.reverse = true ↔ fieldAt bs (i + 3) 1 = 1) ∧ v.center = clamped 0 4095 (fieldAt bs (i + 4) 2)
    ∧ v.halfSpan = clamped 1 2047 (fieldAt bs (i + 6) 2) ∧ v.deadband = clamped 0 200 (fieldAt bs (i + 8) 1)

/-- An entry of AUTHORITY, from byte `i`. The hold time of a discrete function reads back as 0 (R38). -/
def AuthEntryHolds (f : Fn) (bs : List Byte) (i : Nat) (v : AuthEntry) : Prop :=
  SourceIs (fieldAt bs i 1) (some v.primary) ∧ SourceIs (fieldAt bs (i + 1) 1) v.secondary
    ∧ SourceIs (fieldAt bs (i + 2) 1) v.trim ∧ v.trimLimit = clamped 0 250 (fieldAt bs (i + 3) 2)
    ∧ (v.takeover = true ↔ fieldAt bs (i + 5) 1 = 1) ∧ (v.tethered = true ↔ fieldAt bs (i + 6) 1 = 1)
    ∧ v.breakaway = clamped 100 1000 (fieldAt bs (i + 7) 2) ∧ v.handover = clamped 0 1000 (fieldAt bs (i + 9) 2)
    ∧ (v.keep = true ↔ fieldAt bs (i + 11) 1 = 1)
    ∧ v.hold = if f = .drive ∨ f = .steer ∨ f = .winch ∨ f = .drag then clamped 50 2000 (fieldAt bs (i + 12) 2) else 0

/-- FAILSAFE (R29, R30). -/
def FailsafeHolds (bs : List Byte) (v : PerFn (Option Int)) : Prop :=
  v.drive = numericContent (-1000) (signedAt bs 0) ∧ v.steer = numericContent (-1000) (signedAt bs 2)
    ∧ v.steermode = discreteContent (fieldAt bs 4 1) ∧ v.winch = numericContent (-1000) (signedAt bs 5)
    ∧ v.drag = numericContent 0 (signedAt bs 7) ∧ v.range = discreteContent (fieldAt bs 9 1)
    ∧ v.scene = discreteContent (fieldAt bs 10 1)

/-- One servo's fields of GEOMETRY, from byte `i` (R75). -/
def ServoHolds (bs : List Byte) (i : Nat) (v : Servo) : Prop :=
  v.centre = clamped 800 2200 (fieldAt bs i 2) ∧ v.rate = clamped 1 40 (fieldAt bs (i + 2) 1)
    ∧ v.low = clamped 800 2200 (fieldAt bs (i + 3) 2) ∧ v.high = clamped 800 2200 (fieldAt bs (i + 5) 2)
    ∧ (v.reverse = true ↔ fieldAt bs (i + 7) 1 = 1)

/-- GEOMETRY (R75). -/
def GeometryHolds (bs : List Byte) (v : Geometry) : Prop :=
  v.wheelbase = clamped 150 450 (fieldAt bs 0 2) ∧ v.track = clamped 100 350 (fieldAt bs 2 2)
    ∧ v.maxAngle = clamped 50 450 (fieldAt bs 4 2) ∧ v.rearRatio = clamped 0 100 (fieldAt bs 6 1)
    ∧ v.rearSlew = clamped 1 450 (fieldAt bs 7 2) ∧ v.speedGate = clamped 0 2000 (fieldAt bs 9 2)
    ∧ v.transition = clamped 0 1000 (fieldAt bs 11 2) ∧ v.framePeriod = fieldAt bs 13 1
    ∧ (v.pivotAllowed = true ↔ fieldAt bs 14 1 = 1) ∧ v.strength = clamped 0 100 (fieldAt bs 15 1)
    ∧ ServoHolds bs 16 v.front ∧ ServoHolds bs 24 v.rear

/-- DRIVE (R98). -/
def DriveHolds (bs : List Byte) (v : DriveSection) : Prop :=
  v.neutralBand = clamped 0 200 (fieldAt bs 0 2) ∧ v.topLow = clamped 100 1000 (fieldAt bs 2 2)
    ∧ v.topMid = clamped 100 1000 (fieldAt bs 4 2) ∧ v.topHigh = clamped 100 1000 (fieldAt bs 6 2)
    ∧ v.accel = clamped 1 1000 (fieldAt bs 8 2) ∧ v.circumference = clamped 50 1000 (fieldAt bs 10 2)
    ∧ v.edgesPerRev = clamped 12 2048 (fieldAt bs 12 2) ∧ v.slipMargin = clamped 5 100 (fieldAt bs 14 1)
    ∧ v.imax = clamped 1000 30000 (fieldAt bs 15 2) ∧ v.tripLevel = clamped 1000 32000 (fieldAt bs 17 2)
    ∧ v.tripCount = clamped 1 10 (fieldAt bs 19 1) ∧ v.tripWindow = clamped 500 10000 (fieldAt bs 20 2)
    ∧ v.clearTime = clamped 100 5000 (fieldAt bs 22 2)

/-- WINCH (R116). -/
def WinchHolds (bs : List Byte) (v : WinchSection) : Prop :=
  v.edgesPer100 = clamped 16 10000 (fieldAt bs 0 2) ∧ v.payoutMax = clamped 100 10000 (fieldAt bs 2 2)
    ∧ v.top = clamped 100 1000 (fieldAt bs 4 2) ∧ v.slowIn = clamped 50 1000 (fieldAt bs 6 2)
    ∧ v.accel = clamped 1 1000 (fieldAt bs 8 2) ∧ v.imax = clamped 1000 20000 (fieldAt bs 10 2)
    ∧ v.stallCurrent = clamped 500 20000 (fieldAt bs 12 2) ∧ v.stallTime = clamped 50 5000 (fieldAt bs 14 2)
    ∧ v.stallClear = clamped 50 5000 (fieldAt bs 16 2) ∧ (v.syncEnable = true ↔ fieldAt bs 18 1 = 1)
    ∧ v.syncMargin = clamped 1 50 (fieldAt bs 19 1) ∧ (v.reverse = true ↔ fieldAt bs 20 1 = 1)

/-- One current channel's fields of PACK, from byte `i` (R128). -/
def ShuntHolds (bs : List Byte) (i : Nat) (v : Shunt) : Prop :=
  v.zero = clamped 0 4095 (fieldAt bs i 2) ∧ v.full = clamped 1000 65000 (fieldAt bs (i + 2) 2)

/-- The sensing fields of PACK (R128). -/
def SensingHolds (bs : List Byte) (v : Pack) : Prop :=
  v.cellCount = fieldAt bs 0 1 ∧ v.checkInterval = clamped 5 250 (fieldAt bs 1 1)
    ∧ v.leadThreshold = clamped 100 2000 (fieldAt bs 2 2)
    ∧ (∀ k : Fin 6, v.tapFull.get k = clamped 1000 40000 (fieldAt bs (4 + 2 * k.val) 2))
    ∧ ShuntHolds bs 16 v.shuntPack ∧ ShuntHolds bs 20 v.shuntWheel.fl ∧ ShuntHolds bs 24 v.shuntWheel.fr
    ∧ ShuntHolds bs 28 v.shuntWheel.rl ∧ ShuntHolds bs 32 v.shuntWheel.rr ∧ ShuntHolds bs 36 v.shuntWinch

/-- The protection fields of PACK (R145). -/
def ProtectionHolds (bs : List Byte) (v : Pack) : Prop :=
  v.vcut = clamped 2500 4400 (fieldAt bs 40 2) ∧ v.vshed = clamped 2500 4400 (fieldAt bs 42 2)
    ∧ v.vcau = clamped 2500 4400 (fieldAt bs 44 2) ∧ v.vrecover = clamped 2500 4400 (fieldAt bs 46 2)
    ∧ v.hysteresis = clamped 10 200 (fieldAt bs 48 2) ∧ v.rcell = clamped 0 50 (fieldAt bs 50 1)
    ∧ v.cutoffDwell = clamped 100 10000 (fieldAt bs 51 2) ∧ v.recoveryDwell = clamped 1000 30000 (fieldAt bs 53 2)
    ∧ v.recoveryCurrent = clamped 100 5000 (fieldAt bs 55 2) ∧ v.cutoffDrag = clamped 0 1000 (fieldAt bs 57 2)
    ∧ v.amax = clamped 5000 60000 (fieldAt bs 59 2) ∧ v.servoReserve = clamped 500 10000 (fieldAt bs 61 2)
    ∧ v.blindCap = clamped 10 100 (fieldAt bs 63 1) ∧ v.driveFloor = clamped 0 30000 (fieldAt bs 64 2)
    ∧ v.winchFloor = clamped 0 20000 (fieldAt bs 66 2) ∧ v.lampFloor = clamped 0 8000 (fieldAt bs 68 2)

/-- The role that a LAMPS code stands for (section 9.5). -/
def RoleIs (n : Nat) : Role → Prop
  | .head => n = 0
  | .tail => n = 1
  | .brake => n = 2
  | .reverse => n = 3
  | .indLeft => n = 4
  | .indRight => n = 5
  | .rock => n = 6
  | .bar => n = 7
  | .winch => n = 8
  | .beacon => n = 9

/-- LAMPS (R158). -/
def LampsHold (bs : List Byte) (v : Lamps) : Prop :=
  (∀ c : Fin 8, RoleIs (fieldAt bs (3 * c.val) 1) (v.channels.get c).role
      ∧ (v.channels.get c).rated = clamped 0 1000 (fieldAt bs (3 * c.val + 1) 2))
    ∧ v.halfPeriod = clamped 100 2000 (fieldAt bs 24 2) ∧ v.indicator = clamped 50 1000 (fieldAt bs 26 2)
    ∧ v.tailLevel = clamped 0 1000 (fieldAt bs 28 2)

/-- One scene of SCENES, after the scene number (R159). -/
def SceneHolds (bs : List Byte) (v : Scene) : Prop :=
  (∀ c : Fin 8, v.levels.get c = clamped 0 1000 (fieldAt bs (1 + 2 * c.val) 2)) ∧ v.patterned.toNat = fieldAt bs 17 1

/-- REPLY (R169). -/
def ReplyHolds (bs : List Byte) (v : ReplySection) : Prop :=
  v.delay = clamped 100 500 (fieldAt bs 0 2) ∧ (v.alertEnable = true ↔ fieldAt bs 2 1 = 1)
    ∧ v.packEvery = fieldAt bs 3 1 ∧ v.cellsEvery = fieldAt bs 4 1 ∧ v.winchEvery = fieldAt bs 5 1
    ∧ v.driveEvery = fieldAt bs 6 1 ∧ v.flagsEvery = fieldAt bs 7 1

/-- The live sections after an accepted write: the section, or for SCENES the one scene named, is replaced by the body's
checked and clamped contents, and every other section stands (R172). -/
def Replaced (k : Sect) (bs : List Byte) (p q : Profile) : Prop :=
  match k with
  | .sources => q = { p with sources := q.sources } ∧ SourcesHold bs q.sources
  | .map => q = { p with map := q.map } ∧ ∀ e : Fin 12, MapEntryHolds bs (9 * e.val) (q.map.get e)
  | .authority =>
    q = { p with authority := q.authority } ∧ ∀ f, AuthEntryHolds f bs (14 * fnNumber f) (q.authority.get f)
  | .failsafe => q = { p with failsafe := q.failsafe } ∧ FailsafeHolds bs q.failsafe
  | .geometry => q = { p with geometry := q.geometry } ∧ GeometryHolds bs q.geometry
  | .drive => q = { p with drive := q.drive } ∧ DriveHolds bs q.drive
  | .winch => q = { p with winch := q.winch } ∧ WinchHolds bs q.winch
  | .pack => q = { p with pack := q.pack } ∧ SensingHolds bs q.pack ∧ ProtectionHolds bs q.pack
  | .lamps => q = { p with lamps := q.lamps } ∧ LampsHold bs q.lamps
  | .scenes =>
    q = { p with scenes := q.scenes }
      ∧ ∀ n : Fin 16, (n.val = fieldAt bs 0 1 → SceneHolds bs (q.scenes.get n))
          ∧ (n.val ≠ fieldAt bs 0 1 → q.scenes.get n = p.scenes.get n)
  | .reply => q = { p with reply := q.reply } ∧ ReplyHolds bs q.reply

/-- A PROFILE_WRITE that passes all its checks, in the order of R172: the section and scene number, the companion's section
mask and the radio-held sections (R15), the parked status, and the structural checks of the owning rule. -/
structure WritePasses (s : State) (sect : Byte) (k : Sect) (body : List Byte) : Prop where
  ready : RequestReady s
  named : sectOfNumber sect.toNat = some k
  length : bodyFits sect.toNat body.length = true
  scene : k = .scenes → fieldAt body 0 1 ≤ 15
  mask : s.profile.sources.compSections.getLsbD (sectNumber k).val = true
  held : s.radio.state = .live → s.profile.sources.radioSections.getLsbD (sectNumber k).val = false
  parked : parked s = true
  map : ¬BreaksMap k body
  value : ¬BreaksValue k body

/-! ### Acceptance: the records that a write replaces, and no other -/

/-- The records that every accepted write touches: the live section, the store, and the companion's two. -/
def acceptTouches : List Block := [.profile, .store, .comp, .compPort]

/-! ### Acceptance: sections of the sources, the resolver and the demand table -/

/-- A grant of `f` ended with a reason, and GRANT_ENDED was raised by the masks in force after the write (R51). -/
def GrantEnded (why : EndReason) (f : Fn) (t : State) : Prop :=
  grantOf t f = ⟨none, some why⟩
    ∧ (t.profile.sources.compNotices.getLsbD (noticeNumber .grantEnded) = true →
        t.notices.comp.getLsbD (noticeNumber .grantEnded) = true)

/-- An accepted SOURCES write: with both function masks as they were nothing else changes; where one changed, a COMPANION
grant on a function outside COMPANION's new mask ends MAPCHANGE, every other grant stands, and every function is resolved.
Contexts, slots and pending sets keep their places (R14, R18). -/
def SourcesAct (s t : State) : Prop :=
  let masks (p : Profile) := (p.sources.radioFns, p.sources.compFns)
  (masks t.profile = masks s.profile → SameExcept acceptTouches s t)
    ∧ (masks t.profile ≠ masks s.profile →
        (∀ f,
          let ends := (grantOf s f).held.isSome = true ∧ t.profile.sources.compFns.getLsbD (fnNumber f) = false
          (ends → GrantEnded .mapChange f t) ∧ (¬ends → grantOf t f = grantOf s f)
          ∧ (Resolvable s f → Resolved (effOf s f) false t f) ∧ (¬Resolvable s f → effOf t f = effOf s f))
        ∧ SameExcept (acceptTouches ++ resolveTouches) s t)

/-- A numeric slot that its function's new hold time outlives: TAKEN and older (R25). -/
def Outlived (s t : State) (m : Master) (f : Fn) : Prop :=
  (f = .drive ∨ f = .steer ∨ f = .winch ∨ f = .drag) ∧ (slotOf s m f).state = .taken
    ∧ (authOf t f).hold < (slotOf s m f).age

/-- An accepted AUTHORITY write, in R39's order: a HELD grant ends MAPCHANGE where takeover is now not allowed, or where the
function is now tethered without RADIO present; then every TAKEN numeric slot older than its new hold time goes STALE, and
a COMPANION slot's going STALE ends the grant that still stands; then every function is resolved by the new map. A function
that loses no slot is resolved once from its entry as it stood (R25, R39). -/
def AuthorityActs (s t : State) : Prop :=
  (∀ f,
    let held := (grantOf s f).held.isSome = true
    let mapEnds := (authOf t f).takeover = false ∨ ((authOf t f).tethered = true ∧ s.radio.state ≠ .live)
    (held → mapEnds → GrantEnded .mapChange f t)
    ∧ (held → ¬mapEnds → Outlived s t .companion f → GrantEnded .stale f t)
    ∧ (¬held ∨ (¬mapEnds ∧ ¬Outlived s t .companion f ∧ (slotOf s .companion f).state ≠ .fresh) →
        grantOf t f = grantOf s f)
    ∧ (∀ m, (slotOf s m f).state ≠ .fresh →
        (Outlived s t m f → slotOf t m f = { slotOf s m f with state := .stale })
        ∧ (¬Outlived s t m f → slotOf t m f = slotOf s m f))
    ∧ (Resolvable s f → ∃ l src v, Decides t f l src v
        ∧ (locked t f = false →
            (effOf t f).level = l ∧ (effOf t f).source = src ∧ ∀ r, v = some r → (effOf t f).target = r)
        ∧ (locked t f = true → (effOf t f).level = .lockout))
    ∧ (Resolvable s f → (∀ m, ¬Outlived s t m f ∧ (slotOf s m f).state ≠ .fresh) → Resolved (effOf s f) false t f))
  ∧ SameExcept (acceptTouches ++ resolveTouches) s t

/-- An accepted FAILSAFE write: a function whose content stands keeps its entry; one whose content changed is resolved, and
one that a level above FAILSAFE decides, with its entry as that level gives it, keeps it (R29; that a function decided
above is resolved too is log entry 30). No grant changes. -/
def FailsafeActs (s t : State) : Prop :=
  (∀ f,
    let e := effOf s f
    (t.profile.failsafe.get f = s.profile.failsafe.get f → effOf t f = e)
    ∧ (t.profile.failsafe.get f ≠ s.profile.failsafe.get f → Resolvable s f → Resolved e false t f)
    ∧ (locked s f = false → e.level ≠ .failsafe → Decides s f e.level e.source (some e.target) →
        e.underlying = e.target → (e.blend = none → e.value = e.target) →
        (isNumeric f = false → e.blend = none) → effOf t f = e)
    ∧ grantOf t f = grantOf s f)
  ∧ SameExcept (acceptTouches ++ commitTouches ++ [.slots]) s t

/-! ### Acceptance: sections of the units -/

/-- An accepted GEOMETRY write: the steering record stands, and the drive with it, since a write is taken only while parked
and the transition limit then finds no channel in RUN to clamp (R66, R75, R84). -/
def GeometryActs (s t : State) : Prop := SameExcept acceptTouches s t

/-- An accepted DRIVE write (R98), with the bands and the tops before and after it. In CUTOFF the third recovery condition is
tested by the new band. A LOCKED_OUT clear timer starts or stops where the effective DRIVE moved into or out of the band,
and a timer that runs on at or past the new clear time clears its channel to DRAG, the band tested before the clear time
(log entry 47). Every duty is held to the new top. A held WINCH that moved into or out of the band acts as R104 gives. -/
def DriveActs (s t : State) : Prop :=
  let old := s.profile.drive
  let new := t.profile.drive
  let e := effective s .drive
  let u := (effOf s .drive).underlying
  let moved (v : Int) := ¬(v.natAbs ≤ old.neutralBand ↔ v.natAbs ≤ new.neutralBand)
  let range := effective s .range
  let top : Int := if range = 0 then new.topLow else if range = 1 then new.topMid else new.topHigh
  (s.protection.state = .cutoff →
      t.protection =
        { s.protection with
          driveOk := decide (u.natAbs ≤ new.neutralBand)
          recovery :=
            if s.protection.cellOk = true ∧ s.protection.currentOk = true ∧ u.natAbs ≤ new.neutralBand then
              some (s.protection.recovery.getD 0)
            else none })
  ∧ (s.protection.state ≠ .cutoff → t.protection = { s.protection with driveOk := t.protection.driveOk })
  ∧ (∀ w,
      let c := chan s w
      let kept := { c with duty := max (-top) (min top c.duty) }
      let clears (n : Nat) := new.clearTime ≤ n
      let after (timer : Option Nat) : Channel :=
        match timer with
        | some n =>
          if clears n then
            { c with
              state := .drag, command := 0, target := 0, duty := 0, claim := 0, overs := 0, trips := []
              dragLevel := effective s .drag, retry := none, clear := none }
          else { kept with clear := some n }
        | none => { kept with clear := none }
      (c.state = .drag → chan t w = kept)
      ∧ (c.state = .lockedOut → ¬moved e → chan t w = after c.clear)
      ∧ (c.state = .lockedOut → moved e → e.natAbs ≤ new.neutralBand → chan t w = after (some (c.clear.getD 0)))
      ∧ (c.state = .lockedOut → moved e → new.neutralBand < e.natAbs → chan t w = after none))
  ∧ OnlyChannels s t
  ∧ (¬moved s.winch.held → t.winch = s.winch ∧ t.lamps = s.lamps ∧ t.notices = s.notices)
  ∧ (moved s.winch.held → WinchTakes new.neutralBand s.winch.held s t)
  ∧ (LimitEntered s t → Raised .winchLimit s t)
  ∧ SameExcept (acceptTouches ++ [.protection, .drive, .winch, .lamps, .notices]) s t

/-- The state that an accepted WINCH write gives the winch: a STALLED one whose clear timer is at or past the new time goes
IDLE, and a limit state whose stop no longer holds goes by the held WINCH, to IDLE within the neutral band, else in its
direction, to the other limit where that stop holds (R104, R116). -/
def winchStateAfterWrite (known : Bool) (new : WinchSection) (band : Nat) (w : WinchUnit) : WinchState :=
  let inStop := known = true ∧ payout w ≤ 0
  let outStop := known = true ∧ (limitCount new : Int) ≤ payout w
  let byHeld : WinchState :=
    if w.held.natAbs ≤ band then .idle
    else if 0 < w.held then if inStop then .limitIn else .inward
    else if outStop then .limitOut else .outward
  match w.state, w.clear with
  | .stalled, some n => if new.stallClear ≤ n then .idle else .stalled
  | .limitIn, _ => if inStop then .limitIn else byHeld
  | .limitOut, _ => if outStop then .limitOut else byHeld
  | st, _ => st

/-- An accepted WINCH write: a changed encoder reverse makes home UNKNOWN, an inward duty above the slow-in limit comes down
to it while home is UNKNOWN, and the state goes by `winchStateAfterWrite`; the payout count, trims and timers stand
otherwise (R110, R116). -/
def WinchActs (s t : State) : Prop :=
  let new := t.profile.winch
  let known := s.winch.known && decide (new.reverse = s.profile.winch.reverse)
  let w :=
    { s.winch with
      known := known, duty := if known = false ∧ (new.slowIn : Int) < s.winch.duty then new.slowIn else s.winch.duty }
  WinchGoes (winchStateAfterWrite known new s.profile.drive.neutralBand s.winch) w t.winch
    ∧ LampsFollowWinch s t ∧ (LimitEntered s t → Raised .winchLimit s t)
    ∧ SameExcept (acceptTouches ++ [.winch, .lamps, .notices]) s t

/-- The allowance target of R140's table, its rows in their order, with the thresholds in force. -/
def targetByTable (p : Pack) (k : Thresholds) (st : ProtState) (vmin : Option VMin) (blind : Bool) : Nat :=
  let s := p.servoReserve
  let line (v : Int) : Nat := s + (p.amax - s) * (v - k.vcut).toNat / (k.vcau - k.vcut)
  let base : Nat :=
    match vmin with
    | none => s
    | some m => if (k.vcau : Int) ≤ m.volts then p.amax else if (k.vcut : Int) ≤ m.volts then line m.volts else s
  let target := if st = .precheck ∨ st = .cutoff then s else base
  if blind then min target (p.amax * p.blindCap / 100) else target

/-- What an accepted PACK write does in the Sense Unit (R128): a new cell count resolves n at once, or AUTO leaves it
unresolved; a new cell count or lead threshold makes a check due, which by R120 may be the very next slot (log entry 50).
A write that leaves the field leaves the count (log entry 48). -/
def SensingActs (s t : State) : Prop :=
  let old := s.profile.pack
  let new := t.profile.pack
  t.sense =
    { s.sense with
      count :=
        if new.cellCount = old.cellCount then s.sense.count
        else if new.cellCount = 0 then none else some new.cellCount
      checkDue :=
        s.sense.checkDue || decide (new.cellCount ≠ old.cellCount) || decide (new.leadThreshold ≠ old.leadThreshold) }

/-- What an accepted PACK write does in Pack Protection (R137, R145), in the order of log entry 51. The recovery dwell timer
follows the first condition where the cell count changed. A running dwell timer at or past its new time expires: the
cutoff dwell enters CUTOFF, and the recovery dwell leaves it. Otherwise the state, the latch, BLIND and Vcorr_min stand, the
target is recomputed under the thresholds in force (log entry 21) with the allowance brought to a lower one at once, and a
cutoff drag changed under the lockout is resolved. -/
def PackActs (s t : State) : Prop :=
  let new := t.profile.pack
  let p := s.protection
  let judging := p.state = .normal ∨ p.state = .caution ∨ p.state = .shed
  let cellOk := 2 ≤ t.sense.count.getD 0 ∧ ∃ m, p.vmin = some m ∧ (p.thresholds.vrecover : Int) ≤ m.volts
  let counted := t.sense.count ≠ s.sense.count ∧ p.state = .cutoff
  let holds := cellOk ∧ p.currentOk = true ∧ p.driveOk = true
  let cuts := judging ∧ ∃ n, p.dwell = some n ∧ new.cutoffDwell ≤ n
  let recovers := p.state = .cutoff ∧ p.dwell = none ∧ (counted → holds)
    ∧ ∃ n, p.recovery = some n ∧ new.recoveryDwell ≤ n
  (cuts →
      t.protection.state = .cutoff ∧ t.retained.latch = some .undervolt ∧ t.protection.dwell = none
      ∧ t.resolver.lockout = true ∧ effective t .drive = 0 ∧ effective t .winch = 0
      ∧ effective t .drag = new.cutoffDrag ∧ Raised .packState s t)
  ∧ (recovers →
      t.protection.state = .normal ∧ t.retained.latch = none ∧ t.protection.recovery = none
      ∧ t.resolver.lockout = false ∧ Raised .packState s t)
  ∧ (¬cuts → ¬recovers → (p.state = .cutoff → p.dwell = none) →
      t.protection.state = p.state ∧ t.retained = s.retained ∧ t.protection.blind = p.blind
      ∧ t.protection.vmin = p.vmin ∧ t.protection.dwell = p.dwell
      ∧ (counted → holds → t.protection.recovery = some (p.recovery.getD 0))
      ∧ (counted → ¬holds → t.protection.recovery = none)
      ∧ (¬counted → t.protection.recovery = p.recovery)
      ∧ t.protection.target = targetByTable new p.thresholds p.state p.vmin p.blind
      ∧ t.protection.allowance = min p.allowance t.protection.target
      ∧ (s.resolver.lockout = true → new.cutoffDrag ≠ s.profile.pack.cutoffDrag → effective t .drag = new.cutoffDrag)
      ∧ (s.resolver.lockout = false ∨ new.cutoffDrag = s.profile.pack.cutoffDrag → t.resolver = s.resolver)
      ∧ (∀ f, f ≠ .drag → effOf t f = effOf s f))
  ∧ t.protection.thresholds = p.thresholds ∧ t.protection.ip = p.ip
  ∧ SameExcept (.sense :: acceptTouches ++ packTouches) s t

/-- An accepted SCENES write of the scene in force takes its levels and marks anew; of another, nothing else changes
(R159). -/
def ScenesAct (n : Nat) (s t : State) : Prop :=
  (effective s .scene = n → ∀ i : Fin 16, i.val = n → SceneTaken i s t)
    ∧ (effective s .scene ≠ n → 0 ≤ effective s .scene → effective s .scene < 16 → t.lamps = s.lamps)
    ∧ SameExcept (.lamps :: acceptTouches) s t

end Sys2Proof.Machine
end

