-- ==== Sys2Proof/Certificates/Slice0/Obligations.lean ====
section
/-! DEFINITION. The statements for the provers: what one step of the block and each of its commands does, what each leaves
unchanged, and the invariants that every step keeps. -/

section Statements

open Sys2Proof Sys2Proof.Machine

/-! ### The step -/

/-- A step takes the command at the front of the queue and runs it on the state with the queue's rest. That commands wait
in a queue is the model's form of the block (log entry 1). -/
def Obligations.FrontCommandIsTaken : Prop :=
  ∀ (c : Instr) (rest : List Instr) (s : State), step (s.setPending (c :: rest)) = exec c (s.setPending rest)

/-- With no command waiting, the first expiry that is due is taken; where none is due one millisecond passes. Every timer
that runs down holds one less after it (silence timers, grants, blend steps, the servo frame, wheel, winch, sweep, slot,
apportionment, blink and step timers, retry timers, and 1000 µs of a reply), every timer that runs up one more (slot
ages up to 65 535, the ms since a timed hall edge, the still timer up to 500 while all speeds are 0, clear timers and
dwells), and nothing else changes. That a step on an empty queue is the passing of time, and the order of expiries that
are due together, are the model's choice (log entry 2; its clock is log entry 14). -/
def Obligations.IdleStepPassesTime : Prop :=
  ∀ s : State, s.pending = [] →
    (∀ c, dueCommand s = some c → step s = exec c s)
    ∧ (dueCommand s = none →
        ∃ t, step s = .next t ∧ t.nowMs = s.nowMs + 1
          ∧ t.radio = { s.radio with timer := s.radio.timer - 1 }
          ∧ t.comp = { s.comp with timer := s.comp.timer - 1 }
          ∧ (∀ m f, slotOf t m f =
              { slotOf s m f with
                age := if (slotOf s m f).state = .empty then (slotOf s m f).age else min 65535 ((slotOf s m f).age + 1) })
          ∧ (∀ f, grantOf t f =
              { grantOf s f with
                held := (grantOf s f).held.map fun h => { h with remaining := h.remaining - 1 } })
          ∧ (∀ f, effOf t f =
              { effOf s f with blend := (effOf s f).blend.map fun b => { b with next := b.next - 1 } })
          ∧ t.resolver.lockout = s.resolver.lockout
          ∧ t.steering = { s.steering with frameTimer := s.steering.frameTimer - 1 }
          ∧ (∀ w, chan t w =
              { chan s w with
                timer := (chan s w).timer - 1
                retry := (chan s w).retry.map fun n => n - 1
                clear := (chan s w).clear.map fun n => n + 1
                edgeIdle := if (chan s w).timing then (chan s w).edgeIdle + 1 else (chan s w).edgeIdle })
          ∧ ((∀ w, (chan s w).speed = 0) → t.drive.still = min 500 (s.drive.still + 1))
          ∧ ((∃ w, (chan s w).speed ≠ 0) → t.drive.still = 0)
          ∧ t.drive.apportioned = s.drive.apportioned ∧ t.drive.grant = s.drive.grant
          ∧ t.winch =
              { s.winch with timer := s.winch.timer - 1, clear := s.winch.clear.map fun n => n + 1 }
          ∧ t.sense =
              { s.sense with
                currentTimer := s.sense.currentTimer - 1, slotTimer := s.sense.slotTimer - 1 }
          ∧ t.protection =
              { s.protection with
                dwell := s.protection.dwell.map fun n => n + 1
                recovery := s.protection.recovery.map fun n => n + 1 }
          ∧ t.budget = { s.budget with timer := s.budget.timer - 1 }
          ∧ t.lamps =
              { s.lamps with
                blinkTimer := s.lamps.blinkTimer - 1
                position := s.lamps.position.map fun p => { p with timer := p.timer - 1 } }
          ∧ t.radioPort =
              { s.radioPort with
                reply := match s.radioPort.reply with
                  | .none => .none
                  | .delay bytes n => .delay bytes (n - 1000)
                  | .sending bytes n => .sending bytes (n - 1000) }
          ∧ (∀ b ∈ [Block.compPort, .notices, .profile, .store, .retained, .queue], b.Same s t))

/-- State.reset is what a POWER-ON with the input pins at rest makes of it: the reset values of every block, the sections
loaded, RESTARTED pending and the first resolutions taken. The flash contents (every section stored at its defaults)
and the pin levels are the model's choice (log entries 4 and 5). The invariants of this file all hold at reset. -/
def Obligations.ResetKeepsEveryInvariant : Prop :=
  (exec (.powerOn Pins.rest) State.reset = .next State.reset)
  ∧ (CutoffSafe State.reset ∧ Ranged State.reset ∧ AllowanceBounded State.reset ∧ ModeFollows State.reset
      ∧ EndStopsHeld State.reset ∧ WheelsBounded State.reset ∧ GrantsStand State.reset ∧ CellsExclusive State.reset)

/-- Every command completes: each of the block's commands answers a next state, from every state and with every operand,
and leaves the queue as it is. The queue, and that a reset leaves it standing, is the model's own (log entry 1); that an
expiry whose timer does not run changes nothing and a completion may come in any state are the model's readings (log
entries 3 and 37). -/
def Obligations.EveryCommandAnswersNext : Prop := ∀ (c : Instr) (s : State), ∃ t, exec c s = .next t ∧ t.pending = s.pending

/-- The live sections change only at a PROFILE_WRITE, at a transfer that may carry one, and at a reset; the flash copies
change at those and at the completion of a store (R172, R173, R176). -/
def Obligations.OnlyWritesAndResetsChangeTheProfile : Prop :=
  ∀ (c : Instr) (s t : State), exec c s = .next t →
    (∀ k body, c ≠ .profileWrite k body) → (∀ mosi pins, c ≠ .companionTransfer mosi pins) →
    (∀ pins, c ≠ .powerOn pins) → (∀ pins, c ≠ .supplyDip pins) →
      t.profile = s.profile ∧ ((∀ b, c ≠ .storeComplete b) → t.store = s.store)

/-! ### Invariants -/

/-- Every step keeps the vehicle stopped under CUTOFF: the lockout set and the latch follow the protection state, and while
the set is filled the effective DRIVE and WINCH are 0, no wheel channel is in RUN and the winch is not driven (R41, R82,
R104, R135). -/
def Obligations.CutoffStaysSafe : Prop := ∀ s t : State, CutoffSafe s → step s = .next t → CutoffSafe t

/-- Every step keeps every effective value, blend, slot value and FAILSAFE content within its function's range (R20, R30,
R47). -/
def Obligations.ValuesStayInRange : Prop := ∀ s t : State, Ranged s → step s = .next t → Ranged t

/-- Every step keeps the allowance in force within its target, the target within Amax, and while BLIND within the cap
(R140, R141). -/
def Obligations.AllowanceStaysBounded : Prop := ∀ s t : State, AllowanceBounded s → step s = .next t → AllowanceBounded t

/-- Every step keeps the steering mode settled on, or moving to, the effective STEERMODE (R45, R62, R63, R65, R66). -/
def Obligations.SteeringModeKeepsFollowing : Prop := ∀ s t : State, ModeFollows s → step s = .next t → ModeFollows t

/-- Every step keeps the winch from being driven past an end stop while home is KNOWN (R104, R105). -/
def Obligations.WinchEndStopsHold : Prop := ∀ s t : State, EndStopsHeld s → step s = .next t → EndStopsHeld t

/-- Every step keeps a channel outside RUN at 0, both trims in range, every duty within the top of the RANGE in force, and
while SLEWING every duty target within the transition limit (R66, R77, R84 to R87). -/
def Obligations.WheelOutputsStayBounded : Prop := ∀ s t : State, WheelsBounded s → step s = .next t → WheelsBounded t

/-- Every step keeps every HELD grant standing on a present companion with a usable slot, an entry that allows takeover, a
present radio where it is tethered, and no lock (R42, R51, R56). -/
def Obligations.GrantsStayOnPresence : Prop := ∀ s t : State, GrantsStand s → step s = .next t → GrantsStand t

/-- Every step keeps at most one cell of the companion link occupied, and the request cell in step with the store and with
a waiting CHECK_LEADS (R125, R165, R166, R173). -/
def Obligations.LinkCellsStayExclusive : Prop := ∀ s t : State, CellsExclusive s → step s = .next t → CellsExclusive t

/-! ### Stored sections -/

/-- A section that passed its checks, stored and loaded again at start-up, gives the same live section: no field of the
section's encoding is dropped or moved. SCENES, stored whole, gives back sixteen scenes that were each read from a write
(R172, R173, R176). -/
def Obligations.StoredSectionsLoadBack : Prop :=
  (∀ (k : Sect) (body : List Byte) (d : SectionData) (p q : Profile),
      k ≠ .scenes → checkBody k body = .ok d →
        loadCopy k (flashOf (sectionBytes (p.write d) k)) q = some (q.write d))
  ∧ (∀ (g : Fin 16 → List Byte) (q : Profile),
      let v : Vector Scene 16 := Vector.ofFn fun i => readScene (g i)
      loadCopy .scenes (flashOf (bytesScenes v)) q = some { q with scenes := v })

/-! ### Radio link -/

/-- A frame in error is dropped and counted: one of a bad length byte, or a gap over 1 ms, as FORMAT; one whose CRC does
not match, as CHECK. The refused count grows with it, the assembler hunts (or takes the 0xA6 that ended a gap), and the
context's state, timer, last sequence and missed-frame count, and every other record, stand (R5, R161). -/
def Obligations.FrameInErrorIsDropped : Prop :=
  ∀ s : State, lineFree s = true →
    let format : RadioCtx :=
      { s.radio with formatErrors := min 65535 (s.radio.formatErrors + 1), refused := s.radio.refused + 1 }
    let check : RadioCtx :=
      { s.radio with checkErrors := min 65535 (s.radio.checkErrors + 1), refused := s.radio.refused + 1 }
    (∀ f : RadioFrame, f.items = [] ∨ 16 < f.items.length →
      ∃ t, exec (.radioFrame f) s = .next t ∧ t.radio = format
        ∧ t.radioPort = { s.radioPort with assembler := .hunting } ∧ SameExcept [.radio, .radioPort] s t)
    ∧ (∀ f : RadioFrame, 1 ≤ f.items.length → f.items.length ≤ 16 → crc16 (frameBody f) ≠ f.crc →
      ∃ t, exec (.radioFrame f) s = .next t ∧ t.radio = check
        ∧ t.radioPort = { s.radioPort with assembler := .hunting } ∧ SameExcept [.radio, .radioPort] s t)
    ∧ (∀ b : Byte,
      ∃ t, exec (.interByteGap b) s = .next t ∧ t.radio = format
        ∧ t.radioPort = { s.radioPort with assembler := if b = 0xA6#8 then .collecting else .hunting }
        ∧ SameExcept [.radio, .radioPort] s t)
    ∧ (∀ l : Byte, l.toNat % 3 ≠ 0 ∨ l.toNat < 6 ∨ 51 < l.toNat →
      ∃ t, exec (.badLengthByte l) s = .next t ∧ t.radio = format
        ∧ t.radioPort = { s.radioPort with assembler := .hunting } ∧ SameExcept [.radio, .radioPort] s t)

/-- A valid frame with the receiver failsafe bit is counted and its sequence applied, and nothing of it is believed: the
context's state and timer, every slot, flag and the barred flag stand. Only the radio port's counts, and with a permit a
reply, come of it besides (R4, R6, R162). Every valid frame, with or without the bit, applies its sequence to the
missed-frame count: an absent last sequence adds nothing, a gap of 2 or more adds the gap less 1, gaps of 0 and 1 add
nothing, and the frame's sequence becomes the last one. It becomes absent when the radio lapses and at a reset (R6, R9). -/
def Obligations.ValidFramesAreCounted : Prop :=
  (∀ (s : State) (f : RadioFrame), lineFree s = true → FrameValid f → f.header.getLsbD 0 = true →
    ∃ t, exec (.radioFrame f) s = .next t
      ∧ t.radio =
          { s.radio with
            accepted := s.radio.accepted + 1
            missed := min 65535 (s.radio.missed + match s.radio.lastSeq with
              | some l => (frameSeq f - l).toNat - 1
              | none => 0)
            lastSeq := some (frameSeq f) }
      ∧ SameExcept [.radio, .radioPort, .notices] s t
      ∧ (f.header.getLsbD 1 = false →
          t.notices = s.notices
          ∧ t.radioPort =
              { s.radioPort with
                assembler := .hunting
                counts :=
                  ⟨min 255 (s.radioPort.counts.pack + 1), min 255 (s.radioPort.counts.cells + 1),
                    min 255 (s.radioPort.counts.winch + 1), min 255 (s.radioPort.counts.drive + 1),
                    min 255 (s.radioPort.counts.flags + 1)⟩ }))
  ∧ (∀ (s : State) (f : RadioFrame), lineFree s = true → FrameValid f →
    ∃ t, exec (.radioFrame f) s = .next t
      ∧ t.radio.lastSeq = some (frameSeq f) ∧ t.radio.accepted = s.radio.accepted + 1
      ∧ t.radio.missed = min 65535 (s.radio.missed + match s.radio.lastSeq with
          | some l => (frameSeq f - l).toNat - 1
          | none => 0))
  ∧ (∀ s : State, s.radio.state = .live →
      ∃ t, exec (.silenceTimerExpiry .radio) s = .next t ∧ t.radio.lastSeq = none)
  ∧ (∀ (s : State) (pins : Pins),
      (∃ t, exec (.powerOn pins) s = .next t ∧ t.radio.lastSeq = none)
      ∧ (∃ t, exec (.supplyDip pins) s = .next t ∧ t.radio.lastSeq = none)
      ∧ (∀ mosi, s.compPort.restartHeld = true → s.compPort.transfer ≠ .passedOver →
          consumes (answerSent s) mosi.length = true →
          ∃ t, exec (.companionTransfer mosi pins) s = .next t ∧ t.radio.lastSeq = none))

/-- A valid frame without the failsafe bit makes the radio LIVE and loads its timer. Where the radio was not LIVE,
RADIO_LIVE is raised, a DRIVE or WINCH slot that no item of the frame writes ends with its confirmed mark clear, and every
function is resolved at the change of presence, but a STEERMODE under a slew, which keeps its entry: a function that no item
of the frame writes has the entry of that resolution where no item of the frame goes to a BAR entry (R2, R3, R40, R45). What
the items do after it, the bar's own changes among them, is RadioItemWritesItsSlot. HOLD's value is the model's reading (log
entries 15 and 16). -/
def Obligations.ValidFrameMakesRadioLive : Prop :=
  ∀ (s : State) (f : RadioFrame), lineFree s = true → FrameValid f → f.header.getLsbD 0 = false →
    ∃ t, exec (.radioFrame f) s = .next t
      ∧ t.radio.state = .live ∧ t.radio.timer = s.profile.sources.radioSilence
      ∧ t.radio.accepted = s.radio.accepted + 1 ∧ t.radio.refused = s.radio.refused
      ∧ (s.radio.state ≠ .live →
          (s.profile.sources.compNotices.getLsbD 8 = true → t.notices.comp.getLsbD 8 = true)
          ∧ (frameWrites s f.items .drive = false → (slotOf t .radio .drive).confirmed = false)
          ∧ (frameWrites s f.items .winch = false → (slotOf t .radio .winch).confirmed = false)
          ∧ ((∀ x ∈ f.items, ∀ e, matchEntry s.profile.map (itemTag x) = some e → e.target ≠ .bar) →
              ∀ g, (∀ x ∈ f.items, ¬ItemWrites s g x) →
                (Resolvable s g → Resolved (effOf s g) (losesMark .radio s g) t g)
                ∧ (¬Resolvable s g → effOf t g = effOf s g)))
      ∧ SameExcept radioTouches s t

/-- The Channel Map's transforms: the five stages of a numeric target, the index of a discrete one with its 4, 3 or 16
values, and the writing of the result to the function's radio slot (R32, R33). -/
def Obligations.RadioItemTransforms : Prop :=
  ∀ (e : MapEntry) (f : Fn) (raw : Nat), raw < 4096 →
    (isNumeric f = true →
      let v1 : Int := (((raw : Int) - e.center) * 1000).tdiv e.halfSpan
      let v2 : Int := max (-1000) (min 1000 v1)
      let v3 : Int := if e.reverse then -v2 else v2
      let v4 : Int := if v3.natAbs ≤ e.deadband then 0 else v3
      demandOf e f raw = if f = .drag then max 0 (min 1000 v4) else v4)
    ∧ (isNumeric f = false →
      let k : Nat := match f with
        | .steermode => 4
        | .range => 3
        | _ => 16
      demandOf e f raw = (if e.reverse then k - 1 - raw * k / 4096 else raw * k / 4096 : Nat)
        ∧ 0 ≤ demandOf e f raw ∧ demandOf e f raw < k)
    ∧ (∀ s : State, e.target = .fn f → (fnMask s .radio).getLsbD (fnNumber f) = true →
        deliverTo e raw s = writeSlot .radio f (demandOf e f raw) s)

/-- A valid frame of one item, while the radio is LIVE, delivers its item by the lowest-numbered entry that matches. A
function within RADIO's mask has its radio slot written (value, offered value, age 0, the sequence advanced by a new
value, the confirmed mark set by a value within the neutral band; TAKEN, or FRESH for a STEERMODE that waits for the
slew) and, where the write changes state, value or mark, the function is resolved with what is then usable, its level,
source, trim and blend; a grant held on it counts a breakaway, ends at the second in a row, or for a discrete function
ends at a new value (R13, R20 to R23, R26, R31, R43 to R50, R55). Without a grant, an effective value that changed acts at
once in its own blocks and in no other: the winch state by the table of R104, a mode change by the gate, DRAG at once within
the band, the clear timers, the clamp of a RANGE, the drag level, the held STEER, the scene; one that stands is not handed on
(R40, R58, R62, R63, R77, R82, R87, R95, R104, R112, R147). A FLAG item sets or clears its crew flag alone (R34). A
BAR item that changes the barred flag raises BAR_CHANGED, clears the companion's marks where it unbars, and with a LIVE
companion ends every grant with LAPSE where it bars and has every function resolved; one that leaves the flag does nothing
more (R2, R11, R40). An item that no entry matches, or whose function lies outside the mask, is counted as unmatched and
writes no slot (R13, R31). A frame of any items, from a radio LIVE or not, delivers them in order, each whole before the next,
once the frame is heard; after the last, the breakaway of each function it wrote is tested once on the value left (R3, R35,
R55). The last item of a function leaves its value. HOLD's value, the gate in force,
its floored test at 0 and the stored recovery conditions are the model's (log entries 15, 16, 20, 49, 52). -/
def Obligations.RadioItemWritesItsSlot : Prop :=
  (∀ (s : State) (fr : RadioFrame) (x : RadioItem),
    lineFree s = true → FrameValid fr → fr.header.getLsbD 0 = false → s.radio.state = .live → fr.items = [x] →
      let raw := itemRaw x
      ∃ t, exec (.radioFrame fr) s = .next t
        ∧ SameExcept radioTouches s t
        ∧ (∀ (e : MapEntry) (f : Fn), matchEntry s.profile.map (itemTag x) = some e → e.target = .fn f →
            (fnMask s .radio).getLsbD (fnNumber f) = true → (slotOf s .radio f).state ≠ .fresh →
              let old := slotOf s .radio f
              let v := demandOf e f raw
              let marks := !old.confirmed && hasMark f && decide (v.natAbs ≤ s.profile.drive.neutralBand)
              let handed := old.state ≠ .taken ∨ old.value ≠ some v ∨ marks = true
              let waits := f = .steermode ∧ s.steering.state = .slewing
              slotOf t .radio f =
                  { old with
                    value := some v, offered := some v, age := 0
                    state := if waits ∧ handed then .fresh else .taken
                    seq := if old.value = some v then old.seq else old.seq + 1
                    confirmed := old.confirmed || marks }
              ∧ (∀ m g, g ≠ f → slotOf t m g = slotOf s m g)
              ∧ (∀ g, g ≠ f → effOf t g = effOf s g ∧ grantOf t g = grantOf s g)
              ∧ ((grantOf s f).held = none → grantOf t f = grantOf s f)
              ∧ ((grantOf s f).held = none → handed → ¬waits →
                  Resolved (effOf s f) marks t f ∧ HandsOver f s t ∧ UnderlyingHanded s t
                  ∧ (LimitEntered s t → s.profile.sources.compNotices.getLsbD 9 = true →
                      t.notices.comp.getLsbD 9 = true))
              ∧ ((grantOf s f).held = none → (¬handed ∨ waits) →
                  effOf t f = effOf s f ∧ SameExcept [.radio, .radioPort, .slots, .notices] s t)
              ∧ (∀ h, (grantOf s f).held = some h →
                  (isNumeric f = true → (authOf s f).breakaway ≤ v.natAbs → 1 ≤ h.breakaway →
                    grantOf t f = ⟨none, some .breakaway⟩
                      ∧ (s.profile.sources.compNotices.getLsbD 6 = true → t.notices.comp.getLsbD 6 = true))
                  ∧ (isNumeric f = true → (authOf s f).breakaway ≤ v.natAbs → h.breakaway = 0 →
                    grantOf t f = { grantOf s f with held := some { h with breakaway := 1 } })
                  ∧ (isNumeric f = true → v.natAbs < (authOf s f).breakaway →
                    grantOf t f = { grantOf s f with held := some { h with breakaway := 0 } })
                  ∧ (isNumeric f = false → old.value ≠ some v →
                    grantOf t f = ⟨none, some .breakaway⟩
                      ∧ (s.profile.sources.compNotices.getLsbD 6 = true → t.notices.comp.getLsbD 6 = true))
                  ∧ (isNumeric f = false → old.value = some v → grantOf t f = grantOf s f)))
        ∧ (∀ (e : MapEntry) (i : Fin 4), matchEntry s.profile.map (itemTag x) = some e → e.target = .flag i →
              (t.radio.flags.getLsbD i.val = true ↔ 2048 ≤ raw)
              ∧ (∀ j : Fin 4, j ≠ i → t.radio.flags.getLsbD j.val = s.radio.flags.getLsbD j.val)
              ∧ t.radio.unmatched = s.radio.unmatched ∧ SameExcept [.radio, .radioPort, .notices] s t)
        ∧ (∀ e : MapEntry, matchEntry s.profile.map (itemTag x) = some e → e.target = .bar →
              let b := decide (2048 ≤ raw)
              t.comp.barred = b ∧ t.comp.state = s.comp.state ∧ t.radio.flags = s.radio.flags
              ∧ t.radio.unmatched = s.radio.unmatched
              ∧ (s.comp.barred = b → SameExcept [.radio, .radioPort, .notices] s t)
              ∧ (s.comp.barred ≠ b →
                  (s.profile.sources.compNotices.getLsbD 7 = true → t.notices.comp.getLsbD 7 = true)
                  ∧ (b = true → s.comp.state = .live → ∀ f, (grantOf t f).held = none)
                  ∧ (b = true → s.comp.state = .live → ∀ f, (grantOf s f).held.isSome = true →
                      grantOf t f = ⟨none, some .lapse⟩
                        ∧ (s.profile.sources.compNotices.getLsbD 6 = true → t.notices.comp.getLsbD 6 = true))
                  ∧ (b = true → s.comp.state = .live →
                      ResolvedWhere (Resolvable s) (fun _ => false) (slotOf s) s t)
                  ∧ (b = false → s.comp.state = .live → MasterReturns .companion s t)
                  ∧ (b = true → s.comp.state ≠ .live → ∀ f, effOf t f = effOf s f ∧ grantOf t f = grantOf s f)
                  ∧ (b = false → s.comp.state ≠ .live →
                      ResolvedWhere (fun f => losesMark .companion s f = true) (losesMark .companion s)
                        (unconfirmed .companion s) s t)
                  ∧ (b = false →
                      (slotOf t .companion .drive).confirmed = false
                        ∧ (slotOf t .companion .winch).confirmed = false)))
        ∧ ((matchEntry s.profile.map (itemTag x) = none
              ∨ ∃ e f, matchEntry s.profile.map (itemTag x) = some e ∧ e.target = .fn f
                  ∧ (fnMask s .radio).getLsbD (fnNumber f) = false) →
            t.radio.unmatched = min 65535 (s.radio.unmatched + 1) ∧ t.radio.flags = s.radio.flags
              ∧ SameExcept [.radio, .radioPort, .notices] s t))
  ∧ (∀ (s : State) (fr : RadioFrame), lineFree s = true → FrameValid fr → fr.header.getLsbD 0 = false →
      ∃ u v w t, exec (.radioFrame fr) s = .next t
        ∧ FrameHeard fr s u ∧ InTurn ItemDelivered fr.items u v ∧ BreakawayTested fr.items u v w
        ∧ SameExcept [.radioPort, .notices] w t ∧ t.notices.comp = w.notices.comp
        ∧ (fr.header.getLsbD 1 = false → t.notices = w.notices)
        ∧ (∀ (before after : List RadioItem) (x : RadioItem) (e : MapEntry) (f : Fn),
            fr.items = before ++ x :: after → matchEntry s.profile.map (itemTag x) = some e → e.target = .fn f →
            (fnMask s .radio).getLsbD (fnNumber f) = true → (∀ y ∈ after, ¬ItemWrites s f y) →
            f ≠ .steermode → (slotOf s .radio f).state ≠ .fresh →
              (slotOf t .radio f).value = some (demandOf e f (itemRaw x))
              ∧ (slotOf t .radio f).age = 0 ∧ (slotOf t .radio f).state = .taken))

/-- The reply window: the delay's end starts the reply on the line, 40 µs a byte, and the end of its last byte frees the
line and sets the assembler hunting; where no such thing is under way, nothing happens (R161, R163). From the end of
the permitting frame to the end of the reply's last byte nothing is received: a frame, a gap or a length byte then
changes nothing (R161). -/
def Obligations.ReplyWindowOpensAndCloses : Prop :=
  (∀ s : State,
      (∀ bytes n, s.radioPort.reply = .delay bytes n →
        exec .replyDelayExpiry s =
            .next (s.setRadioPort { s.radioPort with reply := .sending bytes (40 * bytes.length) })
        ∧ exec .replyEnd s = .next s)
      ∧ (∀ bytes n, s.radioPort.reply = .sending bytes n →
        exec .replyEnd s = .next (s.setRadioPort { s.radioPort with reply := .none, assembler := .hunting })
        ∧ exec .replyDelayExpiry s = .next s)
      ∧ (s.radioPort.reply = .none → exec .replyDelayExpiry s = .next s ∧ exec .replyEnd s = .next s))
  ∧ (∀ s : State, s.radioPort.reply ≠ .none →
      (∀ f, exec (.radioFrame f) s = .next s) ∧ (∀ b, exec (.interByteGap b) s = .next s)
      ∧ (∀ l, exec (.badLengthByte l) s = .next s))

/-- The reply scan of a permitting frame, with or without the failsafe bit: the frame leaves what the same frame without
the permit would leave, with the scan taken on that. There the counts have grown by one; of the slots that are due, in the
order ALERT, PACK, CELLS, WINCH, DRIVE, FLAGS, the first goes out after the reply delay, with its payload from the state
as it stands. A picked ALERT takes its lead notice out of the RADIO set; another picked slot has its count set to 0; the
other counts stand. ALERT is due while the set is not empty and ALERT is enabled, another slot while its interval is not 0
and its count has reached it. With nothing due no reply starts and nothing else happens (R162, R163). -/
def Obligations.ReplyScanPicksTheLowestDueSlot : Prop :=
  ∀ (s : State) (f plain : RadioFrame), lineFree s = true → FrameValid f → FrameValid plain →
    f.header.getLsbD 1 = true → plain.header = f.header &&& 0xFD#8 → plain.items = f.items →
      ∃ u t, exec (.radioFrame plain) s = .next u ∧ exec (.radioFrame f) s = .next t ∧
        let p := u.profile.reply
        let c := u.radioPort.counts
        let due (k : ReplySlot) : Prop := match k with
          | .alert => u.notices.radio ≠ 0 ∧ p.alertEnable = true
          | .pack => p.packEvery ≠ 0 ∧ p.packEvery ≤ c.pack
          | .cells => p.cellsEvery ≠ 0 ∧ p.cellsEvery ≤ c.cells
          | .winch => p.winchEvery ≠ 0 ∧ p.winchEvery ≤ c.winch
          | .drive => p.driveEvery ≠ 0 ∧ p.driveEvery ≤ c.drive
          | .flags => p.flagsEvery ≠ 0 ∧ p.flagsEvery ≤ c.flags
        c = ⟨min 255 (s.radioPort.counts.pack + 1), min 255 (s.radioPort.counts.cells + 1),
              min 255 (s.radioPort.counts.winch + 1), min 255 (s.radioPort.counts.drive + 1),
              min 255 (s.radioPort.counts.flags + 1)⟩
        ∧ u.radioPort.reply = .none ∧ u.profile = s.profile
        ∧ ((∀ k, ¬due k) → t = u)
        ∧ (∀ k, due k → (∀ j, (replyKind j).toNat < (replyKind k).toNat → ¬due j) →
            (∃ payload, CarriesReply u k payload
              ∧ t.radioPort.reply = .delay (radioReply (replyKind k) payload) p.delay)
            ∧ SameExcept [.radioPort, .notices] u t
            ∧ (k = .alert →
                t.radioPort.counts = c
                ∧ ∃ n, lead u.notices.radio = some n
                    ∧ t.notices = ⟨dropMember u.notices.radio n, u.notices.comp⟩)
            ∧ (k ≠ .alert →
                t.notices = u.notices
                ∧ t.radioPort.counts.pack = (if k = .pack then 0 else c.pack)
                ∧ t.radioPort.counts.cells = (if k = .cells then 0 else c.cells)
                ∧ t.radioPort.counts.winch = (if k = .winch then 0 else c.winch)
                ∧ t.radioPort.counts.drive = (if k = .drive then 0 else c.drive)
                ∧ t.radioPort.counts.flags = (if k = .flags then 0 else c.flags)))

/-! ### Source contexts -/

/-- The expiry of a master's silence timer: LIVE becomes LAPSED, the timer stops and the four crew flags clear. For the
radio the last sequence becomes absent, RADIO_LAPSED is raised and every grant on a tethered function ends with TETHER; for
the companion, unless it was barred, every grant ends with LAPSE, each end raising GRANT_ENDED. With the radio, and with a
companion that was not barred, every function is then resolved by what is still present, but a STEERMODE under a slew, which
keeps its entry. A context that is not LIVE has no timer to expire (R2, R9, R40, R45, R56). HOLD's value is the model's
reading (log entries 15 and 16). -/
def Obligations.SilenceExpiryLapses : Prop :=
  ∀ s : State,
    (s.radio.state = .live →
      ∃ t, exec (.silenceTimerExpiry .radio) s = .next t
        ∧ t.radio = { s.radio with state := .lapsed, timer := 0, lastSeq := none, flags := 0 }
        ∧ Raised .radioLapsed s t ∧ (∀ f, (authOf s f).tethered = true → (grantOf t f).held = none)
        ∧ (∀ f, (Resolvable s f → Resolved (effOf s f) false t f) ∧ (¬Resolvable s f → effOf t f = effOf s f))
        ∧ MasterLost .radio s t
        ∧ SameExcept (.radio :: resolveTouches) s t)
    ∧ (s.comp.state = .live →
      ∃ t, exec (.silenceTimerExpiry .companion) s = .next t
        ∧ t.comp = { s.comp with state := .lapsed, timer := 0, flags := 0 }
        ∧ (s.comp.barred = false → ∀ f, (grantOf t f).held = none)
        ∧ (s.comp.barred = false →
            (∀ f, (Resolvable s f → Resolved (effOf s f) false t f) ∧ (¬Resolvable s f → effOf t f = effOf s f))
            ∧ MasterLost .companion s t)
        ∧ (s.comp.barred = true → SameExcept [.comp] s t)
        ∧ SameExcept (.comp :: resolveTouches) s t)
    ∧ (s.radio.state ≠ .live → exec (.silenceTimerExpiry .radio) s = .next s)
    ∧ (s.comp.state ≠ .live → exec (.silenceTimerExpiry .companion) s = .next s)

/-! ### Demand table -/

/-- A DEMAND of one pair, from a companion that is not barred and reaches it, on a slot that does not wait writes the value
brought to the function's range to the companion slot and answers OK. The slot is TAKEN at once; a STEERMODE that changes
while the rear axle slews is FRESH and waits, and its entry stands. On a return from ABSENT or LAPSED the old
confirmed mark does not count. From a LIVE companion, a write that changes the slot's state, value or mark resolves the
function with what is then usable, its level, source, trim and blend; another write leaves the effective record (R7, R20
to R22, R26, R28, R40 to R50). A DEMAND of several pairs answers for each, in order, OK or the cause that refuses it (VALUE
for a number above 6, REACH outside the mask, VALUE for a discrete value outside its enumeration), adds each cause to the
cause set, is counted as accepted, and leaves in each slot the last value that was not refused (R28). Its pairs are taken in
order, each whole before the next, on any slot, waiting or not, once the companion is heard and, where it returns, every
function is resolved at its presence (R2, R7, R21 to R23, R28). An effective value
that changed acts at once in its own blocks and in no other, by the rules of those blocks (R40, R58, R77, R82, R87, R95, R104,
R112, R147), and an underlying DRIVE that changed in CUTOFF starts, keeps or stops the recovery dwell timer (R137). HOLD's
value, the stored recovery conditions, the gate in force and its floored test at 0 are the model's (log entries 15, 16, 20,
49 and 52). -/
def Obligations.DemandPairIsWritten : Prop :=
  (∀ (s : State) (x : DemandPair) (f : Fn),
    CellsFree s → s.comp.barred = false → fnOfNumber x.fn.toNat = some f →
    (fnMask s .companion).getLsbD (fnNumber f) = true →
    (isNumeric f = true ∨ InRange f x.value.toInt) → (slotOf s .companion f).state ≠ .fresh →
      let old := slotOf s .companion f
      let v : Int := max (fnLow f) (min (fnHigh f) x.value.toInt)
      ∃ t, exec (.demand [x]) s = .next t
        ∧ (slotOf t .companion f).value = some v ∧ (slotOf t .companion f).offered = some v
        ∧ (f ≠ .steermode → (slotOf t .companion f).state = .taken) ∧ (slotOf t .companion f).age = 0
        ∧ (f = .steermode →
            let waits := s.steering.state = .slewing ∧ (old.state ≠ .taken ∨ old.value ≠ some v)
            (s.comp.state = .live ∨ s.steering.state = .slewing →
              (slotOf t .companion f).state = if waits then .fresh else .taken)
            ∧ (s.steering.state = .slewing → effOf t f = effOf s f)
            ∧ (t.steering.state ≠ .slewing → (slotOf t .companion f).state = .taken))
        ∧ (slotOf t .companion f).seq = (if old.value = some v then old.seq else old.seq + 1)
        ∧ (slotOf t .companion f).superseded = old.superseded
        ∧ (hasMark f = true →
            (slotOf t .companion f).confirmed =
              ((decide (s.comp.state = .live) && old.confirmed) || decide (v.natAbs ≤ s.profile.drive.neutralBand)))
        ∧ t.comp.state = .live ∧ Answered .demand [0] s t ∧ SameExcept requestTouches s t
        ∧ (s.comp.state = .live →
            let marks := !old.confirmed && hasMark f && decide (v.natAbs ≤ s.profile.drive.neutralBand)
            let handed := old.state ≠ .taken ∨ old.value ≠ some v ∨ marks = true
            (handed → Resolvable s f →
                Resolved (effOf s f) marks t f ∧ HandsOver f s t ∧ UnderlyingHanded s t
                ∧ (LimitEntered s t → Raised .winchLimit s t))
              ∧ (¬handed ∨ ¬Resolvable s f → SameExcept [.slots, .comp, .compPort] s t)
              ∧ (∀ g, g ≠ f → effOf t g = effOf s g)))
  ∧ (∀ (s : State) (pairs : List DemandPair), CellsFree s → s.comp.barred = false →
      1 ≤ pairs.length → pairs.length ≤ 7 →
      ∃ t, exec (.demand pairs) s = .next t
        ∧ Answered .demand (pairs.map fun x => BitVec.ofNat 8 (pairResult s x)) s t
        ∧ t.comp.refused = s.comp.refused
        ∧ (∀ c, t.comp.causes.getLsbD c = true ↔
            s.comp.causes.getLsbD c = true ∨ c ≠ 0 ∧ ∃ x ∈ pairs, pairResult s x = c)
        ∧ (∀ (before after : List DemandPair) (x : DemandPair) (f : Fn),
            pairs = before ++ x :: after → fnOfNumber x.fn.toNat = some f → f ≠ .steermode →
            (slotOf s .companion f).state ≠ .fresh → pairResult s x = 0 →
            (∀ y ∈ after, fnOfNumber y.fn.toNat = some f → pairResult s y ≠ 0) →
              (slotOf t .companion f).value = some (max (fnLow f) (min (fnHigh f) x.value.toInt))
              ∧ (slotOf t .companion f).age = 0 ∧ (slotOf t .companion f).state = .taken)
        ∧ (∀ f, (∀ x ∈ pairs, fnOfNumber x.fn.toNat = some f → pairResult s x ≠ 0) →
            (slotOf t .companion f).value = (slotOf s .companion f).value
            ∧ (slotOf t .companion f).seq = (slotOf s .companion f).seq)
        ∧ SameExcept requestTouches s t)
  ∧ (∀ (s : State) (pairs : List DemandPair), CellsFree s → s.comp.barred = false →
      1 ≤ pairs.length → pairs.length ≤ 7 →
      ∃ u v t, exec (.demand pairs) s = .next t
        ∧ DemandHeard s u ∧ InTurn PairTaken pairs u v ∧ SameExcept [.comp, .compPort] v t)

/-- A write to a STEERMODE slot that waits while the rear axle slews: the value held or the last one offered is a repeat
that changes only the age and the offered value; any other supersedes, and KEEP discards it where OVERWRITE takes it. The
effective STEERMODE stands either way (R23, R45). -/
def Obligations.WaitingSlotSupersedes : Prop :=
  ∀ (s : State) (x : DemandPair),
    RequestReady s → s.comp.barred = false → x.fn.toNat = 2 → 0 ≤ x.value.toInt → x.value.toInt ≤ 3 →
    (fnMask s .companion).getLsbD 2 = true → s.steering.state = .slewing →
    (slotOf s .companion .steermode).state = .fresh →
      let old := slotOf s .companion .steermode
      let v := x.value.toInt
      ∃ t, exec (.demand [x]) s = .next t
        ∧ slotOf t .companion .steermode =
            (if old.value = some v ∨ old.offered = some v then { old with age := 0, offered := some v }
            else if (authOf s .steermode).keep then
              { old with age := 0, offered := some v, superseded := min 255 (old.superseded + 1) }
            else
              { old with
                age := 0, offered := some v, superseded := min 255 (old.superseded + 1)
                value := some v, seq := old.seq + 1 })
        ∧ effOf t .steermode = effOf s .steermode ∧ Answered .demand [0] s t

/-- A TAKEN numeric slot that outlives its hold time goes STALE and keeps its value; with a companion slot a grant on its
function ends with reason STALE. The function is resolved without that slot: its entry has the level, source and value that
are then left to decide it, and every other entry and grant stands. Where no grant ends, a changed effective value acts in
its own blocks and in no other. A slot of a discrete function, or one that is not TAKEN, does not go STALE (R24, R40, R42 to
R50, R56). HOLD's value and the stored recovery conditions are the model's readings (log entries 15, 16 and 20). -/
def Obligations.SlotGoesStale : Prop :=
  ∀ (s : State) (m : Master) (f : Fn),
    (isNumeric f = true → (slotOf s m f).state = .taken →
      ∃ t, exec (.slotStale m f) s = .next t
        ∧ (slotOf t m f).state = .stale ∧ (slotOf t m f).value = (slotOf s m f).value
        ∧ (slotOf t m f).seq = (slotOf s m f).seq ∧ (slotOf t m f).confirmed = (slotOf s m f).confirmed
        ∧ usable t m f = false
        ∧ (m = .companion → (grantOf s f).held.isSome = true →
            grantOf t f = ⟨none, some .stale⟩ ∧ Raised .grantEnded s t)
        ∧ (m = .radio ∨ (grantOf s f).held = none → grantOf t f = grantOf s f)
        ∧ Resolved (effOf s f) false t f
        ∧ (∀ g, g ≠ f → effOf t g = effOf s g ∧ grantOf t g = grantOf s g)
        ∧ (m = .radio ∨ (grantOf s f).held = none →
            HandsOver f s t ∧ UnderlyingHanded s t ∧ (LimitEntered s t → Raised .winchLimit s t))
        ∧ (∀ m' g, g ≠ f → slotOf t m' g = slotOf s m' g)
        ∧ SameExcept resolveTouches s t)
    ∧ (isNumeric f = false ∨ (slotOf s m f).state ≠ .taken → exec (.slotStale m f) s = .next s)

/-! ### Grants and blends -/

/-- A GRANT whose checks all pass: the grant is HELD for the duration clamped to 100..30 000 ms with no breakaway counted,
the answer carries OK and that duration, the COMPANION slot decides at the GRANT level unless STEERMODE's consumer is busy,
and no other function's grant changes. The nine checks are taken in order: the first that fails refuses the request with
its cause (R42, R52). -/
def Obligations.GrantBeginsOrIsRefused : Prop :=
  (∀ (s : State) (n : Byte) (duration : BitVec 16) (f : Fn),
    RequestReady s → s.comp.barred = false → fnOfNumber n.toNat = some f →
    (fnMask s .companion).getLsbD (fnNumber f) = true → (grantOf s f).held = none → locked s f = false →
    (authOf s f).takeover = true → usable s .companion f = true →
    ((authOf s f).tethered = true → s.radio.state = .live) →
    ((authOf s f).tethered = true → isNumeric f = true →
      (((slotOf s .radio f).value).getD 0).natAbs < (authOf s f).breakaway / 2) →
      let d := max 100 (min 30000 duration.toNat)
      ∃ t, exec (.grant n duration) s = .next t
        ∧ grantOf t f = ⟨some ⟨d, 0⟩, (grantOf s f).lastEnd⟩ ∧ (∀ g, g ≠ f → grantOf t g = grantOf s g)
        ∧ (f ≠ .steermode ∨ s.steering.state ≠ .slewing →
            (effOf t f).level = .grant ∧ (effOf t f).source = .companion
            ∧ (effOf t f).target = ((slotOf s .companion f).value).getD 0)
        ∧ Answered .grant (0 :: putU 2 d) s t ∧ SameExcept requestTouches s t)
  ∧ (∀ (s : State) (n : Byte) (duration : BitVec 16), RequestReady s →
    (6 < n.toNat → Refuses (.grant n duration) .value 0x02 s)
    ∧ (∀ f, fnOfNumber n.toNat = some f →
        (s.comp.barred = true → Refuses (.grant n duration) .barred 0x02 s)
        ∧ (s.comp.barred = false →
            ((fnMask s .companion).getLsbD (fnNumber f) = false → Refuses (.grant n duration) .reach 0x02 s)
            ∧ ((fnMask s .companion).getLsbD (fnNumber f) = true →
                ((grantOf s f).held.isSome = true → Refuses (.grant n duration) .grantHeld 0x02 s)
                ∧ ((grantOf s f).held = none →
                    (locked s f = true → Refuses (.grant n duration) .locked 0x02 s)
                    ∧ (locked s f = false →
                        ((authOf s f).takeover = false ∨ usable s .companion f = false
                          ∨ ((authOf s f).tethered = true ∧ s.radio.state ≠ .live)
                          ∨ ((authOf s f).tethered = true ∧ isNumeric f = true ∧
                              (authOf s f).breakaway / 2 ≤ (((slotOf s .radio f).value).getD 0).natAbs)) →
                        Refuses (.grant n duration) .denied 0x02 s))))))

/-- A grant ends by RELEASE with reason RELEASE, and when its time runs out with reason EXPIRY: the record goes to NONE,
GRANT_ENDED is raised and the function leaves the GRANT level unless STEERMODE's consumer is busy. Without a grant a
RELEASE is refused NOGRANT, after its VALUE and REACH checks, and an expiry finds nothing (R51, R53, R54). -/
def Obligations.GrantEnds : Prop :=
  ∀ (s : State) (f : Fn),
    ((grantOf s f).held.isSome = true →
      ∃ t, exec (.grantExpiry f) s = .next t ∧ grantOf t f = ⟨none, some .expiry⟩ ∧ Raised .grantEnded s t
        ∧ (f ≠ .steermode ∨ s.steering.state ≠ .slewing → (effOf t f).level ≠ .grant)
        ∧ (∀ g, g ≠ f → grantOf t g = grantOf s g) ∧ SameExcept resolveTouches s t)
    ∧ ((grantOf s f).held = none → exec (.grantExpiry f) s = .next s)
    ∧ (∀ n : Byte, RequestReady s → fnOfNumber n.toNat = some f →
        ((fnMask s .companion).getLsbD (fnNumber f) = true → (grantOf s f).held.isSome = true →
          ∃ t, exec (.release n) s = .next t ∧ grantOf t f = ⟨none, some .release⟩ ∧ Raised .grantEnded s t
            ∧ (f ≠ .steermode ∨ s.steering.state ≠ .slewing → (effOf t f).level ≠ .grant)
            ∧ (∀ g, g ≠ f → grantOf t g = grantOf s g) ∧ Answered .release [0] s t
            ∧ SameExcept requestTouches s t)
        ∧ ((fnMask s .companion).getLsbD (fnNumber f) = true → (grantOf s f).held = none →
            Refuses (.release n) .noGrant 0x03 s)
        ∧ ((fnMask s .companion).getLsbD (fnNumber f) = false → Refuses (.release n) .reach 0x03 s))
    ∧ (∀ n : Byte, RequestReady s → 6 < n.toNat → Refuses (.release n) .value 0x03 s)

/-- What an accepted PROFILE_WRITE does at once in the contexts, the demand table and the resolver. SOURCES: where a function
mask changed, grants out of COMPANION's reach end MAPCHANGE and every function is resolved; with the masks as they were
nothing else changes. AUTHORITY: takeover and tether end grants MAPCHANGE, then older TAKEN slots go STALE and end theirs,
then every function is resolved by the new map. FAILSAFE: only the functions whose content changed are resolved, and one that
a higher level decides keeps its entry (R14, R18, R25, R29, R39, R40). HOLD's value (log entries 15 and 16), a function above
FAILSAFE being resolved too (30) and the order of slots going STALE (45) are the model's readings. -/
def Obligations.ResolverSectionsAct : Prop :=
  ∀ (s : State) (sect : Byte) (k : Sect) (body : List Byte), WritePasses s sect k body →
    ∃ t, exec (.profileWrite sect body) s = .next t
      ∧ (k = .sources → SourcesAct s t)
      ∧ (k = .authority → AuthorityActs s t)
      ∧ (k = .failsafe → FailsafeActs s t)

/-- A blend step moves the effective value along the line from the blend's start to the target as it now stands, 10 ms
further, and at or past the blend time to the target, where the blend ends. It is stated where the same master goes on
deciding above FAILSAFE; no other function's entry changes (R49). -/
def Obligations.BlendStepMoves : Prop :=
  ∀ (s : State) (f : Fn),
    (∀ (b : Blend) (v : Int),
      (effOf s f).blend = some b → isNumeric f = true → locked s f = false →
      (decision s f).level ≠ .failsafe → (decision s f).value = some v →
      mastersChange (effOf s f).source (decision s f).source = false →
        ∃ t, exec (.blendStep f) s = .next t
          ∧ (effOf t f).target = v ∧ (effOf t f).level = (decision s f).level
          ∧ (b.elapsed + 10 < b.time →
              effective t f = b.start + ((v - b.start) * ((b.elapsed + 10 : Nat) : Int)).tdiv b.time
              ∧ (effOf t f).blend = some ⟨b.start, b.elapsed + 10, b.time, 10⟩)
          ∧ (b.time ≤ b.elapsed + 10 → effective t f = v ∧ (effOf t f).blend = none)
          ∧ (∀ g, g ≠ f → effOf t g = effOf s g) ∧ SameExcept resolveTouches s t)
    ∧ ((effOf s f).blend = none → exec (.blendStep f) s = .next s)

/-! ### Steering -/

/-- A steering update while SETTLED: the targets of the mode and the held STEER, both outputs at their targets, the pulses
and the geometry record formed from them, the frame timer reloaded and the speed gate brought into force (held in a field of
the model's own, log entry 49); nothing else changes. That the record of parallel axles takes the next sequence and replaces
the old one too is the model's choice (log entry 53; R59 to R61, R68, R73 to R75). -/
def Obligations.SteeringUpdateSettled : Prop :=
  ∀ s : State, s.steering.state = .settled →
    let g := s.profile.geometry
    let a : Int := (s.steering.heldSteer * g.maxAngle).tdiv 1000
    let front : Int := if s.steering.mode = .rear then 0 else a
    let rear : Int := match s.steering.mode with
      | .front => 0
      | .counter => -((a * g.rearRatio).tdiv 100)
      | .crab => (a * g.rearRatio).tdiv 100
      | .rear => -a
    let pulse (v : Servo) (angle : Int) : Int :=
      max v.low (min v.high (v.centre + ((if v.reverse then -angle else angle) * v.rate).tdiv 10))
    ∃ t, exec .steeringUpdate s = .next t
      ∧ t.steering =
          { s.steering with
            frontTarget := front, rearTarget := rear, frontOut := front, rearOut := rear
            frontPulse := pulse g.front front, rearPulse := pulse g.rear rear
            geometry := geometryOf g s.steering.geometry front rear
            frameTimer := g.framePeriod, gate := g.speedGate }
      ∧ SameExcept [.steering] s t

/-- A steering update while SLEWING moves the rear output toward its target of the next mode by at most the rear slew. Short
of the target only the steering changes and the slew goes on; at the target the mode becomes the next mode, MODE_SETTLED is
raised, and STEERMODE is resolved, so that the steering is SETTLED unless the effective STEERMODE moved. In WAITING, a mean
wheel speed at or below the gate begins the slew in this same update, and a higher one leaves it waiting. Every update
brings the GEOMETRY section's speed gate into force, held in a field of the model's own (log entry 49); that the
floored mean is tested at a gate of 0 too is the model's choice (log entry 52; R60, R62, R64, R65, R75). -/
def Obligations.SlewStepsToSettled : Prop :=
  ∀ (s : State) (m : SteerMode), s.steering.next = some m →
    (s.steering.state = .slewing →
      let a := baseAngle s.profile.geometry s.steering.heldSteer
      let target := rearTargetOf m a s.profile.geometry.rearRatio
      let rear : Int :=
        if s.steering.rearOut < target then min target (s.steering.rearOut + s.profile.geometry.rearSlew)
        else max target (s.steering.rearOut - s.profile.geometry.rearSlew)
      ∃ t, exec .steeringUpdate s = .next t
        ∧ t.steering.rearOut = rear ∧ t.steering.rearTarget = target ∧ t.steering.frontOut = frontTargetOf m a
        ∧ (rear ≠ target →
            t.steering.state = .slewing ∧ t.steering.next = some m ∧ t.steering.mode = s.steering.mode
            ∧ SameExcept [.steering] s t)
        ∧ (rear = target →
            t.steering.mode = m ∧ Raised .modeSettled s t
            ∧ (effective t .steermode = effective s .steermode →
                t.steering.state = .settled ∧ t.steering.next = none)
            ∧ SameExcept resolveTouches s t))
    ∧ (s.steering.state = .waiting → meanSpeed s ≤ s.profile.geometry.speedGate →
        exec .steeringUpdate s = exec .steeringUpdate (enterSlew m s) ∧ busy (enterSlew m s) = true)
    ∧ (s.steering.state = .waiting → s.profile.geometry.speedGate < meanSpeed s →
        ∃ t, exec .steeringUpdate s = .next t ∧ t.steering.state = .waiting ∧ t.steering.next = some m
          ∧ t.steering.mode = s.steering.mode ∧ SameExcept [.steering] s t)
    ∧ (∃ t, exec .steeringUpdate s = .next t ∧ t.steering.gate = s.profile.geometry.speedGate)

/-- The geometry record of two output angles within ±450: axles whose tangents lie within 16 of each other are parallel,
with four ratios of 1024 and no centre; otherwise each ratio is its wheel's share of the largest distance, negative across
the centre, 0 where that is not allowed, and blended by the strength, and the pivot flag is set where some wheel lies across
the centre, whether or not its ratio is then kept. The four ratios lie in −1024..1024, and the largest of
them is exactly 1024 (R68 to R72). The sequence grows by one, which for parallel axles is the model's choice (log entry 53;
R73). -/
def Obligations.TurnRatios : Prop :=
  ∀ (g : Geometry) (old : GeometryRec) (front rear : Int),
    150 ≤ g.wheelbase → g.wheelbase ≤ 450 → 100 ≤ g.track → g.track ≤ 350 → g.strength ≤ 100 →
    -450 ≤ front → front ≤ 450 → -450 ≤ rear → rear ≤ 450 →
      let r := geometryOf g old front rear
      let d := tanOf front - tanOf rear
      r.seq = old.seq + 1
      ∧ (d.natAbs < 16 →
          r = { ratios := ⟨1024, 1024, 1024, 1024⟩, parallel := true, pivot := false, x0 := 0, y0 := none,
                seq := old.seq + 1 })
      ∧ (16 ≤ d.natAbs →
          r.parallel = false
          ∧ (r.pivot = true ↔
              ∃ w y0, r.y0 = some y0 ∧ wheelY g w - y0 ≠ 0 ∧ -y0 ≠ 0 ∧ (0 < wheelY g w - y0 ↔ -y0 < 0))
          ∧ ∃ y0 : Int, r.y0 = some y0 ∧ y0 = (2 * (g.wheelbase : Int) * 4096).tdiv d
            ∧ r.x0 = g.wheelbase - (y0 * tanOf front).tdiv 4096
            ∧ ∀ w,
                let share : Int := wheelDistance g r.x0 y0 w * 1024 / maxDistance g r.x0 y0
                let across := wheelY g w - y0 ≠ 0 ∧ -y0 ≠ 0 ∧ (0 < wheelY g w - y0 ↔ -y0 < 0)
                let signed : Int := if across then -share else share
                let kept : Int := if signed < 0 ∧ g.pivotAllowed = false then 0 else signed
                r.ratios.get w = 1024 - ((1024 - kept) * g.strength).tdiv 100)
      ∧ (∀ w, -1024 ≤ r.ratios.get w ∧ r.ratios.get w ≤ 1024) ∧ (∃ w, r.ratios.get w = 1024)

/-! ### Wheel drive -/

/-- A hall edge after a stop only starts an interval; one less than 50 µs after the last accepted edge is ignored; any
other gives the speed of its interval with the sign of the last drive sign. With 250 ms and no edge the speed is 0. The
other channels stand, and the still timer is held at 0 while any speed is not 0 (R78, R79, R96). -/
def Obligations.WheelSpeedFromEdges : Prop :=
  ∀ (s : State) (w : Wheel) (micros : Nat),
    let c := chan s w
    let p := s.profile.drive
    let interval := c.carry + micros
    (c.timing = false →
      ∃ t, exec (.hallEdge w micros) s = .next t ∧ chan t w = { c with timing := true, carry := 0, edgeIdle := 0 }
        ∧ (∀ v, v ≠ w → chan t v = chan s v) ∧ SameExcept [.drive] s t)
    ∧ (c.timing = true → interval < 50 →
      ∃ t, exec (.hallEdge w micros) s = .next t ∧ chan t w = { c with carry := interval }
        ∧ (∀ v, v ≠ w → chan t v = chan s v) ∧ SameExcept [.drive] s t)
    ∧ (c.timing = true → 50 ≤ interval →
      let size : Int := (min 32767 (p.circumference * 1000000 / (p.edgesPerRev * interval)) : Nat)
      ∃ t, exec (.hallEdge w micros) s = .next t
        ∧ chan t w =
            { c with carry := 0, edgeIdle := 0, speed := if c.lastReverse then -size else size }
        ∧ (size ≠ 0 → t.drive.still = 0)
        ∧ (∀ v, v ≠ w → chan t v = chan s v) ∧ SameExcept [.drive] s t)
    ∧ (∃ t, exec (.speedTimeout w) s = .next t
        ∧ chan t w = { c with speed := 0, timing := false, carry := 0, edgeIdle := 250 }
        ∧ (∀ v, v ≠ w → chan t v = chan s v) ∧ t.drive.still = s.drive.still ∧ SameExcept [.drive] s t)

/-- An update of a channel in RUN, or in DRAG with the effective DRIVE outside the neutral band, which enters RUN with its
duty at 0: the command by range, sync cap, ratio and transition limit, the slip and limiter trims, the duty target, the duty
moved by at most the acceleration step and held within the top, and the claim. The slip trim grows where this channel and
at least one other qualify (RUN, a command of 50 or more, a ratio not 0; its own of this update, the others' of their last),
the mean normalised speed of the others is at least 50, and its own lies above the threshold they give (R85). The last drive sign follows a nonzero duty
and the bridge drives at the duty, or is off at duty 0 (R77, R79); that the speed takes a new sign at once is the model's
reading of R79 (log entry 10). With the ratio, cap and DRIVE within their ranges the command's magnitude is at most the
top (R82 to R87, R89). -/
def Obligations.WheelUpdateRunsTheChain : Prop :=
  ∀ (s : State) (w : Wheel),
    ((chan s w).state = .run ∨ (chan s w).state = .drag) →
    s.profile.drive.neutralBand < (effective s .drive).natAbs →
      let c : Channel := if (chan s w).state = .run then chan s w else toRun (chan s w)
      let top : Nat := topDuty s
      let ratio := s.steering.geometry.ratios.get w
      let r : Int := (effective s .drive * top).tdiv 1000
      let v : Int := (r * s.winch.sync.cap).tdiv 1000
      let x : Int := (v * ratio).tdiv 1024
      let limit : Int := s.profile.geometry.transition
      let command : Int := if s.steering.state = .slewing then max (-limit) (min limit x) else x
      let qualifies (u : Channel) : Bool := decide (u.state = .run ∧ 50 ≤ u.command.natAbs ∧ u.ratio ≠ 0)
      let speed (u : Channel) : Nat := u.speed.natAbs * 1024 / u.ratio.natAbs
      let own : Channel := { c with state := .run, command := command, ratio := ratio }
      let others : List Channel :=
        ([.fl, .fr, .rl, .rr].filter fun u => decide (u ≠ w)).map (chan s) |>.filter qualifies
      let mean : Nat := (others.map speed).sum / others.length
      let slipping := qualifies own = true ∧ others ≠ [] ∧ 50 ≤ mean
        ∧ mean * (100 + s.profile.drive.slipMargin) / 100 < speed own
      let slip : Nat := if slipping then min 600 (c.slip + 10) else c.slip - 2
      let limiter : Nat :=
        if c.limit < c.current then min 1000 (c.limiter + 20)
        else if c.current ≤ c.limit * 15 / 16 then c.limiter - 5
        else c.limiter
      let target : Int := (((command * (1000 - (slip : Int))).tdiv 1000) * (1000 - (limiter : Int))).tdiv 1000
      let moved : Int :=
        if c.duty < target then min target (c.duty + s.profile.drive.accel)
        else max target (c.duty - s.profile.drive.accel)
      let duty : Int := max (-(top : Int)) (min top moved)
      let reverse : Bool := if duty = 0 then c.lastReverse else decide (duty < 0)
      (∃ t, exec (.wheelUpdate w) s = .next t
        ∧ chan t w =
            { c with
              state := .run, command := command, ratio := ratio, slip := slip, limiter := limiter, target := target
              duty := duty
              lastReverse := reverse
              speed := if reverse then -(c.speed.natAbs : Int) else c.speed.natAbs
              claim := s.profile.drive.imax * command.natAbs / 1000
              timer := 2 }
        ∧ wheelBridge (chan t w) = (if duty = 0 then .off else .driven duty)
        ∧ (∀ u, u ≠ w → chan t u = chan s u) ∧ SameExcept channelTouches s t)
      ∧ ((effective s .drive).natAbs ≤ 1000 → s.winch.sync.cap ≤ 1000 → ratio.natAbs ≤ 1024 →
          x.natAbs ≤ v.natAbs ∧ v.natAbs ≤ r.natAbs ∧ r.natAbs ≤ top)

/-- An update of a channel that stays out of RUN lets the slip trim fall by 2 and the limiter trim by 5 and does nothing
else; a channel in RUN with the effective DRIVE within the neutral band goes to DRAG at the effective DRAG, with
command, duty target, duty and claim 0 (R82, R88). The retry timer of a TRIPPED channel leads to DRAG or RUN by the
effective DRIVE, with the duty at 0; the clear timer of a LOCKED_OUT channel leads to DRAG with the trip list emptied. The
still timer's expiry, while all four speeds are 0, brings the timer to 500, which is the model's reading (log entry 39).
That each does nothing where its timer does not run is the model's reading too (log entry 3; R93, R95, R96). In DRAG the
bridge shorts the motor at the drag level, and in TRIPPED and LOCKED_OUT it is off (R77). -/
def Obligations.ChannelsOutsideRun : Prop :=
  (∀ (s : State) (w : Wheel),
      let c := chan s w
      let band := (effective s .drive).natAbs ≤ s.profile.drive.neutralBand
      ((c.state = .tripped ∨ c.state = .lockedOut ∨ (c.state = .drag ∧ band)) →
        ∃ t, exec (.wheelUpdate w) s = .next t
          ∧ chan t w = { c with slip := c.slip - 2, limiter := c.limiter - 5, timer := 2 }
          ∧ (c.state = .drag → 0 < c.dragLevel → wheelBridge (chan t w) = .shorted c.dragLevel.toNat)
          ∧ (c.state ≠ .drag ∨ c.dragLevel = 0 → wheelBridge (chan t w) = .off)
          ∧ (∀ u, u ≠ w → chan t u = chan s u) ∧ SameExcept [.drive] s t)
      ∧ (c.state = .run → band →
        ∃ t, exec (.wheelUpdate w) s = .next t
          ∧ (chan t w).state = .drag ∧ (chan t w).command = 0 ∧ (chan t w).target = 0 ∧ (chan t w).duty = 0
          ∧ (chan t w).claim = 0 ∧ (chan t w).dragLevel = effective s .drag
          ∧ (∀ u, u ≠ w → chan t u = chan s u) ∧ SameExcept channelTouches s t))
  ∧ (∀ (s : State) (w : Wheel),
      let c := chan s w
      let band := (effective s .drive).natAbs ≤ s.profile.drive.neutralBand
      (c.state = .tripped → c.retry.isSome = true →
        ∃ t, exec (.tripRetryExpiry w) s = .next t
          ∧ (chan t w).state = (if band then .drag else .run) ∧ (chan t w).duty = 0 ∧ (chan t w).retry = none
          ∧ (chan t w).trips = c.trips ∧ (band → (chan t w).dragLevel = effective s .drag)
          ∧ (∀ u, u ≠ w → chan t u = chan s u) ∧ SameExcept channelTouches s t)
      ∧ (c.state ≠ .tripped ∨ c.retry = none → exec (.tripRetryExpiry w) s = .next s)
      ∧ (c.state = .lockedOut → c.clear.isSome = true →
        ∃ t, exec (.lockoutClearExpiry w) s = .next t
          ∧ (chan t w).state = .drag ∧ (chan t w).duty = 0 ∧ (chan t w).trips = [] ∧ (chan t w).overs = 0
          ∧ (chan t w).clear = none ∧ (chan t w).dragLevel = effective s .drag
          ∧ (∀ u, u ≠ w → chan t u = chan s u) ∧ SameExcept [.drive] s t)
      ∧ (c.state ≠ .lockedOut ∨ c.clear = none → exec (.lockoutClearExpiry w) s = .next s)
      ∧ ((∀ u, (chan s u).speed = 0) → exec .stillTimerExpiry s = .next (s.setDrive { s.drive with still := 500 }))
      ∧ ((∃ u, (chan s u).speed ≠ 0) → exec .stillTimerExpiry s = .next s))

/-- The third current sample in a row above the trip level trips a channel in RUN or DRAG. The trip list drops the entries
as old as the window from its head and takes the new time at its tail; below the trip count the channel is TRIPPED with its
retry timer at 200 ms and WHEEL_TRIP raised, at it LOCKED_OUT with both notices raised and its clear timer running only
within the neutral band. A channel that samples lower keeps its state (R91, R92, R94). -/
def Obligations.ThirdSampleTrips : Prop :=
  ∀ (s : State) (codes : CurrentCodes) (w : Wheel),
    ((chan s w).state = .run ∨ (chan s w).state = .drag) →
      let c := chan s w
      let p := s.profile.drive
      let sample := ((readCurrents (sweepShunts s) codes).wheels.get w).natAbs
      let trips := (c.trips.dropWhile fun x => decide (p.tripWindow ≤ s.nowMs - x)) ++ [s.nowMs]
      (p.tripLevel < sample → c.overs = 2 → trips.length < p.tripCount →
        ∃ t, exec (.currentSweepComplete codes) s = .next t
          ∧ chan t w =
              { c with
                state := .tripped, current := sample, command := 0, target := 0, duty := 0, claim := 0, overs := 0
                trips := trips, retry := some 200, clear := none }
          ∧ Raised .wheelTrip s t)
      ∧ (p.tripLevel < sample → c.overs = 2 → p.tripCount ≤ trips.length →
        ∃ t, exec (.currentSweepComplete codes) s = .next t
          ∧ chan t w =
              { c with
                state := .lockedOut, current := sample, command := 0, target := 0, duty := 0, claim := 0, overs := 0
                trips := trips, retry := none
                clear := if (effective s .drive).natAbs ≤ p.neutralBand then some 0 else none }
          ∧ Raised .wheelTrip s t ∧ Raised .wheelLockout s t)
      ∧ (p.tripLevel < sample → c.overs < 2 →
        ∃ t, exec (.currentSweepComplete codes) s = .next t
          ∧ chan t w = { c with current := sample, overs := c.overs + 1 })
      ∧ (sample ≤ p.tripLevel →
        ∃ t, exec (.currentSweepComplete codes) s = .next t ∧ chan t w = { c with current := sample, overs := 0 })

/-! ### Winch -/

/-- An edge on one encoder phase counts one edge out or in by which phase leads and by encoder reverse; a change of both
phases at once is counted as an error, and no change as nothing. IN at a count of 0 or below and OUT at the limit count or
above, with home KNOWN, go to their limit state at once, braked, with WINCH_LIMIT raised. That phase A leads as the line
pays out is the model's choice (log entry 8; R100, R104, R105). -/
def Obligations.EncoderEdgesCountTheLine : Prop :=
  ∀ (s : State) (a b : Bool),
    let w := s.winch
    let levels : WinchUnit := { w with encA := a, encB := b }
    (a = w.encA → b = w.encB → exec (.encoderEdge a b) s = .next (s.setWinch levels))
    ∧ (a ≠ w.encA → b ≠ w.encB →
        exec (.encoderEdge a b) s = .next (s.setWinch { levels with encErrors := min 65535 (w.encErrors + 1) }))
    ∧ (((a ≠ w.encA ∧ b = w.encB) ∨ (a = w.encA ∧ b ≠ w.encB)) →
        -2147483648 < payout w → payout w < 2147483647 →
        let leads : Bool := if a = w.encA then b == a else a != b
        let out : Bool := leads != s.profile.winch.reverse
        let n : Int := if out then payout w + 1 else payout w - 1
        ∃ t, exec (.encoderEdge a b) s = .next t
          ∧ payout t.winch = n ∧ t.winch.encA = a ∧ t.winch.encB = b ∧ t.winch.known = w.known
          ∧ t.winch.encErrors = w.encErrors
          ∧ (if w.known = true ∧ w.state = .inward ∧ n ≤ 0 then
              t.winch.state = .limitIn ∧ t.winch.duty = 0 ∧ t.winch.claim = 0 ∧ Raised .winchLimit s t
            else if w.known = true ∧ w.state = .outward ∧ (limitCount s.profile.winch : Int) ≤ n then
              t.winch.state = .limitOut ∧ t.winch.duty = 0 ∧ t.winch.claim = 0 ∧ Raised .winchLimit s t
            else t.winch.state = w.state ∧ t.winch.duty = w.duty ∧ t.lamps = s.lamps ∧ t.notices = s.notices)
          ∧ SameExcept winchTouches s t)

/-- The hook's closing sets home: the payout count becomes 0 and home KNOWN, WINCH_LIMIT is raised, and the winch goes
braked to LIMIT_IN from any state but OUT and STALLED, which stand. A closing of a closed hook does nothing, and an
opening changes the reported level alone (R102). WINCH_ZERO sets home while the winch is IDLE or at a limit, and
leaves it braked at LIMIT_IN with WINCH_LIMIT raised and OK answered; while the winch is IN, OUT or STALLED it is
refused NOTPARKED (R103). -/
def Obligations.HomeIsSet : Prop :=
  (∀ s : State,
      (s.winch.hookClosed = false →
        ∃ t, exec .hookClosing s = .next t
          ∧ payout t.winch = 0 ∧ t.winch.known = true ∧ t.winch.hookClosed = true ∧ Raised .winchLimit s t
          ∧ (s.winch.state = .outward ∨ s.winch.state = .stalled →
              t.winch.state = s.winch.state ∧ t.winch.duty = s.winch.duty)
          ∧ (s.winch.state ≠ .outward → s.winch.state ≠ .stalled →
              t.winch.state = .limitIn ∧ t.winch.duty = 0 ∧ t.winch.target = 0 ∧ t.winch.claim = 0
              ∧ winchBridge t.winch = .shorted 1000)
          ∧ SameExcept winchTouches s t)
      ∧ (s.winch.hookClosed = true → exec .hookClosing s = .next s)
      ∧ exec .hookOpening s = .next (s.setWinch { s.winch with hookClosed := false }))
  ∧ (∀ s : State, RequestReady s →
      (s.winch.state = .idle ∨ s.winch.state = .limitIn ∨ s.winch.state = .limitOut →
        ∃ t, exec .winchZero s = .next t
          ∧ payout t.winch = 0 ∧ t.winch.known = true ∧ t.winch.state = .limitIn ∧ t.winch.duty = 0
          ∧ Raised .winchLimit s t ∧ Answered .winchZero [0] s t
          ∧ SameExcept (.comp :: .compPort :: winchTouches) s t)
      ∧ (s.winch.state = .inward ∨ s.winch.state = .outward ∨ s.winch.state = .stalled →
          Refuses .winchZero .notParked 0x0D s))

/-- A winch update while IN or OUT with no stall: line speed from the change of the payout count, the demand duty (held to
the slow-in limit while home is UNKNOWN), the claim, the limiter trim, and the duty moved toward its target by at most the
acceleration step. In the other states demand, claim, target and duty are 0 and the trim falls by 5. The
bridge drives at the duty in IN and OUT, with its sign, and is off at duty 0; in the other states it shorts the motor at
full level. Sync is stated by SpoolSyncFollows (R101, R106 to R110). -/
def Obligations.WinchUpdateDrives : Prop :=
  ∀ s : State,
    let w := s.winch
    let p := s.profile.winch
    let delta := payout w - w.lastPayout
    let fresh : WinchUnit :=
      { w with lineSpeed := (delta * 20000).tdiv p.edgesPer100, lastPayout := payout w, timer := 5 }
    (w.state = .inward ∨ w.state = .outward → (w.current < p.stallCurrent ∨ 2 ≤ delta.natAbs) →
      let m0 := w.held.natAbs * p.top / 1000
      let m := if w.state = .inward ∧ w.known = false then min m0 p.slowIn else m0
      let limiter :=
        if w.limit < w.current then min 1000 (w.limiter + 20)
        else if w.current ≤ w.limit * 15 / 16 then w.limiter - 5
        else w.limiter
      let size : Int := ((m : Int) * (1000 - (limiter : Int))).tdiv 1000
      let target : Int := if w.state = .inward then size else -size
      let duty : Int := if w.duty < target then min target (w.duty + p.accel) else max target (w.duty - p.accel)
      ∃ t, exec .winchUpdate s = .next t
        ∧ t.winch =
            { fresh with
              stall := none, demand := m, claim := p.imax * m / 1000, limiter := limiter, target := target
              duty := duty, sync := t.winch.sync }
        ∧ winchBridge t.winch = (if duty = 0 then .off else .driven duty) ∧ SameExcept [.winch] s t)
    ∧ (w.state ≠ .inward → w.state ≠ .outward →
      ∃ t, exec .winchUpdate s = .next t
        ∧ t.winch =
            { fresh with
              demand := 0, claim := 0, target := 0, duty := 0, limiter := w.limiter - 5, sync := t.winch.sync }
        ∧ winchBridge t.winch = .shorted 1000 ∧ SameExcept [.winch] s t)

/-- The stall test of an update: at or above the stall current with the count moved by at most 1, the stall timer starts at
0 and then counts 5 ms an update; short of the stall time the winch stays driven, and at it the winch is STALLED, braked,
with WINCH_STALL raised. The timers' own expiries stall it and, after the release, clear it to IDLE; each does nothing where
its timer does not run (R111, R112). -/
def Obligations.WinchStalls : Prop :=
  ∀ s : State,
    let w := s.winch
    let p := s.profile.winch
    (w.state = .inward ∨ w.state = .outward → p.stallCurrent ≤ w.current →
      (payout w - w.lastPayout).natAbs ≤ 1 →
      let n := match w.stall with
        | none => 0
        | some k => k + 5
      (n < p.stallTime →
        ∃ t, exec .winchUpdate s = .next t ∧ t.winch.state = w.state ∧ t.winch.stall = some n)
      ∧ (p.stallTime ≤ n →
        ∃ t, exec .winchUpdate s = .next t ∧ t.winch.state = .stalled ∧ t.winch.duty = 0 ∧ t.winch.claim = 0
          ∧ t.winch.stall = none ∧ t.winch.clear = none ∧ Raised .winchStall s t))
    ∧ ((w.state = .inward ∨ w.state = .outward) → w.stall.isSome = true →
      ∃ t, exec .stallTimerExpiry s = .next t ∧ t.winch.state = .stalled ∧ t.winch.duty = 0 ∧ t.winch.claim = 0
        ∧ Raised .winchStall s t ∧ SameExcept winchTouches s t)
    ∧ (w.stall = none → exec .stallTimerExpiry s = .next s)
    ∧ (w.state = .stalled → w.clear.isSome = true →
      ∃ t, exec .stallClearExpiry s = .next t ∧ t.winch.state = .idle ∧ t.winch.duty = 0 ∧ t.notices = s.notices
        ∧ SameExcept winchTouches s t)
    ∧ (w.state ≠ .stalled ∨ w.clear = none → exec .stallClearExpiry s = .next s)

/-- The sync record after a winch update: active while the winch is IN, sync is enabled and the effective DRIVE is above the
neutral band; the line speed's magnitude and the mean speed of the commanded wheels; and the cap, which falls by 20 to no
less than 100 while the wheels overrun the line by the margin, rises by 20 to no more than 1000 while they lag by it or sync
is not active, and else stands (R113, R114). -/
def Obligations.SpoolSyncFollows : Prop :=
  ∀ s : State, ∃ t, exec .winchUpdate s = .next t ∧
    let cs := (Wheel.all.map (chan s)).filter fun c => c.command != 0
    let vl := t.winch.lineSpeed.natAbs
    let vw := (cs.map fun c => c.speed.natAbs).sum / cs.length
    let margin := s.profile.winch.syncMargin
    let cap := s.winch.sync.cap
    let above := vl * (100 + margin) / 100 < vw
    let below := vw < vl * (100 - margin) / 100
    (t.winch.sync.active = true ↔
      t.winch.state = .inward ∧ s.profile.winch.syncEnable = true
        ∧ (s.profile.drive.neutralBand : Int) < effective s .drive)
    ∧ t.winch.sync.vl = vl ∧ t.winch.sync.vw = vw
    ∧ (t.winch.sync.active = false → t.winch.sync.cap = min 1000 (cap + 20))
    ∧ (t.winch.sync.active = true → cs = [] → t.winch.sync.cap = cap)
    ∧ (t.winch.sync.active = true → cs ≠ [] → above → t.winch.sync.cap = max 100 (cap - 20))
    ∧ (t.winch.sync.active = true → cs ≠ [] → ¬above → below → t.winch.sync.cap = min 1000 (cap + 20))
    ∧ (t.winch.sync.active = true → cs ≠ [] → ¬above → ¬below → t.winch.sync.cap = cap)

/-! ### Sensing -/

/-- A current sweep starts at its timer's expiry, which reloads the timer, with the zero codes and full scales as they
then stand. At its completion the six readings are replaced together by truncate((code − zero code) × full scale /
4096), with those settings (a completion with no sweep in flight takes the section's, log entry 37), the sweep count
grows by one, each wheel and the winch take the magnitude of theirs, and Pack Protection takes the pack's with its sign,
which in CUTOFF starts, keeps or stops the recovery dwell timer, the other conditions as last tested (log entry 20; R118,
R119, R137). A slot of the tap converter is a lead check sweep where the check-due flag is set, the cell count is
resolved and a cell sweep has completed since the reset; the flag is then cleared and the slot counter set to 0.
Otherwise it is a cell sweep (R120). A slot keeps the tap full scales, the lead threshold and, by the model's choice
(log entry 43), the n of its start (R123, R128). -/
def Obligations.SweepsStartAndRead : Prop :=
  (∀ (s : State) (codes : CurrentCodes),
      let reading (h : Shunt) (c : Code) : Int := (((c.toNat : Int) - (h.zero : Int)) * (h.full : Int)).tdiv 4096
      let live : Shunts := ⟨s.profile.pack.shuntPack, s.profile.pack.shuntWheel, s.profile.pack.shuntWinch⟩
      let p := s.sense.currentSweep.getD live
      (∃ t, exec .currentSweepStart s = .next t
        ∧ t.sense = { s.sense with currentSweep := some live, currentTimer := 1 } ∧ SameExcept [.sense] s t)
      ∧ (∃ t, exec (.currentSweepComplete codes) s = .next t
        ∧ t.sense =
            { s.sense with
              currents := some
                { pack := reading p.pack codes.pack
                  wheels :=
                    ⟨reading p.wheels.fl codes.fl, reading p.wheels.fr codes.fr, reading p.wheels.rl codes.rl,
                      reading p.wheels.rr codes.rr⟩
                  winch := reading p.winch codes.winch }
              currentSweeps := s.sense.currentSweeps + 1
              currentSweep := none }
        ∧ (chan t .fl).current = (reading p.wheels.fl codes.fl).natAbs
        ∧ (chan t .fr).current = (reading p.wheels.fr codes.fr).natAbs
        ∧ (chan t .rl).current = (reading p.wheels.rl codes.rl).natAbs
        ∧ (chan t .rr).current = (reading p.wheels.rr codes.rr).natAbs
        ∧ t.winch = { s.winch with current := (reading p.winch codes.winch).natAbs }
        ∧ (let ip := reading p.pack codes.pack
           let low := ip < (s.profile.pack.recoveryCurrent : Int)
           t.protection =
             { s.protection with
               ip := ip, currentOk := decide low
               recovery :=
                 if s.protection.state = .cutoff then
                   if s.protection.cellOk = true ∧ low ∧ s.protection.driveOk = true then
                     some (s.protection.recovery.getD 0)
                   else none
                 else s.protection.recovery })
        ∧ SameExcept [.sense, .drive, .winch, .protection, .lamps, .notices] s t))
  ∧ (∀ s : State,
      let kept : TapSettings := ⟨s.profile.pack.tapFull, s.profile.pack.leadThreshold, s.sense.count.getD 0⟩
      (s.sense.checkDue = true → s.sense.count.isSome = true → s.sense.swept = true →
        ∃ t, exec .cellSweepSlotStart s = .next t
          ∧ t.sense =
              { s.sense with
                slot := .check, tapSweep := some kept, checkDue := false, slotCounter := 0, slotTimer := 20 }
          ∧ SameExcept [.sense] s t)
      ∧ (s.sense.checkDue = false ∨ s.sense.count = none ∨ s.sense.swept = false →
        ∃ t, exec .cellSweepSlotStart s = .next t
          ∧ t.sense = { s.sense with slot := .cell, tapSweep := some kept, slotTimer := 20 }
          ∧ SameExcept [.sense] s t))

/-- A cell sweep completion: the converted taps are read, at the full scales of the sweep's start (the section's where no
sweep was in flight, log entry 37), and the others kept; an unresolved count becomes the number of
consecutive cells from cell 1 within 2500..4500 mV; cells 1 to n are the differences of neighbouring taps and those
above n absent; the pack voltage is tap n's; the counts grow, and the check falls due one slot before its interval
(R121, R126). Vcorr_min after a cell sweep completion is the least corrected voltage of cells 1 to n, each cell
corrected by truncate(Ip × Rcell / 1000), the cell beside an open tap judged by the mean cell voltage while BLIND; the
lowest-numbered cell that has it is named, and with no cell it is absent (R130, R131). The PACK section's thresholds,
hysteresis and Rcell come into force with it (R145). That the count at the completion says which taps were converted, and
that the slot counter grows past 249 with an unresolved count, are the model's readings (log entries 43 and 44). -/
def Obligations.CellSweepReadsAndJudges : Prop :=
  (∀ (s : State) (codes : Vector Code 6), ∃ t, exec (.cellSweepComplete codes) s = .next t ∧
      let n := t.sense.count.getD 0
      let tap (k : Nat) : Int := if k = 0 then 0 else ((t.sense.taps.toList.getD (k - 1) none).getD 0 : Nat)
      (∀ i : Fin 6,
        t.sense.taps.get i =
          if i.val < s.sense.count.getD 6 then
            some ((codes.get i).toNat
              * ((s.sense.tapSweep.map fun k => k.full).getD s.profile.pack.tapFull).get i / 4096)
          else s.sense.taps.get i)
      ∧ (∀ k, s.sense.count = some k → t.sense.count = some k)
      ∧ (s.sense.count = none →
          t.sense.count = some n ∧ n ≤ 6
          ∧ (∀ i, 1 ≤ i → i ≤ n → 2500 ≤ tap i - tap (i - 1) ∧ tap i - tap (i - 1) ≤ 4500)
          ∧ (n < 6 → tap (n + 1) - tap n < 2500 ∨ 4500 < tap (n + 1) - tap n))
      ∧ (∀ i : Fin 6,
          t.sense.cells.get i = if i.val < n then some (tap (i.val + 1) - tap i.val) else none)
      ∧ (t.sense.packVolts.map fun v => (v : Int)) = some (tap n)
      ∧ t.sense.cellSweeps = s.sense.cellSweeps + 1 ∧ t.sense.slotCounter = s.sense.slotCounter + 1
      ∧ t.sense.slot = .none ∧ t.sense.tapSweep = none ∧ t.sense.swept = true
      ∧ t.protection.thresholds = thresholdsOf s.profile.pack
      ∧ (t.sense.checkDue = true ↔
          s.sense.checkDue = true ∨ s.profile.pack.checkInterval ≤ s.sense.slotCounter + 2)
      ∧ t.sense.openSet = s.sense.openSet ∧ t.sense.pairs = s.sense.pairs
      ∧ SameExcept (.sense :: packTouches) s t)
  ∧ (∀ (s : State) (codes : Vector Code 6), ∃ t, exec (.cellSweepComplete codes) s = .next t ∧
      let n := t.sense.count.getD 0
      let cell (i : Nat) : Int :=
        if s.protection.blind = true ∧ (s.sense.openSet.getLsbD i = true ∨ s.sense.openSet.getLsbD (i - 1) = true) then
          ((t.sense.packVolts.getD 0 / n : Nat) : Int)
        else (t.sense.cells.toList.getD (i - 1) none).getD 0
      let corrected (i : Nat) : Int := cell i + (s.protection.ip * s.profile.pack.rcell).tdiv 1000
      (n = 0 → t.protection.vmin = none)
      ∧ (n ≠ 0 →
          ∃ m, t.protection.vmin = some m ∧ 1 ≤ m.cell ∧ m.cell ≤ n ∧ m.volts = corrected m.cell
            ∧ (∀ i, 1 ≤ i → i ≤ n → m.volts ≤ corrected i) ∧ (∀ i, 1 ≤ i → i < m.cell → m.volts < corrected i)))

/-- A lead check completion, with the taps 1 to n, the full scales and the lead threshold of its start (those of the
moment where no check was in flight, log entry 37; that the n of the start holds through a write is the model's choice,
log entry 43): each tap taken has its pair and is open where the pair's readings lie further apart than the lead
threshold; BLIND is set exactly while the open set is not empty; LEAD_OPEN is raised for a new set that is not empty;
and a waiting CHECK_LEADS is answered with the open set and the pairs (R123 to R125, R131). -/
def Obligations.LeadCheckFindsOpenTaps : Prop :=
  ∀ (s : State) (codes : Vector LeadCodes 6), ∃ t, exec (.leadCheckComplete codes) s = .next t ∧
    let live : TapSettings := ⟨s.profile.pack.tapFull, s.profile.pack.leadThreshold, s.sense.count.getD 0⟩
    let k := s.sense.tapSweep.getD live
    let n := k.taps
    let high (i : Fin 6) := (codes.get i).high.toNat * k.full.get i / 4096
    let low (i : Fin 6) := (codes.get i).low.toNat * k.full.get i / 4096
    (∀ i : Fin 6,
      t.sense.pairs.get i = if i.val < n then some ⟨high i, low i⟩ else s.sense.pairs.get i)
    ∧ (∀ i : Fin 6,
        t.sense.openSet.getLsbD (i.val + 1) = true ↔
          i.val < n ∧ k.threshold < ((high i : Int) - (low i : Int)).natAbs)
    ∧ t.sense.openSet.getLsbD 0 = false
    ∧ (t.protection.blind = true ↔ t.sense.openSet ≠ 0)
    ∧ (t.sense.openSet ≠ 0 → t.sense.openSet ≠ s.sense.openSet → Raised .leadOpen s t)
    ∧ t.sense.checkSweeps = s.sense.checkSweeps + 1 ∧ t.sense.slot = .none ∧ t.sense.tapSweep = none
    ∧ t.sense.waiting = false
    ∧ t.sense.taps = s.sense.taps ∧ t.sense.cells = s.sense.cells ∧ t.sense.packVolts = s.sense.packVolts
    ∧ (s.sense.waiting = true →
        Answered .checkLeads
          ([0] ++ putU 1 t.sense.openSet.toNat ++ (t.sense.pairs.toList.take n).flatMap pairBytes) s t)
    ∧ (s.sense.waiting = false → t.compPort = s.compPort ∧ t.comp = s.comp)
    ∧ SameExcept senseTouches s t

/-! ### Pack Protection -/

/-- The protection state after a cell sweep with cells: down at a threshold, up at a threshold plus the hysteresis, from
NORMAL, CAUTION and SHED; the cutoff dwell runs while the voltage is below Vcut and stops above it; a change of state raises
PACK_STATE. PRECHECK and CUTOFF are not moved by it. The allowance target follows: the servo reserve in PRECHECK and
CUTOFF and below Vcut, Amax from Vcau up, on a line between them, under the cap of BLIND in every state (log entry 22),
with the allowance in force brought to a lower target at once. PRECHECK ends at the first lead check that follows a cell
sweep, in the state its voltage gives by the thresholds in force. In CUTOFF a cell sweep tests the first recovery condition:
the recovery dwell timer starts at 0 or runs on while it and the other two, as they were last tested (log entry 20), hold,
and stops at 0 where one fails (R132 to R134, R137, R140, R141, R145). -/
def Obligations.ProtectionStateMoves : Prop :=
  (∀ (s : State) (codes : Vector Code 6) (k : Nat), s.sense.count = some k → k ≠ 0 →
    let p := s.profile.pack
    ∃ t m, exec (.cellSweepComplete codes) s = .next t ∧ t.protection.vmin = some m
      ∧ (s.protection.state = .normal →
          t.protection.state =
            if m.volts < p.vshed then .shed else if m.volts < p.vcau then .caution else .normal)
      ∧ (s.protection.state = .caution →
          t.protection.state =
            if m.volts < p.vshed then .shed
            else if m.volts < (p.vcau : Int) + p.hysteresis then .caution else .normal)
      ∧ (s.protection.state = .shed →
          t.protection.state =
            if m.volts < p.vshed then .shed
            else if (p.vcau : Int) + p.hysteresis ≤ m.volts then .normal
            else if m.volts < p.vcau ∧ m.volts < (p.vshed : Int) + p.hysteresis then .shed
            else .caution)
      ∧ (s.protection.state = .precheck ∨ s.protection.state = .cutoff →
          t.protection.state = s.protection.state ∧ t.protection.dwell = s.protection.dwell)
      ∧ (s.protection.state = .normal ∨ s.protection.state = .caution ∨ s.protection.state = .shed →
          t.protection.dwell = if m.volts < p.vcut then some (s.protection.dwell.getD 0) else none)
      ∧ (t.protection.state ≠ s.protection.state → Raised .packState s t)
      ∧ (t.protection.state = s.protection.state → t.notices = s.notices)
      ∧ (let base : Nat :=
            if s.protection.state = .precheck ∨ s.protection.state = .cutoff then p.servoReserve
            else if (p.vcau : Int) ≤ m.volts then p.amax
            else if (p.vcut : Int) ≤ m.volts then
              p.servoReserve + (p.amax - p.servoReserve) * (m.volts - p.vcut).toNat / (p.vcau - p.vcut)
            else p.servoReserve
         t.protection.target = (if s.protection.blind then min base (p.amax * p.blindCap / 100) else base)
            ∧ t.protection.allowance = min s.protection.allowance t.protection.target))
  ∧ (∀ (s : State) (codes : Vector LeadCodes 6) (m : VMin),
      s.protection.state = .precheck → s.sense.swept = true → s.protection.vmin = some m →
      ∃ t, exec (.leadCheckComplete codes) s = .next t
        ∧ t.protection.state =
            (if (s.protection.thresholds.vcau : Int) ≤ m.volts then .normal
            else if (s.protection.thresholds.vshed : Int) ≤ m.volts then .caution else .shed)
        ∧ Raised .packState s t)
  ∧ (∀ (s : State) (codes : Vector Code 6), s.protection.state = .cutoff →
      ∃ t, exec (.cellSweepComplete codes) s = .next t
        ∧ (let cellOk := 2 ≤ t.sense.count.getD 0
              ∧ ∃ m, t.protection.vmin = some m ∧ (s.profile.pack.vrecover : Int) ≤ m.volts
           let all := cellOk ∧ s.protection.currentOk = true ∧ s.protection.driveOk = true
           t.protection.state = .cutoff ∧ (t.protection.cellOk = true ↔ cellOk)
           ∧ t.protection.currentOk = s.protection.currentOk ∧ t.protection.driveOk = s.protection.driveOk
           ∧ (all → t.protection.recovery = some (s.protection.recovery.getD 0))
           ∧ (¬all → t.protection.recovery = none))
        ∧ SameExcept [.sense, .protection, .retained] s t)

/-- CUTOFF is entered when the cutoff dwell reaches its time in NORMAL, CAUTION or SHED (UNDERVOLT), and when a cell
sweep resolves the count below 2 (NOPACK): the latch and its reason are set, the lockout set is filled and its functions
take their lockout values, no grant on them stays HELD, the target becomes the servo reserve, under the cap of BLIND
(that the cap rules in CUTOFF too is the model's reading of R140 and R141, log entry 22), with the allowance brought to
it at once, and PACK_STATE is raised. From a state that the drive and winch invariants hold in, no channel is then in
RUN and the winch is not driven. Without a running dwell nothing happens. The recovery dwell timer starts at 0 where all three
conditions hold at the entry, the first two as last tested (log entry 20). A NOPACK result that finds CUTOFF sets the latch
reason, stops the recovery dwell timer at 0 and raises nothing (R41, R127, R134, R135, R137). -/
def Obligations.CutoffEntered : Prop :=
  (∀ s : State,
    (s.protection.state = .normal ∨ s.protection.state = .caution ∨ s.protection.state = .shed) →
    s.protection.dwell.isSome = true →
      let reserve := s.profile.pack.servoReserve
      let target :=
        if s.protection.blind then min reserve (s.profile.pack.amax * s.profile.pack.blindCap / 100) else reserve
      ∃ t, exec .cutoffDwellExpiry s = .next t
        ∧ t.protection.state = .cutoff ∧ t.retained.latch = some .undervolt ∧ t.protection.dwell = none
        ∧ t.resolver.lockout = true
        ∧ t.protection.recovery =
            (if s.protection.cellOk = true ∧ s.protection.currentOk = true
                ∧ (effOf t .drive).underlying.natAbs ≤ s.profile.drive.neutralBand then some 0 else none)
        ∧ effective t .drive = 0 ∧ effective t .winch = 0 ∧ effective t .drag = s.profile.pack.cutoffDrag
        ∧ (∀ f, lockable f = true → (effOf t f).level = .lockout ∧ (grantOf t f).held = none)
        ∧ t.protection.target = target ∧ t.protection.allowance = min s.protection.allowance target
        ∧ Raised .packState s t ∧ SameExcept packTouches s t
        ∧ (Stopping s → (∀ w, (chan t w).state ≠ .run) ∧ winchDriven t.winch = false ∧ t.winch.duty = 0))
  ∧ (∀ s : State,
      s.protection.dwell = none ∨ s.protection.state = .precheck ∨ s.protection.state = .cutoff →
        exec .cutoffDwellExpiry s = .next s)
  ∧ (∀ (s : State) (codes : Vector Code 6), s.sense.count = none → s.protection.state ≠ .cutoff →
      ∃ t, exec (.cellSweepComplete codes) s = .next t
        ∧ (t.sense.count.getD 0 < 2 →
            t.protection.state = .cutoff ∧ t.retained.latch = some .nopack ∧ t.resolver.lockout = true
            ∧ effective t .drive = 0 ∧ effective t .winch = 0 ∧ Raised .packState s t))
  ∧ (∀ (s : State) (codes : Vector Code 6), s.sense.count = none → s.protection.state = .cutoff →
      ∃ t, exec (.cellSweepComplete codes) s = .next t
        ∧ (t.sense.count.getD 0 < 2 →
            t.protection.state = .cutoff ∧ t.retained = { s.retained with latch := some .nopack }
            ∧ t.protection.recovery = none)
        ∧ (2 ≤ t.sense.count.getD 0 → t.retained = s.retained)
        ∧ SameExcept [.sense, .protection, .retained] s t)

/-- CUTOFF is left when the recovery dwell reaches its time: the latch is cleared, the state is NORMAL, the lockout set is
empty, PACK_STATE is raised, and DRIVE, WINCH and DRAG take the values that their levels decide, at once and without a
blend. Without a running recovery dwell nothing happens (R41, R138). -/
def Obligations.CutoffLeft : Prop :=
  ∀ s : State,
    (s.protection.state = .cutoff → s.protection.recovery.isSome = true →
      ∃ t, exec .recoveryDwellExpiry s = .next t
        ∧ t.protection.state = .normal ∧ t.protection.recovery = none ∧ t.retained.latch = none
        ∧ t.resolver.lockout = false ∧ Raised .packState s t
        ∧ (∀ f v, lockable f = true → (effOf s f).source = .none → (effOf s f).blend = none →
            (decision s f).value = some v →
              effective t f = v ∧ (effOf t f).blend = none ∧ (effOf t f).level = (decision s f).level)
        ∧ (∀ f, lockable f = false → effOf t f = effOf s f)
        ∧ SameExcept packTouches s t)
    ∧ (s.protection.state ≠ .cutoff ∨ s.protection.recovery = none → exec .recoveryDwellExpiry s = .next s)

/-! ### Budget -/

/-- An apportionment divides the allowance in force, after its rise of at most 200 mA toward the target, in two passes
over the consumers in precedence order, the winch first while sync is active: each gets at most its floor, then what
remains of its claim. The four grants and the headroom sum to the allowance, so the grants never exceed it, and no
grant exceeds its claim. After any reset the three consumer grants are 0, and no command but an apportionment and a reset
changes the Budget Unit's record, so they stay 0 until the first apportionment (R141 to R143). The published grants reach
their units: each wheel's limit is its share of the drive grant by the claims read, the limits sum to no more than
that grant, the winch's limit is the winch grant, and the lamps hold theirs (R90, R109, R144). -/
def Obligations.ApportionmentDividesTheAllowance : Prop :=
  ((∀ s : State,
      let p := s.profile.pack
      let a :=
        if s.protection.allowance < s.protection.target then min s.protection.target (s.protection.allowance + 200)
        else s.protection.allowance
      let cd := ((Wheel.all.map (chan s)).map fun c => c.claim).sum
      let cw := s.winch.claim
      let cl := s.lamps.claim
      let gs := min p.servoReserve a
      let r := a - gs
      let first := if s.winch.sync.active then (cw, p.winchFloor) else (cd, p.driveFloor)
      let second := if s.winch.sync.active then (cd, p.driveFloor) else (cw, p.winchFloor)
      let g1 := min first.1 (min first.2 r)
      let g2 := min second.1 (min second.2 (r - g1))
      let g3 := min cl (min p.lampFloor (r - g1 - g2))
      let rest := r - g1 - g2 - g3
      let e1 := min (first.1 - g1) rest
      let e2 := min (second.1 - g2) (rest - e1)
      let e3 := min (cl - g3) (rest - e1 - e2)
      ∃ t, exec .apportionment s = .next t
        ∧ t.protection.allowance = a ∧ t.budget.used = a
        ∧ t.budget.cd = cd ∧ t.budget.cw = cw ∧ t.budget.cl = cl
        ∧ t.budget.winchFirst = s.winch.sync.active
        ∧ t.budget.gs = gs
        ∧ t.budget.gd = (if s.winch.sync.active then g2 + e2 else g1 + e1)
        ∧ t.budget.gw = (if s.winch.sync.active then g1 + e1 else g2 + e2)
        ∧ t.budget.gl = g3 + e3
        ∧ t.budget.headroom = rest - e1 - e2 - e3
        ∧ t.budget.count = s.budget.count + 1
        ∧ t.budget.gs + t.budget.gd + t.budget.gw + t.budget.gl + t.budget.headroom = a
        ∧ t.budget.gd ≤ t.budget.cd ∧ t.budget.gw ≤ t.budget.cw ∧ t.budget.gl ≤ t.budget.cl
        ∧ SameExcept [.protection, .drive, .budget, .winch, .lamps] s t)
    ∧ (∀ (s : State) (pins : Pins),
        (∃ t, exec (.powerOn pins) s = .next t ∧ t.budget.gd = 0 ∧ t.budget.gw = 0 ∧ t.budget.gl = 0)
        ∧ (∃ t, exec (.supplyDip pins) s = .next t ∧ t.budget.gd = 0 ∧ t.budget.gw = 0 ∧ t.budget.gl = 0)
        ∧ (∀ mosi, s.compPort.restartHeld = true → s.compPort.transfer ≠ .passedOver →
            consumes (answerSent s) mosi.length = true →
            ∃ t, exec (.companionTransfer mosi pins) s = .next t
              ∧ t.budget.gd = 0 ∧ t.budget.gw = 0 ∧ t.budget.gl = 0))
    ∧ (∀ (c : Instr) (s t : State), exec c s = .next t → c ≠ .apportionment → (∀ pins, ¬TakesReset c pins s) →
        t.budget = s.budget))
  ∧ (∀ s : State, ∃ t, exec .apportionment s = .next t
      ∧ (∀ w, (chan t w).apportioned = (chan s w).claim
          ∧ (chan t w).limit = t.budget.gd * (chan s w).claim / t.budget.cd
          ∧ (chan t w).claim = (chan s w).claim ∧ (chan t w).duty = (chan s w).duty)
      ∧ (chan t .fl).limit + (chan t .fr).limit + (chan t .rl).limit + (chan t .rr).limit ≤ t.budget.gd
      ∧ t.drive.apportioned = t.budget.cd ∧ t.drive.grant = t.budget.gd
      ∧ t.winch = { s.winch with limit := t.budget.gw } ∧ t.lamps.grant = t.budget.gl)

/-! ### Lamps -/

/-- The blink toggle turns the phase over, reloads its timer with the half period, and takes a lamp resolution: stage 1 from
the scene or the pattern, stage 2 by the role, stage 3 by the protection state, the claim from the wished levels, and the
outputs held within the grant (R153 to R157). -/
def Obligations.BlinkToggleResolvesTheLamps : Prop :=
  ∀ s : State, ∃ t, exec .blinkToggle s = .next t
    ∧ t.lamps.blinkOn = (!s.lamps.blinkOn) ∧ t.lamps.blinkTimer = s.profile.lamps.halfPeriod
    ∧ LampsResolved t
    ∧ (∀ i,
        let c := t.lamps.channels.get i
        let b := s.lamps.channels.get i
        c.base = b.base ∧ c.patterned = b.patterned ∧ c.pattern = b.pattern)
    ∧ t.lamps.grant = s.lamps.grant
    ∧ t.lamps.position = s.lamps.position ∧ t.lamps.active = s.lamps.active
    ∧ SameExcept [.lamps] s t

/-- The expiry of the step timer starts the next step that is not EMPTY: the position is that step, its timer its duration
in units of 10 ms, its mask's channels take its level and the others keep theirs. At the cycle end, or with no step
left, the sequencer wraps: every pattern level becomes absent, a pending switch is taken with BANK_SWITCHED raised,
and the active bank's first step starts or the sequencer stands at the wrap. At the wrap no timer runs (R150). The
cycle end of a bank is its lowest-numbered step with END, or step 31; and the search from a step finds the first step,
up to and including the cycle end, that is not EMPTY, or none (R149, R150). -/
def Obligations.StepTimerPlaysTheCycle : Prop :=
  (∀ (s : State),
      (s.lamps.position = none → exec .stepTimerExpiry s = .next s)
      ∧ (∀ p : Position, s.lamps.position = some p →
        let b := if s.lamps.active then s.lamps.bank1 else s.lamps.bank0
        (∀ j, p.step ≠ cycleEnd b → findStep b (p.step + 1) = some j →
          ∃ t, exec .stepTimerExpiry s = .next t
            ∧ t.lamps.position = some ⟨j, (stepAt b j).duration * 10⟩
            ∧ t.lamps.active = s.lamps.active ∧ t.lamps.switchPending = s.lamps.switchPending
            ∧ (∀ i : Fin 8, (t.lamps.channels.get i).pattern =
                if (stepAt b j).mask.getLsbD i.val then some (stepAt b j).level
                else (s.lamps.channels.get i).pattern)
            ∧ SameExcept [.lamps] s t)
        ∧ (p.step = cycleEnd b ∨ findStep b (p.step + 1) = none →
          ∃ t, exec .stepTimerExpiry s = .next t ∧
            let active := s.lamps.active != s.lamps.switchPending
            let nb := if active then s.lamps.bank1 else s.lamps.bank0
            t.lamps.active = active ∧ t.lamps.switchPending = false
            ∧ (s.lamps.switchPending = true → Raised .bankSwitched s t)
            ∧ (s.lamps.switchPending = false → t.notices = s.notices)
            ∧ (findStep nb 0 = none →
                t.lamps.position = none ∧ ∀ i : Fin 8, (t.lamps.channels.get i).pattern = none)
            ∧ (∀ j, findStep nb 0 = some j →
                t.lamps.position = some ⟨j, (stepAt nb j).duration * 10⟩
                ∧ ∀ i : Fin 8, (t.lamps.channels.get i).pattern =
                    if (stepAt nb j).mask.getLsbD i.val then some (stepAt nb j).level else none)
            ∧ t.lamps.bank0 = s.lamps.bank0 ∧ t.lamps.bank1 = s.lamps.bank1
            ∧ SameExcept sequencerTouches s t)))
  ∧ (∀ (b : Vector Step 32) (i : Nat),
      cycleEnd b ≤ 31 ∧ ((stepAt b (cycleEnd b)).isEnd = true ∨ cycleEnd b = 31)
      ∧ (∀ j, j < cycleEnd b → (stepAt b j).isEnd = false)
      ∧ (∀ j, findStep b i = some j ↔
          i ≤ j ∧ j ≤ cycleEnd b ∧ (stepAt b j).isEmpty = false
            ∧ ∀ k, i ≤ k → k < j → (stepAt b k).isEmpty = true)
      ∧ (findStep b i = none ↔ ∀ k, i ≤ k → k ≤ cycleEnd b → (stepAt b k).isEmpty = true))

/-- PATTERN_WRITE checks the bank, count and range (VALUE), then the active bank (ACTIVEBANK), then the marks (VALUE); one
that passes writes the steps, clamped, into the bank named from the first index upward and answers OK, and changes
nothing else of the lamps (R152). BANK_SWITCH answers OK. At a step the switch becomes or stays pending; at the wrap
it is taken at once: the active bank changes, BANK_SWITCHED is raised, and the new bank's first step starts if it has
one (R151). -/
def Obligations.PatternWriteAndBankSwitch : Prop :=
  (∀ (s : State) (bank first : Byte) (steps : List StepBytes), RequestReady s → 3 + 5 * steps.length ≤ 120 →
      let fits := bank.toNat ≤ 1 ∧ 1 ≤ steps.length ∧ steps.length ≤ 8 ∧ first.toNat + steps.length ≤ 32
      let isActive := (bank = 1) ↔ s.lamps.active = true
      let stored (x : StepBytes) : Step :=
        { mask := x.mask, level := max 0 (min 1000 x.level.toNat), duration := max 1 (min 255 x.duration.toNat)
          isEnd := x.marks.getLsbD 0, isEmpty := x.marks.getLsbD 1 }
      (¬fits → Refuses (.patternWrite bank first steps) .value 0x0B s)
      ∧ (fits → isActive → Refuses (.patternWrite bank first steps) .activeBank 0x0B s)
      ∧ (fits → ¬isActive → (∃ x ∈ steps, 4 ≤ x.marks.toNat) → Refuses (.patternWrite bank first steps) .value 0x0B s)
      ∧ (fits → ¬isActive → (∀ x ∈ steps, x.marks.toNat < 4) →
          ∃ t, exec (.patternWrite bank first steps) s = .next t ∧ Answered .patternWrite [0] s t
            ∧ (∀ i : Fin 32,
                (if bank = 1 then t.lamps.bank1 else t.lamps.bank0).get i =
                  if h : first.toNat ≤ i.val ∧ i.val - first.toNat < steps.length then
                    stored (steps[i.val - first.toNat]'h.2)
                  else (if bank = 1 then s.lamps.bank1 else s.lamps.bank0).get i)
            ∧ t.lamps =
                (if bank = 1 then { s.lamps with bank1 := t.lamps.bank1 } else { s.lamps with bank0 := t.lamps.bank0 })
            ∧ SameExcept [.lamps, .comp, .compPort] s t))
  ∧ (∀ s : State, RequestReady s →
      (∀ p, s.lamps.position = some p →
        ∃ t, exec .bankSwitch s = .next t ∧ Answered .bankSwitch [0] s t
          ∧ t.lamps = { s.lamps with switchPending := true } ∧ SameExcept [.lamps, .comp, .compPort] s t)
      ∧ (s.lamps.position = none →
        ∃ t, exec .bankSwitch s = .next t ∧ Answered .bankSwitch [0] s t ∧
          let nb := if s.lamps.active then s.lamps.bank0 else s.lamps.bank1
          t.lamps.active = (!s.lamps.active) ∧ t.lamps.switchPending = false ∧ Raised .bankSwitched s t
          ∧ t.lamps.position = ((findStep nb 0).map fun j => ⟨j, (stepAt nb j).duration * 10⟩)
          ∧ t.lamps.bank0 = s.lamps.bank0 ∧ t.lamps.bank1 = s.lamps.bank1
          ∧ SameExcept [.lamps, .notices, .comp, .compPort] s t))

/-! ### Companion link -/

/-- While a cell is occupied every request is refused BUSY: no answer is made and both cells stand, the refused count
grows and BUSY joins the cause set; it is a live-making event if its envelope would have passed. With both cells
empty, operands that fit no length of their kind are refused FORMAT (R7, R8, R16, R165). A DEMAND from a barred
companion is refused BARRED as a whole, before any check on its pairs, and writes no slot; the companion stays LIVE
(R7, R12, R28). -/
def Obligations.RequestsRefusedAtTheDoor : Prop :=
  (∀ (q : Request) (s : State),
      (s.compPort.request.isSome = true ∨ s.compPort.answer.isSome = true →
        ∃ t, exec q.command s = .next t
          ∧ t.compPort = s.compPort ∧ t.comp.refused = s.comp.refused + 1 ∧ t.comp.accepted = s.comp.accepted
          ∧ t.comp.causes = addMember s.comp.causes 5
          ∧ (q.sized = true → t.comp.state = .live ∧ t.comp.timer = s.profile.sources.compSilence)
          ∧ (q.sized = false → t.comp.state = s.comp.state ∧ t.comp.timer = s.comp.timer)
          ∧ (q.sized = false ∨ s.comp.state = .live → SameExcept [.comp] s t))
      ∧ (CellsFree s → q.sized = false → Refuses q.command .format (kindCode q.kind) s))
  ∧ (∀ (s : State) (pairs : List DemandPair),
      RequestReady s → s.comp.barred = true → 1 ≤ pairs.length → pairs.length ≤ 7 →
        Refuses (.demand pairs) .barred 0x01 s)

/-- The reading requests answer at once with what they read and change nothing else: STATUS_READ and TELEMETRY_READ their
page, which carries the records field by field in the layout of section 10.6, PROFILE_READ the live bytes of its section.
A page, a section or a scene number that is not there is refused VALUE (R47, R165, R174, section 10.6). That a page shows
the state before its own request is counted is the model's reading (log entry 29); the codes of absent flags and sets
are those of log entries 27 and 28, and a check pair whose tap is being taken is free (log entry 42). NOTICE_TAKE and
CAUSE_TAKE answer their set as it stands and leave it empty, and FLAGS_SET replaces the four companion flags and answers OK
(R16, R17, R171). -/
def Obligations.ReadsAndTakesAnswerAtOnce : Prop :=
  (∀ (s : State), RequestReady s →
      (∀ page : Byte, page.toNat ≤ 1 →
        ∃ t bytes, exec (.statusRead page) s = .next t ∧ CarriesStatus s page.toNat bytes
          ∧ Answered .statusRead (page :: bytes) s t ∧ SameExcept [.comp, .compPort] s t)
      ∧ (∀ page : Byte, 1 < page.toNat → Refuses (.statusRead page) .value 0x04 s)
      ∧ (∀ page : Byte, page.toNat ≤ 7 →
        ∃ t bytes, exec (.telemetryRead page) s = .next t ∧ CarriesTelemetry s page.toNat bytes
          ∧ Answered .telemetryRead (page :: bytes) s t ∧ SameExcept [.comp, .compPort] s t)
      ∧ (∀ page : Byte, 7 < page.toNat → Refuses (.telemetryRead page) .value 0x05 s)
      ∧ (∀ (sect : Byte) (k : Sect), sectOfNumber sect.toNat = some k → k ≠ .scenes →
        ∃ t, exec (.profileRead sect none) s = .next t
          ∧ Answered .profileRead (sect :: sectionBytes s.profile k) s t ∧ SameExcept [.comp, .compPort] s t)
      ∧ (∀ i : Fin 16,
        ∃ t, exec (.profileRead 9 (some (BitVec.ofNat 8 i.val))) s = .next t
          ∧ Answered .profileRead (9 :: bytesScene (s.profile.scenes.get i)) s t ∧ SameExcept [.comp, .compPort] s t)
      ∧ (∀ i : Byte, 15 < i.toNat → Refuses (.profileRead 9 (some i)) .value 0x0A s)
      ∧ (∀ (sect : Byte) (scene : Option Byte), 10 < sect.toNat → Refuses (.profileRead sect scene) .value 0x0A s))
  ∧ (∀ s : State, RequestReady s →
      (∃ t, exec .noticeTake s = .next t
        ∧ Answered .noticeTake (putU 1 ((lead s.notices.comp).getD 255) ++ putU 2 s.notices.comp.toNat) s t
        ∧ t.notices = ⟨s.notices.radio, 0⟩ ∧ SameExcept [.notices, .comp, .compPort] s t)
      ∧ (∃ t, exec .causeTake s = .next t
        ∧ Answered .causeTake (putU 2 s.comp.causes.toNat) s t ∧ t.comp.causes = 0
        ∧ SameExcept [.comp, .compPort] s t)
      ∧ (∀ flags : Byte, ∃ t, exec (.flagsSet flags) s = .next t
        ∧ Answered .flagsSet [0] s t ∧ (∀ i, i < 4 → t.comp.flags.getLsbD i = flags.getLsbD i)
        ∧ t.comp.causes = s.comp.causes ∧ SameExcept [.comp, .compPort] s t))

/-- The status byte: ANS_READY, CMD_PENDING, NOTICE, BARRED, RADIO_PRESENT, PARKED and CUTOFF in bits 0 to 6, and bit 7
always 1. It and the answer in the cell are fixed for the transfer at the fall of SEL: MISO carries the status byte, then
the bytes of that answer, then 0x00 for every further byte, whatever happens meanwhile, and is high impedance outside a
transfer and in one passed over (R164, R167, R168). ATTN is driven low exactly while the answer cell is occupied or the
COMPANION pending set holds a kind of the companion notice mask; the fall of SEL leaves it as it was, and a transfer that
consumes the answer releases it unless such a kind is pending (R167). The rise of SEL
settles the answer before anything else: the answer is consumed exactly where the transfer clocked out the status byte
and every byte of it. A transfer of no byte or of a first byte 0x00 does nothing more; one whose SEL fell before the
links listened does nothing (R164, R165, R168). -/
def Obligations.TransferSettlesTheAnswer : Prop :=
  (∀ s : State, ∃ t status, exec .selFall s = .next t
      ∧ t = s.setCompPort { s.compPort with transfer := .running status s.compPort.answer }
      ∧ status.getLsbD 0 = s.compPort.answer.isSome ∧ status.getLsbD 1 = s.compPort.request.isSome
      ∧ status.getLsbD 2 = ((s.notices.comp &&& s.profile.sources.compNotices) != 0)
      ∧ status.getLsbD 3 = s.comp.barred ∧ status.getLsbD 4 = (s.radio.state == .live)
      ∧ status.getLsbD 5 = parked s ∧ status.getLsbD 6 = (s.protection.state == .cutoff) ∧ status.getLsbD 7 = true
      ∧ misoByte t 0 = some status ∧ attnLow t = attnLow s
      ∧ (∀ bytes i b, s.compPort.answer = some bytes → bytes[i]? = some b → misoByte t (i + 1) = some b)
      ∧ (∀ bytes i, s.compPort.answer = some bytes → bytes.length ≤ i → misoByte t (i + 1) = some 0)
      ∧ (∀ i, s.compPort.answer = none → misoByte t (i + 1) = some 0)
      ∧ (∀ (u : State) (i : Nat), u.compPort.transfer = t.compPort.transfer → misoByte u i = misoByte t i))
  ∧ (∀ s : State,
      attnLow s = true ↔
        s.compPort.answer.isSome = true
          ∨ ∃ n : Fin 16,
              s.notices.comp.getLsbD n.val = true ∧ s.profile.sources.compNotices.getLsbD n.val = true)
  ∧ (∀ (s : State) (i : Nat), s.compPort.transfer = .idle ∨ s.compPort.transfer = .passedOver → misoByte s i = none)
  ∧ (∀ (s : State) (mosi : List Byte) (pins : Pins),
      (∀ (status : Byte) (sent : Option (List Byte)),
        s.compPort.transfer = .running status sent → s.compPort.restartHeld = false → mosi.headD 0 = 0 →
          ∃ t, exec (.companionTransfer mosi pins) s = .next t
            ∧ t.compPort.transfer = .idle
            ∧ (∀ bytes, sent = some bytes → 1 + bytes.length ≤ mosi.length → t.compPort.answer = none)
            ∧ (∀ bytes, sent = some bytes → 1 + bytes.length ≤ mosi.length →
                (attnLow t = true ↔
                  ∃ n : Fin 16,
                    s.notices.comp.getLsbD n.val = true ∧ s.profile.sources.compNotices.getLsbD n.val = true))
            ∧ (∀ bytes, sent = some bytes → mosi.length < 1 + bytes.length → t.compPort.answer = s.compPort.answer)
            ∧ (sent = none → t.compPort.answer = s.compPort.answer)
            ∧ t.compPort.request = s.compPort.request ∧ SameExcept [.compPort] s t)
      ∧ (s.compPort.transfer = .passedOver →
          ∃ t, exec (.companionTransfer mosi pins) s = .next t
            ∧ t.compPort = { s.compPort with transfer := .idle } ∧ SameExcept [.compPort] s t))

/-- A transfer that clocks in the whole envelope of a request of any kind, whatever bytes follow it, takes the request it
spells: it does what the command of that request does once the transfer is over, with the answer consumed where the
transfer clocked it out. With both cells then empty, the same envelope with another CRC is refused CHECK, and a kind code
above 0x0F, a length byte above 120, too few bytes, or a length that the kind does not allow is refused FORMAT; either
makes no one LIVE (R164, R165, section 10.6). A transfer that consumes a held RESTART's answer is left to
CheckLeadsAndRestartAreHeld. -/
def Obligations.EnvelopesSpellTheirRequests : Prop :=
  ∀ (s : State) (status : Byte) (sent : Option (List Byte)) (pins : Pins) (mosi : List Byte),
    s.compPort.transfer = .running status sent → s.compPort.restartHeld = false →
      let consumed : Prop := ∃ bytes, sent = some bytes ∧ 1 + bytes.length ≤ mosi.length
      let refusedAs (c : Cause) (u : State) : Prop :=
        ∃ t, exec (.companionTransfer mosi pins) s = .next t
          ∧ t.compPort.answer = some (refusedEnvelope c (mosi.headD 0)) ∧ t.compPort.request = none
          ∧ t.compPort.transfer = .idle ∧ t.comp.state = s.comp.state ∧ t.comp.timer = s.comp.timer
          ∧ t.comp.refused = s.comp.refused + 1 ∧ t.comp.accepted = s.comp.accepted
          ∧ t.comp.causes = addMember s.comp.causes (causeCode c) ∧ SameExcept [.comp, .compPort] u t
      ∀ u : State, u.compPort.transfer = .idle → u.compPort.request = s.compPort.request →
        u.compPort.restartHeld = false → (consumed → u.compPort.answer = none) →
        (¬consumed → u.compPort.answer = s.compPort.answer) → SameExcept [.compPort] s u →
          (∀ (q : Request) (more : List Byte), q.sized = true → mosi = envelope (kindCode q.kind) q.payload ++ more →
              exec (.companionTransfer mosi pins) s = exec q.command u)
          ∧ (CellsFree u →
              (∀ (q : Request) (a b : Byte) (more : List Byte), q.sized = true →
                  let body := kindCode q.kind :: BitVec.ofNat 8 q.payload.length :: q.payload
                  mosi = body ++ a :: b :: more → [a, b] ≠ crcBytes (crc16 body) → refusedAs .check u)
              ∧ (mosi.headD 0 ≠ 0 →
                  let n := (mosi.getD 1 0).toNat
                  (15 < (mosi.headD 0).toNat ∨ 120 < n ∨ mosi.length < 4 + n
                    ∨ ¬LengthFits (mosi.headD 0).toNat ((mosi.drop 2).take n)) → refusedAs .format u))

/-- CHECK_LEADS occupies the request cell and sets the waiting answer flag; it joins a lead check in flight, and otherwise
makes one due. Its answer comes at that check's completion, by LeadCheckFindsOpenTaps (R125, R166). RESTART is
accepted while parked, its OK answer in the cell at once and the restart held; else it is refused NOTPARKED. The part
resets at the rise of SEL of the transfer that consumes that answer, with last reset kind RESTART, the dip count and
the latch kept (R166, R175, R177). That the queue of waiting commands stands through that reset is the model's choice (log
entry 1). -/
def Obligations.CheckLeadsAndRestartAreHeld : Prop :=
  (∀ s : State, RequestReady s →
      ∃ t, exec .checkLeads s = .next t
        ∧ t.sense =
            { s.sense with waiting := true, checkDue := if s.sense.slot = .check then s.sense.checkDue else true }
        ∧ t.compPort = { s.compPort with request := some .checkLeads, answer := none }
        ∧ t.comp.accepted = s.comp.accepted ∧ t.comp.refused = s.comp.refused
        ∧ SameExcept [.sense, .comp, .compPort] s t)
  ∧ ((∀ s : State, RequestReady s →
      (parked s = true →
        ∃ t, exec .restart s = .next t ∧ Answered .restart [0] s t ∧ t.compPort.restartHeld = true
          ∧ SameExcept [.comp, .compPort] s t)
      ∧ (parked s = false → Refuses .restart .notParked 0x0F s))
    ∧ (∀ (s : State) (status : Byte) (bytes mosi : List Byte) (pins : Pins),
        s.compPort.restartHeld = true → s.compPort.transfer = .running status (some bytes) →
        1 + bytes.length ≤ mosi.length →
          ∃ t, exec (.companionTransfer mosi pins) s = .next t
            ∧ t.retained.lastReset = .restart ∧ t.retained.restartFlag = false
            ∧ t.retained.dips = s.retained.dips ∧ t.retained.latch = s.retained.latch
            ∧ t.radio = RadioCtx.reset ∧ t.comp = CompCtx.reset ∧ t.slots = Slots.reset
            ∧ t.radioPort = RadioPort.reset ∧ t.compPort = CompPort.reset pins.selLow
            ∧ t.sense = Sense.reset t.profile.pack ∧ t.budget = Budget.reset
            ∧ (t.profile.sources.compNotices.getLsbD 15 = true → t.notices.comp.getLsbD 15 = true)
            ∧ t.pending = s.pending))

/-! ### Profile Store -/

/-- A PROFILE_WRITE is checked in order: the section and scene number (VALUE), the companion's section mask and the radio-
held sections (REACH), the parked status (NOTPARKED), then the structural checks of the section's owning rule, BADMAP before
VALUE (that a takeover byte above 1 under primary COMPANION is a VALUE is log entry 46). One that passes replaces the live
section at once by the body's clamped contents, field by field as the owning rule gives them, occupies the request cell and
begins the store, and is not answered yet (R15, R18, R30, R36, R38, R75, R98, R116, R128, R145, R158, R159, R169, R172). It
leaves as they stand what a field is to act on only at a later event: the speed gate in force (R75), the
settings of a sweep in flight (R128) and the thresholds in force (R145), which are fields of the model's own (log entry
49). At the end of a store the section's flash copy is the live section with a fresh CRC, or where the copy read
back does not match one whose CRC fails; the other copies stand, the write is answered DONE or FAILED and counted as
accepted, and STORE_DONE or STORE_FAILED is raised. With no store running nothing happens (R8, R173). -/
def Obligations.ProfileWriteIsCheckedAndStored : Prop :=
  (∀ (s : State) (sect : Byte) (body : List Byte), RequestReady s → bodyFits sect.toNat body.length = true →
      (10 < sect.toNat → Refuses (.profileWrite sect body) .value 0x09 s)
      ∧ (∀ k : Sect, sectOfNumber sect.toNat = some k →
          let reached := s.profile.sources.compSections.getLsbD (sectNumber k).val = true
            ∧ ¬(s.radio.state = .live ∧ s.profile.sources.radioSections.getLsbD (sectNumber k).val = true)
          (k = .scenes ∧ 15 < fieldAt body 0 1 → Refuses (.profileWrite sect body) .value 0x09 s)
          ∧ (¬(k = .scenes ∧ 15 < fieldAt body 0 1) →
              (¬reached → Refuses (.profileWrite sect body) .reach 0x09 s)
              ∧ (reached → parked s = false → Refuses (.profileWrite sect body) .notParked 0x09 s)
              ∧ (reached → parked s = true → BreaksMap k body → Refuses (.profileWrite sect body) .badMap 0x09 s)
              ∧ (reached → parked s = true → ¬BreaksMap k body → BreaksValue k body →
                  Refuses (.profileWrite sect body) .value 0x09 s)
              ∧ (reached → parked s = true → ¬BreaksMap k body → ¬BreaksValue k body →
                  ∃ t, exec (.profileWrite sect body) s = .next t
                    ∧ Replaced k body s.profile t.profile
                    ∧ t.store = { s.store with storing := some k }
                    ∧ t.compPort.request = some .profileWrite ∧ t.compPort.answer = none
                    ∧ t.comp.accepted = s.comp.accepted ∧ t.comp.refused = s.comp.refused
                    ∧ t.steering.gate = s.steering.gate ∧ t.sense.currentSweep = s.sense.currentSweep
                    ∧ t.sense.tapSweep = s.sense.tapSweep ∧ t.protection.thresholds = s.protection.thresholds
                    ∧ SameExcept writeTouches s t))))
  ∧ (∀ (s : State) (matched : Bool),
      (∀ k, s.store.storing = some k →
        ∃ t, exec (.storeComplete matched) s = .next t
          ∧ t.store.storing = none
          ∧ t.store.flash.get (sectNumber k) =
              (if matched then .whole (sectionBytes s.profile k) (crc16 (sectionBytes s.profile k)) else .broken)
          ∧ (∀ i, i ≠ sectNumber k → t.store.flash.get i = s.store.flash.get i)
          ∧ Answered .profileWrite [if matched then 0 else 1] s t
          ∧ Raised (if matched then .storeDone else .storeFailed) s t
          ∧ SameExcept [.store, .notices, .comp, .compPort] s t)
      ∧ (s.store.storing = none → exec (.storeComplete matched) s = .next s))

/-- What an accepted PROFILE_WRITE does at once in the units. GEOMETRY, MAP and REPLY: nothing beside the live section. DRIVE:
the recovery condition, the clear timers and the held WINCH follow a moved band, every duty comes within the new top, and a
clear timer past the new time clears its channel. WINCH: a changed encoder reverse unsets home, the slow-in limit clamps, a
stall past the new clear time clears, and a limit state whose stop no longer holds goes by the held WINCH. PACK: the cell
count, the check, the target and allowance, the cutoff drag and the dwell timers. LAMPS: a lamp resolution. SCENES: the scene
in force is taken anew (R36, R66, R75, R84, R98, R116, R128, R137, R145, R158, R159, R169). The model's own are the stored
conditions (log entry 20), the target's thresholds (21), the order in a DRIVE write (47), a PACK write that leaves AUTO (48),
the slot of the next check (50) and the order in a PACK write (51). -/
def Obligations.UnitSectionsAct : Prop :=
  ∀ (s : State) (sect : Byte) (k : Sect) (body : List Byte), WritePasses s sect k body →
    ∃ t, exec (.profileWrite sect body) s = .next t
      ∧ (k = .map ∨ k = .reply → SameExcept acceptTouches s t)
      ∧ (k = .geometry → GeometryActs s t)
      ∧ (k = .drive → DriveActs s t)
      ∧ (k = .winch → WinchActs s t)
      ∧ (k = .pack → SensingActs s t ∧ PackActs s t)
      ∧ (k = .lamps → LampsFollow s t ∧ SameExcept (.lamps :: acceptTouches) s t)
      ∧ (k = .scenes → ScenesAct (fieldAt body 0 1) s t)

/-! ### Resets -/

/-- A POWER-ON and a SUPPLY DIP leave every block at its reset values over the sections as loaded, with the outputs at the
first effective values: both contexts ABSENT, every slot EMPTY, no grant, every channel in DRAG at duty 0, the winch braked
at the hook or idle, sensing restarted, the grants 0, both banks EMPTY, both links empty and RESTARTED pending. A POWER-ON
clears the retained store; a dip keeps the latch, and with it CUTOFF, and counts itself (R19, R37, R57, R76, R99, R117,
R129, R133, R136, R146, R160, R168, R175, R176). The bridges then short the winch at full level and each wheel at the
effective DRAG (R77, R106). Values the rules give no number for are the model's choice: a channel's last ratio 1024 (log
entry 12), the fields of an EMPTY step (13), the clock at 0 (14), the recovery conditions as last tested (20), the
settings in force as loaded (49), and the queue, which stands (1). -/
def Obligations.ResetsLeaveTheResetValues : Prop :=
  ∀ (s : State) (pins : Pins),
    let common (t : State) : Prop :=
      t.radio = RadioCtx.reset ∧ t.comp = CompCtx.reset ∧ t.slots = Slots.reset
      ∧ (∀ f, grantOf t f = ⟨none, none⟩)
      ∧ t.steering = Steering.reset (modeOfIndex (effective t .steermode)) (effective t .steer) t.profile.geometry
      ∧ t.drive = DriveUnit.reset (effective t .drag) ∧ t.winch = WinchUnit.reset (effective t .winch) pins
      ∧ t.sense = Sense.reset t.profile.pack ∧ t.budget = Budget.reset
      ∧ t.lamps.bank0 = Vector.replicate 32 Step.reset ∧ t.lamps.bank1 = Vector.replicate 32 Step.reset
      ∧ t.lamps.active = false ∧ t.lamps.switchPending = false ∧ t.lamps.position = none
      ∧ t.lamps.grant = 0 ∧ t.lamps.blinkOn = false
      ∧ t.radioPort = RadioPort.reset ∧ t.compPort = CompPort.reset pins.selLow
      ∧ t.store.storing = none ∧ t.nowMs = 0 ∧ t.pending = s.pending
      ∧ winchBridge t.winch = .shorted 1000
      ∧ (∀ w, 0 < effective t .drag → wheelBridge (chan t w) = .shorted (effective t .drag).toNat)
      ∧ (t.profile.sources.compNotices.getLsbD 15 = true → t.notices.comp.getLsbD 15 = true)
    (∃ t, exec (.powerOn pins) s = .next t ∧ common t
      ∧ t.retained = { latch := none, dips := 0, lastReset := .powerOn, restartFlag := false, checkOk := true }
      ∧ t.resolver.lockout = false ∧ t.protection = Protection.reset t.profile.pack false)
    ∧ (s.retained.checkOk = true → s.retained.restartFlag = false →
        ∃ t, exec (.supplyDip pins) s = .next t ∧ common t
          ∧ t.retained =
              { s.retained with lastReset := .supplyDip, dips := min 65535 (s.retained.dips + 1) }
          ∧ (t.protection.state = .cutoff ↔ s.retained.latch.isSome = true)
          ∧ (s.retained.latch = none → t.protection.state = .precheck ∧ t.resolver.lockout = false)
          ∧ (s.retained.latch.isSome = true →
              t.resolver.lockout = true ∧ effective t .drive = 0 ∧ effective t .winch = 0))

/-- After every reset kind start-up loads each of the eleven sections from its flash copy where the copy's CRC, its length
and the section's structural checks hold, and takes the section's defaults where any of them fails: a CRC that does not
match, another length, a failed check, or the copy of a store that the reset cut short. PROFILE_DEFAULTED is raised where
a section was defaulted and only there, RESTARTED always, by the notice masks as loaded, and WINCH_LIMIT alone may stand
beside them, where the hook reads closed. The flash copies stand, but for the one of a cut store, which is left broken
(R102, R173, R176). That a copy loads only with its section's length, and what a cut store leaves, are the model's
readings (log entry 33), and that a closed hook raises WINCH_LIMIT at the start is log entry 34. -/
def Obligations.StartUpLoadsOrDefaults : Prop :=
  ∀ (c : Instr) (s : State) (pins : Pins), TakesReset c pins s →
    ∃ t, exec c s = .next t
      ∧ (∀ (k : Sect) (v : Profile), CopyHolds k (copyAtStart s k) v → SameSection k t.profile v)
      ∧ (∀ k : Sect, (∀ v, ¬CopyHolds k (copyAtStart s k) v) → SameSection k t.profile defaultProfile)
      ∧ (∀ k : Sect, t.store.flash.get (sectNumber k) = copyAtStart s k) ∧ t.store.storing = none
      ∧ (let masks := t.profile.sources
          let defaulted := ∃ k, ∀ v, ¬CopyHolds k (copyAtStart s k) v
          (t.notices.comp.getLsbD 15 = masks.compNotices.getLsbD 15)
          ∧ (t.notices.radio.getLsbD 15 = masks.radioNotices.getLsbD 15)
          ∧ (defaulted → t.notices.comp.getLsbD 14 = masks.compNotices.getLsbD 14
              ∧ t.notices.radio.getLsbD 14 = masks.radioNotices.getLsbD 14)
          ∧ (¬defaulted → t.notices.comp.getLsbD 14 = false ∧ t.notices.radio.getLsbD 14 = false)
          ∧ (∀ i, i < 14 → i ≠ 9 → t.notices.comp.getLsbD i = false ∧ t.notices.radio.getLsbD i = false)
          ∧ t.notices.comp.getLsbD 9 = (pins.hookClosed && masks.compNotices.getLsbD 9)
          ∧ t.notices.radio.getLsbD 9 = (pins.hookClosed && masks.radioNotices.getLsbD 9))

end Statements
end

