-- ==== Sys2Proof/Laws/State.lean ====
section
/-! SUPPORT. One lemma per field per replacement of a block's record, each true by rfl. -/
namespace Sys2Proof.Machine

@[simp] theorem State.setRadio_radio (s : State) (v : RadioCtx) : (s.setRadio v).radio = v := rfl
@[simp] theorem State.setRadio_comp (s : State) (v : RadioCtx) : (s.setRadio v).comp = s.comp := rfl
@[simp] theorem State.setRadio_slots (s : State) (v : RadioCtx) : (s.setRadio v).slots = s.slots := rfl
@[simp] theorem State.setRadio_resolver (s : State) (v : RadioCtx) : (s.setRadio v).resolver = s.resolver := rfl
@[simp] theorem State.setRadio_steering (s : State) (v : RadioCtx) : (s.setRadio v).steering = s.steering := rfl
@[simp] theorem State.setRadio_drive (s : State) (v : RadioCtx) : (s.setRadio v).drive = s.drive := rfl
@[simp] theorem State.setRadio_winch (s : State) (v : RadioCtx) : (s.setRadio v).winch = s.winch := rfl
@[simp] theorem State.setRadio_sense (s : State) (v : RadioCtx) : (s.setRadio v).sense = s.sense := rfl
@[simp] theorem State.setRadio_protection (s : State) (v : RadioCtx) : (s.setRadio v).protection = s.protection := rfl
@[simp] theorem State.setRadio_budget (s : State) (v : RadioCtx) : (s.setRadio v).budget = s.budget := rfl
@[simp] theorem State.setRadio_lamps (s : State) (v : RadioCtx) : (s.setRadio v).lamps = s.lamps := rfl
@[simp] theorem State.setRadio_radioPort (s : State) (v : RadioCtx) : (s.setRadio v).radioPort = s.radioPort := rfl
@[simp] theorem State.setRadio_compPort (s : State) (v : RadioCtx) : (s.setRadio v).compPort = s.compPort := rfl
@[simp] theorem State.setRadio_notices (s : State) (v : RadioCtx) : (s.setRadio v).notices = s.notices := rfl
@[simp] theorem State.setRadio_profile (s : State) (v : RadioCtx) : (s.setRadio v).profile = s.profile := rfl
@[simp] theorem State.setRadio_store (s : State) (v : RadioCtx) : (s.setRadio v).store = s.store := rfl
@[simp] theorem State.setRadio_retained (s : State) (v : RadioCtx) : (s.setRadio v).retained = s.retained := rfl
@[simp] theorem State.setRadio_nowMs (s : State) (v : RadioCtx) : (s.setRadio v).nowMs = s.nowMs := rfl
@[simp] theorem State.setRadio_pending (s : State) (v : RadioCtx) : (s.setRadio v).pending = s.pending := rfl
@[simp] theorem State.setRadio_setRadio (s : State) (v v' : RadioCtx) : (s.setRadio v).setRadio v' = s.setRadio v' := rfl
@[simp] theorem State.setComp_radio (s : State) (v : CompCtx) : (s.setComp v).radio = s.radio := rfl
@[simp] theorem State.setComp_comp (s : State) (v : CompCtx) : (s.setComp v).comp = v := rfl
@[simp] theorem State.setComp_slots (s : State) (v : CompCtx) : (s.setComp v).slots = s.slots := rfl
@[simp] theorem State.setComp_resolver (s : State) (v : CompCtx) : (s.setComp v).resolver = s.resolver := rfl
@[simp] theorem State.setComp_steering (s : State) (v : CompCtx) : (s.setComp v).steering = s.steering := rfl
@[simp] theorem State.setComp_drive (s : State) (v : CompCtx) : (s.setComp v).drive = s.drive := rfl
@[simp] theorem State.setComp_winch (s : State) (v : CompCtx) : (s.setComp v).winch = s.winch := rfl
@[simp] theorem State.setComp_sense (s : State) (v : CompCtx) : (s.setComp v).sense = s.sense := rfl
@[simp] theorem State.setComp_protection (s : State) (v : CompCtx) : (s.setComp v).protection = s.protection := rfl
@[simp] theorem State.setComp_budget (s : State) (v : CompCtx) : (s.setComp v).budget = s.budget := rfl
@[simp] theorem State.setComp_lamps (s : State) (v : CompCtx) : (s.setComp v).lamps = s.lamps := rfl
@[simp] theorem State.setComp_radioPort (s : State) (v : CompCtx) : (s.setComp v).radioPort = s.radioPort := rfl
@[simp] theorem State.setComp_compPort (s : State) (v : CompCtx) : (s.setComp v).compPort = s.compPort := rfl
@[simp] theorem State.setComp_notices (s : State) (v : CompCtx) : (s.setComp v).notices = s.notices := rfl
@[simp] theorem State.setComp_profile (s : State) (v : CompCtx) : (s.setComp v).profile = s.profile := rfl
@[simp] theorem State.setComp_store (s : State) (v : CompCtx) : (s.setComp v).store = s.store := rfl
@[simp] theorem State.setComp_retained (s : State) (v : CompCtx) : (s.setComp v).retained = s.retained := rfl
@[simp] theorem State.setComp_nowMs (s : State) (v : CompCtx) : (s.setComp v).nowMs = s.nowMs := rfl
@[simp] theorem State.setComp_pending (s : State) (v : CompCtx) : (s.setComp v).pending = s.pending := rfl
@[simp] theorem State.setComp_setComp (s : State) (v v' : CompCtx) : (s.setComp v).setComp v' = s.setComp v' := rfl
@[simp] theorem State.setSlots_radio (s : State) (v : Slots) : (s.setSlots v).radio = s.radio := rfl
@[simp] theorem State.setSlots_comp (s : State) (v : Slots) : (s.setSlots v).comp = s.comp := rfl
@[simp] theorem State.setSlots_slots (s : State) (v : Slots) : (s.setSlots v).slots = v := rfl
@[simp] theorem State.setSlots_resolver (s : State) (v : Slots) : (s.setSlots v).resolver = s.resolver := rfl
@[simp] theorem State.setSlots_steering (s : State) (v : Slots) : (s.setSlots v).steering = s.steering := rfl
@[simp] theorem State.setSlots_drive (s : State) (v : Slots) : (s.setSlots v).drive = s.drive := rfl
@[simp] theorem State.setSlots_winch (s : State) (v : Slots) : (s.setSlots v).winch = s.winch := rfl
@[simp] theorem State.setSlots_sense (s : State) (v : Slots) : (s.setSlots v).sense = s.sense := rfl
@[simp] theorem State.setSlots_protection (s : State) (v : Slots) : (s.setSlots v).protection = s.protection := rfl
@[simp] theorem State.setSlots_budget (s : State) (v : Slots) : (s.setSlots v).budget = s.budget := rfl
@[simp] theorem State.setSlots_lamps (s : State) (v : Slots) : (s.setSlots v).lamps = s.lamps := rfl
@[simp] theorem State.setSlots_radioPort (s : State) (v : Slots) : (s.setSlots v).radioPort = s.radioPort := rfl
@[simp] theorem State.setSlots_compPort (s : State) (v : Slots) : (s.setSlots v).compPort = s.compPort := rfl
@[simp] theorem State.setSlots_notices (s : State) (v : Slots) : (s.setSlots v).notices = s.notices := rfl
@[simp] theorem State.setSlots_profile (s : State) (v : Slots) : (s.setSlots v).profile = s.profile := rfl
@[simp] theorem State.setSlots_store (s : State) (v : Slots) : (s.setSlots v).store = s.store := rfl
@[simp] theorem State.setSlots_retained (s : State) (v : Slots) : (s.setSlots v).retained = s.retained := rfl
@[simp] theorem State.setSlots_nowMs (s : State) (v : Slots) : (s.setSlots v).nowMs = s.nowMs := rfl
@[simp] theorem State.setSlots_pending (s : State) (v : Slots) : (s.setSlots v).pending = s.pending := rfl
@[simp] theorem State.setSlots_setSlots (s : State) (v v' : Slots) : (s.setSlots v).setSlots v' = s.setSlots v' := rfl
@[simp] theorem State.setResolver_radio (s : State) (v : Resolver) : (s.setResolver v).radio = s.radio := rfl
@[simp] theorem State.setResolver_comp (s : State) (v : Resolver) : (s.setResolver v).comp = s.comp := rfl
@[simp] theorem State.setResolver_slots (s : State) (v : Resolver) : (s.setResolver v).slots = s.slots := rfl
@[simp] theorem State.setResolver_resolver (s : State) (v : Resolver) : (s.setResolver v).resolver = v := rfl
@[simp] theorem State.setResolver_steering (s : State) (v : Resolver) : (s.setResolver v).steering = s.steering := rfl
@[simp] theorem State.setResolver_drive (s : State) (v : Resolver) : (s.setResolver v).drive = s.drive := rfl
@[simp] theorem State.setResolver_winch (s : State) (v : Resolver) : (s.setResolver v).winch = s.winch := rfl
@[simp] theorem State.setResolver_sense (s : State) (v : Resolver) : (s.setResolver v).sense = s.sense := rfl
@[simp] theorem State.setResolver_protection (s : State) (v : Resolver) : (s.setResolver v).protection = s.protection := rfl
@[simp] theorem State.setResolver_budget (s : State) (v : Resolver) : (s.setResolver v).budget = s.budget := rfl
@[simp] theorem State.setResolver_lamps (s : State) (v : Resolver) : (s.setResolver v).lamps = s.lamps := rfl
@[simp] theorem State.setResolver_radioPort (s : State) (v : Resolver) : (s.setResolver v).radioPort = s.radioPort := rfl
@[simp] theorem State.setResolver_compPort (s : State) (v : Resolver) : (s.setResolver v).compPort = s.compPort := rfl
@[simp] theorem State.setResolver_notices (s : State) (v : Resolver) : (s.setResolver v).notices = s.notices := rfl
@[simp] theorem State.setResolver_profile (s : State) (v : Resolver) : (s.setResolver v).profile = s.profile := rfl
@[simp] theorem State.setResolver_store (s : State) (v : Resolver) : (s.setResolver v).store = s.store := rfl
@[simp] theorem State.setResolver_retained (s : State) (v : Resolver) : (s.setResolver v).retained = s.retained := rfl
@[simp] theorem State.setResolver_nowMs (s : State) (v : Resolver) : (s.setResolver v).nowMs = s.nowMs := rfl
@[simp] theorem State.setResolver_pending (s : State) (v : Resolver) : (s.setResolver v).pending = s.pending := rfl
@[simp] theorem State.setResolver_setResolver (s : State) (v v' : Resolver) : (s.setResolver v).setResolver v' = s.setResolver v' := rfl
@[simp] theorem State.setSteering_radio (s : State) (v : Steering) : (s.setSteering v).radio = s.radio := rfl
@[simp] theorem State.setSteering_comp (s : State) (v : Steering) : (s.setSteering v).comp = s.comp := rfl
@[simp] theorem State.setSteering_slots (s : State) (v : Steering) : (s.setSteering v).slots = s.slots := rfl
@[simp] theorem State.setSteering_resolver (s : State) (v : Steering) : (s.setSteering v).resolver = s.resolver := rfl
@[simp] theorem State.setSteering_steering (s : State) (v : Steering) : (s.setSteering v).steering = v := rfl
@[simp] theorem State.setSteering_drive (s : State) (v : Steering) : (s.setSteering v).drive = s.drive := rfl
@[simp] theorem State.setSteering_winch (s : State) (v : Steering) : (s.setSteering v).winch = s.winch := rfl
@[simp] theorem State.setSteering_sense (s : State) (v : Steering) : (s.setSteering v).sense = s.sense := rfl
@[simp] theorem State.setSteering_protection (s : State) (v : Steering) : (s.setSteering v).protection = s.protection := rfl
@[simp] theorem State.setSteering_budget (s : State) (v : Steering) : (s.setSteering v).budget = s.budget := rfl
@[simp] theorem State.setSteering_lamps (s : State) (v : Steering) : (s.setSteering v).lamps = s.lamps := rfl
@[simp] theorem State.setSteering_radioPort (s : State) (v : Steering) : (s.setSteering v).radioPort = s.radioPort := rfl
@[simp] theorem State.setSteering_compPort (s : State) (v : Steering) : (s.setSteering v).compPort = s.compPort := rfl
@[simp] theorem State.setSteering_notices (s : State) (v : Steering) : (s.setSteering v).notices = s.notices := rfl
@[simp] theorem State.setSteering_profile (s : State) (v : Steering) : (s.setSteering v).profile = s.profile := rfl
@[simp] theorem State.setSteering_store (s : State) (v : Steering) : (s.setSteering v).store = s.store := rfl
@[simp] theorem State.setSteering_retained (s : State) (v : Steering) : (s.setSteering v).retained = s.retained := rfl
@[simp] theorem State.setSteering_nowMs (s : State) (v : Steering) : (s.setSteering v).nowMs = s.nowMs := rfl
@[simp] theorem State.setSteering_pending (s : State) (v : Steering) : (s.setSteering v).pending = s.pending := rfl
@[simp] theorem State.setSteering_setSteering (s : State) (v v' : Steering) : (s.setSteering v).setSteering v' = s.setSteering v' := rfl
@[simp] theorem State.setDrive_radio (s : State) (v : DriveUnit) : (s.setDrive v).radio = s.radio := rfl
@[simp] theorem State.setDrive_comp (s : State) (v : DriveUnit) : (s.setDrive v).comp = s.comp := rfl
@[simp] theorem State.setDrive_slots (s : State) (v : DriveUnit) : (s.setDrive v).slots = s.slots := rfl
@[simp] theorem State.setDrive_resolver (s : State) (v : DriveUnit) : (s.setDrive v).resolver = s.resolver := rfl
@[simp] theorem State.setDrive_steering (s : State) (v : DriveUnit) : (s.setDrive v).steering = s.steering := rfl
@[simp] theorem State.setDrive_drive (s : State) (v : DriveUnit) : (s.setDrive v).drive = v := rfl
@[simp] theorem State.setDrive_winch (s : State) (v : DriveUnit) : (s.setDrive v).winch = s.winch := rfl
@[simp] theorem State.setDrive_sense (s : State) (v : DriveUnit) : (s.setDrive v).sense = s.sense := rfl
@[simp] theorem State.setDrive_protection (s : State) (v : DriveUnit) : (s.setDrive v).protection = s.protection := rfl
@[simp] theorem State.setDrive_budget (s : State) (v : DriveUnit) : (s.setDrive v).budget = s.budget := rfl
@[simp] theorem State.setDrive_lamps (s : State) (v : DriveUnit) : (s.setDrive v).lamps = s.lamps := rfl
@[simp] theorem State.setDrive_radioPort (s : State) (v : DriveUnit) : (s.setDrive v).radioPort = s.radioPort := rfl
@[simp] theorem State.setDrive_compPort (s : State) (v : DriveUnit) : (s.setDrive v).compPort = s.compPort := rfl
@[simp] theorem State.setDrive_notices (s : State) (v : DriveUnit) : (s.setDrive v).notices = s.notices := rfl
@[simp] theorem State.setDrive_profile (s : State) (v : DriveUnit) : (s.setDrive v).profile = s.profile := rfl
@[simp] theorem State.setDrive_store (s : State) (v : DriveUnit) : (s.setDrive v).store = s.store := rfl
@[simp] theorem State.setDrive_retained (s : State) (v : DriveUnit) : (s.setDrive v).retained = s.retained := rfl
@[simp] theorem State.setDrive_nowMs (s : State) (v : DriveUnit) : (s.setDrive v).nowMs = s.nowMs := rfl
@[simp] theorem State.setDrive_pending (s : State) (v : DriveUnit) : (s.setDrive v).pending = s.pending := rfl
@[simp] theorem State.setDrive_setDrive (s : State) (v v' : DriveUnit) : (s.setDrive v).setDrive v' = s.setDrive v' := rfl
@[simp] theorem State.setWinch_radio (s : State) (v : WinchUnit) : (s.setWinch v).radio = s.radio := rfl
@[simp] theorem State.setWinch_comp (s : State) (v : WinchUnit) : (s.setWinch v).comp = s.comp := rfl
@[simp] theorem State.setWinch_slots (s : State) (v : WinchUnit) : (s.setWinch v).slots = s.slots := rfl
@[simp] theorem State.setWinch_resolver (s : State) (v : WinchUnit) : (s.setWinch v).resolver = s.resolver := rfl
@[simp] theorem State.setWinch_steering (s : State) (v : WinchUnit) : (s.setWinch v).steering = s.steering := rfl
@[simp] theorem State.setWinch_drive (s : State) (v : WinchUnit) : (s.setWinch v).drive = s.drive := rfl
@[simp] theorem State.setWinch_winch (s : State) (v : WinchUnit) : (s.setWinch v).winch = v := rfl
@[simp] theorem State.setWinch_sense (s : State) (v : WinchUnit) : (s.setWinch v).sense = s.sense := rfl
@[simp] theorem State.setWinch_protection (s : State) (v : WinchUnit) : (s.setWinch v).protection = s.protection := rfl
@[simp] theorem State.setWinch_budget (s : State) (v : WinchUnit) : (s.setWinch v).budget = s.budget := rfl
@[simp] theorem State.setWinch_lamps (s : State) (v : WinchUnit) : (s.setWinch v).lamps = s.lamps := rfl
@[simp] theorem State.setWinch_radioPort (s : State) (v : WinchUnit) : (s.setWinch v).radioPort = s.radioPort := rfl
@[simp] theorem State.setWinch_compPort (s : State) (v : WinchUnit) : (s.setWinch v).compPort = s.compPort := rfl
@[simp] theorem State.setWinch_notices (s : State) (v : WinchUnit) : (s.setWinch v).notices = s.notices := rfl
@[simp] theorem State.setWinch_profile (s : State) (v : WinchUnit) : (s.setWinch v).profile = s.profile := rfl
@[simp] theorem State.setWinch_store (s : State) (v : WinchUnit) : (s.setWinch v).store = s.store := rfl
@[simp] theorem State.setWinch_retained (s : State) (v : WinchUnit) : (s.setWinch v).retained = s.retained := rfl
@[simp] theorem State.setWinch_nowMs (s : State) (v : WinchUnit) : (s.setWinch v).nowMs = s.nowMs := rfl
@[simp] theorem State.setWinch_pending (s : State) (v : WinchUnit) : (s.setWinch v).pending = s.pending := rfl
@[simp] theorem State.setWinch_setWinch (s : State) (v v' : WinchUnit) : (s.setWinch v).setWinch v' = s.setWinch v' := rfl
@[simp] theorem State.setSense_radio (s : State) (v : Sense) : (s.setSense v).radio = s.radio := rfl
@[simp] theorem State.setSense_comp (s : State) (v : Sense) : (s.setSense v).comp = s.comp := rfl
@[simp] theorem State.setSense_slots (s : State) (v : Sense) : (s.setSense v).slots = s.slots := rfl
@[simp] theorem State.setSense_resolver (s : State) (v : Sense) : (s.setSense v).resolver = s.resolver := rfl
@[simp] theorem State.setSense_steering (s : State) (v : Sense) : (s.setSense v).steering = s.steering := rfl
@[simp] theorem State.setSense_drive (s : State) (v : Sense) : (s.setSense v).drive = s.drive := rfl
@[simp] theorem State.setSense_winch (s : State) (v : Sense) : (s.setSense v).winch = s.winch := rfl
@[simp] theorem State.setSense_sense (s : State) (v : Sense) : (s.setSense v).sense = v := rfl
@[simp] theorem State.setSense_protection (s : State) (v : Sense) : (s.setSense v).protection = s.protection := rfl
@[simp] theorem State.setSense_budget (s : State) (v : Sense) : (s.setSense v).budget = s.budget := rfl
@[simp] theorem State.setSense_lamps (s : State) (v : Sense) : (s.setSense v).lamps = s.lamps := rfl
@[simp] theorem State.setSense_radioPort (s : State) (v : Sense) : (s.setSense v).radioPort = s.radioPort := rfl
@[simp] theorem State.setSense_compPort (s : State) (v : Sense) : (s.setSense v).compPort = s.compPort := rfl
@[simp] theorem State.setSense_notices (s : State) (v : Sense) : (s.setSense v).notices = s.notices := rfl
@[simp] theorem State.setSense_profile (s : State) (v : Sense) : (s.setSense v).profile = s.profile := rfl
@[simp] theorem State.setSense_store (s : State) (v : Sense) : (s.setSense v).store = s.store := rfl
@[simp] theorem State.setSense_retained (s : State) (v : Sense) : (s.setSense v).retained = s.retained := rfl
@[simp] theorem State.setSense_nowMs (s : State) (v : Sense) : (s.setSense v).nowMs = s.nowMs := rfl
@[simp] theorem State.setSense_pending (s : State) (v : Sense) : (s.setSense v).pending = s.pending := rfl
@[simp] theorem State.setSense_setSense (s : State) (v v' : Sense) : (s.setSense v).setSense v' = s.setSense v' := rfl
@[simp] theorem State.setProtection_radio (s : State) (v : Protection) : (s.setProtection v).radio = s.radio := rfl
@[simp] theorem State.setProtection_comp (s : State) (v : Protection) : (s.setProtection v).comp = s.comp := rfl
@[simp] theorem State.setProtection_slots (s : State) (v : Protection) : (s.setProtection v).slots = s.slots := rfl
@[simp] theorem State.setProtection_resolver (s : State) (v : Protection) : (s.setProtection v).resolver = s.resolver := rfl
@[simp] theorem State.setProtection_steering (s : State) (v : Protection) : (s.setProtection v).steering = s.steering := rfl
@[simp] theorem State.setProtection_drive (s : State) (v : Protection) : (s.setProtection v).drive = s.drive := rfl
@[simp] theorem State.setProtection_winch (s : State) (v : Protection) : (s.setProtection v).winch = s.winch := rfl
@[simp] theorem State.setProtection_sense (s : State) (v : Protection) : (s.setProtection v).sense = s.sense := rfl
@[simp] theorem State.setProtection_protection (s : State) (v : Protection) : (s.setProtection v).protection = v := rfl
@[simp] theorem State.setProtection_budget (s : State) (v : Protection) : (s.setProtection v).budget = s.budget := rfl
@[simp] theorem State.setProtection_lamps (s : State) (v : Protection) : (s.setProtection v).lamps = s.lamps := rfl
@[simp] theorem State.setProtection_radioPort (s : State) (v : Protection) : (s.setProtection v).radioPort = s.radioPort := rfl
@[simp] theorem State.setProtection_compPort (s : State) (v : Protection) : (s.setProtection v).compPort = s.compPort := rfl
@[simp] theorem State.setProtection_notices (s : State) (v : Protection) : (s.setProtection v).notices = s.notices := rfl
@[simp] theorem State.setProtection_profile (s : State) (v : Protection) : (s.setProtection v).profile = s.profile := rfl
@[simp] theorem State.setProtection_store (s : State) (v : Protection) : (s.setProtection v).store = s.store := rfl
@[simp] theorem State.setProtection_retained (s : State) (v : Protection) : (s.setProtection v).retained = s.retained := rfl
@[simp] theorem State.setProtection_nowMs (s : State) (v : Protection) : (s.setProtection v).nowMs = s.nowMs := rfl
@[simp] theorem State.setProtection_pending (s : State) (v : Protection) : (s.setProtection v).pending = s.pending := rfl
@[simp] theorem State.setProtection_setProtection (s : State) (v v' : Protection) : (s.setProtection v).setProtection v' = s.setProtection v' := rfl
@[simp] theorem State.setBudget_radio (s : State) (v : Budget) : (s.setBudget v).radio = s.radio := rfl
@[simp] theorem State.setBudget_comp (s : State) (v : Budget) : (s.setBudget v).comp = s.comp := rfl
@[simp] theorem State.setBudget_slots (s : State) (v : Budget) : (s.setBudget v).slots = s.slots := rfl
@[simp] theorem State.setBudget_resolver (s : State) (v : Budget) : (s.setBudget v).resolver = s.resolver := rfl
@[simp] theorem State.setBudget_steering (s : State) (v : Budget) : (s.setBudget v).steering = s.steering := rfl
@[simp] theorem State.setBudget_drive (s : State) (v : Budget) : (s.setBudget v).drive = s.drive := rfl
@[simp] theorem State.setBudget_winch (s : State) (v : Budget) : (s.setBudget v).winch = s.winch := rfl
@[simp] theorem State.setBudget_sense (s : State) (v : Budget) : (s.setBudget v).sense = s.sense := rfl
@[simp] theorem State.setBudget_protection (s : State) (v : Budget) : (s.setBudget v).protection = s.protection := rfl
@[simp] theorem State.setBudget_budget (s : State) (v : Budget) : (s.setBudget v).budget = v := rfl
@[simp] theorem State.setBudget_lamps (s : State) (v : Budget) : (s.setBudget v).lamps = s.lamps := rfl
@[simp] theorem State.setBudget_radioPort (s : State) (v : Budget) : (s.setBudget v).radioPort = s.radioPort := rfl
@[simp] theorem State.setBudget_compPort (s : State) (v : Budget) : (s.setBudget v).compPort = s.compPort := rfl
@[simp] theorem State.setBudget_notices (s : State) (v : Budget) : (s.setBudget v).notices = s.notices := rfl
@[simp] theorem State.setBudget_profile (s : State) (v : Budget) : (s.setBudget v).profile = s.profile := rfl
@[simp] theorem State.setBudget_store (s : State) (v : Budget) : (s.setBudget v).store = s.store := rfl
@[simp] theorem State.setBudget_retained (s : State) (v : Budget) : (s.setBudget v).retained = s.retained := rfl
@[simp] theorem State.setBudget_nowMs (s : State) (v : Budget) : (s.setBudget v).nowMs = s.nowMs := rfl
@[simp] theorem State.setBudget_pending (s : State) (v : Budget) : (s.setBudget v).pending = s.pending := rfl
@[simp] theorem State.setBudget_setBudget (s : State) (v v' : Budget) : (s.setBudget v).setBudget v' = s.setBudget v' := rfl
@[simp] theorem State.setLamps_radio (s : State) (v : LampUnit) : (s.setLamps v).radio = s.radio := rfl
@[simp] theorem State.setLamps_comp (s : State) (v : LampUnit) : (s.setLamps v).comp = s.comp := rfl
@[simp] theorem State.setLamps_slots (s : State) (v : LampUnit) : (s.setLamps v).slots = s.slots := rfl
@[simp] theorem State.setLamps_resolver (s : State) (v : LampUnit) : (s.setLamps v).resolver = s.resolver := rfl
@[simp] theorem State.setLamps_steering (s : State) (v : LampUnit) : (s.setLamps v).steering = s.steering := rfl
@[simp] theorem State.setLamps_drive (s : State) (v : LampUnit) : (s.setLamps v).drive = s.drive := rfl
@[simp] theorem State.setLamps_winch (s : State) (v : LampUnit) : (s.setLamps v).winch = s.winch := rfl
@[simp] theorem State.setLamps_sense (s : State) (v : LampUnit) : (s.setLamps v).sense = s.sense := rfl
@[simp] theorem State.setLamps_protection (s : State) (v : LampUnit) : (s.setLamps v).protection = s.protection := rfl
@[simp] theorem State.setLamps_budget (s : State) (v : LampUnit) : (s.setLamps v).budget = s.budget := rfl
@[simp] theorem State.setLamps_lamps (s : State) (v : LampUnit) : (s.setLamps v).lamps = v := rfl
@[simp] theorem State.setLamps_radioPort (s : State) (v : LampUnit) : (s.setLamps v).radioPort = s.radioPort := rfl
@[simp] theorem State.setLamps_compPort (s : State) (v : LampUnit) : (s.setLamps v).compPort = s.compPort := rfl
@[simp] theorem State.setLamps_notices (s : State) (v : LampUnit) : (s.setLamps v).notices = s.notices := rfl
@[simp] theorem State.setLamps_profile (s : State) (v : LampUnit) : (s.setLamps v).profile = s.profile := rfl
@[simp] theorem State.setLamps_store (s : State) (v : LampUnit) : (s.setLamps v).store = s.store := rfl
@[simp] theorem State.setLamps_retained (s : State) (v : LampUnit) : (s.setLamps v).retained = s.retained := rfl
@[simp] theorem State.setLamps_nowMs (s : State) (v : LampUnit) : (s.setLamps v).nowMs = s.nowMs := rfl
@[simp] theorem State.setLamps_pending (s : State) (v : LampUnit) : (s.setLamps v).pending = s.pending := rfl
@[simp] theorem State.setLamps_setLamps (s : State) (v v' : LampUnit) : (s.setLamps v).setLamps v' = s.setLamps v' := rfl
@[simp] theorem State.setRadioPort_radio (s : State) (v : RadioPort) : (s.setRadioPort v).radio = s.radio := rfl
@[simp] theorem State.setRadioPort_comp (s : State) (v : RadioPort) : (s.setRadioPort v).comp = s.comp := rfl
@[simp] theorem State.setRadioPort_slots (s : State) (v : RadioPort) : (s.setRadioPort v).slots = s.slots := rfl
@[simp] theorem State.setRadioPort_resolver (s : State) (v : RadioPort) : (s.setRadioPort v).resolver = s.resolver := rfl
@[simp] theorem State.setRadioPort_steering (s : State) (v : RadioPort) : (s.setRadioPort v).steering = s.steering := rfl
@[simp] theorem State.setRadioPort_drive (s : State) (v : RadioPort) : (s.setRadioPort v).drive = s.drive := rfl
@[simp] theorem State.setRadioPort_winch (s : State) (v : RadioPort) : (s.setRadioPort v).winch = s.winch := rfl
@[simp] theorem State.setRadioPort_sense (s : State) (v : RadioPort) : (s.setRadioPort v).sense = s.sense := rfl
@[simp] theorem State.setRadioPort_protection (s : State) (v : RadioPort) : (s.setRadioPort v).protection = s.protection := rfl
@[simp] theorem State.setRadioPort_budget (s : State) (v : RadioPort) : (s.setRadioPort v).budget = s.budget := rfl
@[simp] theorem State.setRadioPort_lamps (s : State) (v : RadioPort) : (s.setRadioPort v).lamps = s.lamps := rfl
@[simp] theorem State.setRadioPort_radioPort (s : State) (v : RadioPort) : (s.setRadioPort v).radioPort = v := rfl
@[simp] theorem State.setRadioPort_compPort (s : State) (v : RadioPort) : (s.setRadioPort v).compPort = s.compPort := rfl
@[simp] theorem State.setRadioPort_notices (s : State) (v : RadioPort) : (s.setRadioPort v).notices = s.notices := rfl
@[simp] theorem State.setRadioPort_profile (s : State) (v : RadioPort) : (s.setRadioPort v).profile = s.profile := rfl
@[simp] theorem State.setRadioPort_store (s : State) (v : RadioPort) : (s.setRadioPort v).store = s.store := rfl
@[simp] theorem State.setRadioPort_retained (s : State) (v : RadioPort) : (s.setRadioPort v).retained = s.retained := rfl
@[simp] theorem State.setRadioPort_nowMs (s : State) (v : RadioPort) : (s.setRadioPort v).nowMs = s.nowMs := rfl
@[simp] theorem State.setRadioPort_pending (s : State) (v : RadioPort) : (s.setRadioPort v).pending = s.pending := rfl
@[simp] theorem State.setRadioPort_setRadioPort (s : State) (v v' : RadioPort) : (s.setRadioPort v).setRadioPort v' = s.setRadioPort v' := rfl
@[simp] theorem State.setCompPort_radio (s : State) (v : CompPort) : (s.setCompPort v).radio = s.radio := rfl
@[simp] theorem State.setCompPort_comp (s : State) (v : CompPort) : (s.setCompPort v).comp = s.comp := rfl
@[simp] theorem State.setCompPort_slots (s : State) (v : CompPort) : (s.setCompPort v).slots = s.slots := rfl
@[simp] theorem State.setCompPort_resolver (s : State) (v : CompPort) : (s.setCompPort v).resolver = s.resolver := rfl
@[simp] theorem State.setCompPort_steering (s : State) (v : CompPort) : (s.setCompPort v).steering = s.steering := rfl
@[simp] theorem State.setCompPort_drive (s : State) (v : CompPort) : (s.setCompPort v).drive = s.drive := rfl
@[simp] theorem State.setCompPort_winch (s : State) (v : CompPort) : (s.setCompPort v).winch = s.winch := rfl
@[simp] theorem State.setCompPort_sense (s : State) (v : CompPort) : (s.setCompPort v).sense = s.sense := rfl
@[simp] theorem State.setCompPort_protection (s : State) (v : CompPort) : (s.setCompPort v).protection = s.protection := rfl
@[simp] theorem State.setCompPort_budget (s : State) (v : CompPort) : (s.setCompPort v).budget = s.budget := rfl
@[simp] theorem State.setCompPort_lamps (s : State) (v : CompPort) : (s.setCompPort v).lamps = s.lamps := rfl
@[simp] theorem State.setCompPort_radioPort (s : State) (v : CompPort) : (s.setCompPort v).radioPort = s.radioPort := rfl
@[simp] theorem State.setCompPort_compPort (s : State) (v : CompPort) : (s.setCompPort v).compPort = v := rfl
@[simp] theorem State.setCompPort_notices (s : State) (v : CompPort) : (s.setCompPort v).notices = s.notices := rfl
@[simp] theorem State.setCompPort_profile (s : State) (v : CompPort) : (s.setCompPort v).profile = s.profile := rfl
@[simp] theorem State.setCompPort_store (s : State) (v : CompPort) : (s.setCompPort v).store = s.store := rfl
@[simp] theorem State.setCompPort_retained (s : State) (v : CompPort) : (s.setCompPort v).retained = s.retained := rfl
@[simp] theorem State.setCompPort_nowMs (s : State) (v : CompPort) : (s.setCompPort v).nowMs = s.nowMs := rfl
@[simp] theorem State.setCompPort_pending (s : State) (v : CompPort) : (s.setCompPort v).pending = s.pending := rfl
@[simp] theorem State.setCompPort_setCompPort (s : State) (v v' : CompPort) : (s.setCompPort v).setCompPort v' = s.setCompPort v' := rfl
@[simp] theorem State.setNotices_radio (s : State) (v : Notices) : (s.setNotices v).radio = s.radio := rfl
@[simp] theorem State.setNotices_comp (s : State) (v : Notices) : (s.setNotices v).comp = s.comp := rfl
@[simp] theorem State.setNotices_slots (s : State) (v : Notices) : (s.setNotices v).slots = s.slots := rfl
@[simp] theorem State.setNotices_resolver (s : State) (v : Notices) : (s.setNotices v).resolver = s.resolver := rfl
@[simp] theorem State.setNotices_steering (s : State) (v : Notices) : (s.setNotices v).steering = s.steering := rfl
@[simp] theorem State.setNotices_drive (s : State) (v : Notices) : (s.setNotices v).drive = s.drive := rfl
@[simp] theorem State.setNotices_winch (s : State) (v : Notices) : (s.setNotices v).winch = s.winch := rfl
@[simp] theorem State.setNotices_sense (s : State) (v : Notices) : (s.setNotices v).sense = s.sense := rfl
@[simp] theorem State.setNotices_protection (s : State) (v : Notices) : (s.setNotices v).protection = s.protection := rfl
@[simp] theorem State.setNotices_budget (s : State) (v : Notices) : (s.setNotices v).budget = s.budget := rfl
@[simp] theorem State.setNotices_lamps (s : State) (v : Notices) : (s.setNotices v).lamps = s.lamps := rfl
@[simp] theorem State.setNotices_radioPort (s : State) (v : Notices) : (s.setNotices v).radioPort = s.radioPort := rfl
@[simp] theorem State.setNotices_compPort (s : State) (v : Notices) : (s.setNotices v).compPort = s.compPort := rfl
@[simp] theorem State.setNotices_notices (s : State) (v : Notices) : (s.setNotices v).notices = v := rfl
@[simp] theorem State.setNotices_profile (s : State) (v : Notices) : (s.setNotices v).profile = s.profile := rfl
@[simp] theorem State.setNotices_store (s : State) (v : Notices) : (s.setNotices v).store = s.store := rfl
@[simp] theorem State.setNotices_retained (s : State) (v : Notices) : (s.setNotices v).retained = s.retained := rfl
@[simp] theorem State.setNotices_nowMs (s : State) (v : Notices) : (s.setNotices v).nowMs = s.nowMs := rfl
@[simp] theorem State.setNotices_pending (s : State) (v : Notices) : (s.setNotices v).pending = s.pending := rfl
@[simp] theorem State.setNotices_setNotices (s : State) (v v' : Notices) : (s.setNotices v).setNotices v' = s.setNotices v' := rfl
@[simp] theorem State.setProfile_radio (s : State) (v : Profile) : (s.setProfile v).radio = s.radio := rfl
@[simp] theorem State.setProfile_comp (s : State) (v : Profile) : (s.setProfile v).comp = s.comp := rfl
@[simp] theorem State.setProfile_slots (s : State) (v : Profile) : (s.setProfile v).slots = s.slots := rfl
@[simp] theorem State.setProfile_resolver (s : State) (v : Profile) : (s.setProfile v).resolver = s.resolver := rfl
@[simp] theorem State.setProfile_steering (s : State) (v : Profile) : (s.setProfile v).steering = s.steering := rfl
@[simp] theorem State.setProfile_drive (s : State) (v : Profile) : (s.setProfile v).drive = s.drive := rfl
@[simp] theorem State.setProfile_winch (s : State) (v : Profile) : (s.setProfile v).winch = s.winch := rfl
@[simp] theorem State.setProfile_sense (s : State) (v : Profile) : (s.setProfile v).sense = s.sense := rfl
@[simp] theorem State.setProfile_protection (s : State) (v : Profile) : (s.setProfile v).protection = s.protection := rfl
@[simp] theorem State.setProfile_budget (s : State) (v : Profile) : (s.setProfile v).budget = s.budget := rfl
@[simp] theorem State.setProfile_lamps (s : State) (v : Profile) : (s.setProfile v).lamps = s.lamps := rfl
@[simp] theorem State.setProfile_radioPort (s : State) (v : Profile) : (s.setProfile v).radioPort = s.radioPort := rfl
@[simp] theorem State.setProfile_compPort (s : State) (v : Profile) : (s.setProfile v).compPort = s.compPort := rfl
@[simp] theorem State.setProfile_notices (s : State) (v : Profile) : (s.setProfile v).notices = s.notices := rfl
@[simp] theorem State.setProfile_profile (s : State) (v : Profile) : (s.setProfile v).profile = v := rfl
@[simp] theorem State.setProfile_store (s : State) (v : Profile) : (s.setProfile v).store = s.store := rfl
@[simp] theorem State.setProfile_retained (s : State) (v : Profile) : (s.setProfile v).retained = s.retained := rfl
@[simp] theorem State.setProfile_nowMs (s : State) (v : Profile) : (s.setProfile v).nowMs = s.nowMs := rfl
@[simp] theorem State.setProfile_pending (s : State) (v : Profile) : (s.setProfile v).pending = s.pending := rfl
@[simp] theorem State.setProfile_setProfile (s : State) (v v' : Profile) : (s.setProfile v).setProfile v' = s.setProfile v' := rfl
@[simp] theorem State.setStore_radio (s : State) (v : Store) : (s.setStore v).radio = s.radio := rfl
@[simp] theorem State.setStore_comp (s : State) (v : Store) : (s.setStore v).comp = s.comp := rfl
@[simp] theorem State.setStore_slots (s : State) (v : Store) : (s.setStore v).slots = s.slots := rfl
@[simp] theorem State.setStore_resolver (s : State) (v : Store) : (s.setStore v).resolver = s.resolver := rfl
@[simp] theorem State.setStore_steering (s : State) (v : Store) : (s.setStore v).steering = s.steering := rfl
@[simp] theorem State.setStore_drive (s : State) (v : Store) : (s.setStore v).drive = s.drive := rfl
@[simp] theorem State.setStore_winch (s : State) (v : Store) : (s.setStore v).winch = s.winch := rfl
@[simp] theorem State.setStore_sense (s : State) (v : Store) : (s.setStore v).sense = s.sense := rfl
@[simp] theorem State.setStore_protection (s : State) (v : Store) : (s.setStore v).protection = s.protection := rfl
@[simp] theorem State.setStore_budget (s : State) (v : Store) : (s.setStore v).budget = s.budget := rfl
@[simp] theorem State.setStore_lamps (s : State) (v : Store) : (s.setStore v).lamps = s.lamps := rfl
@[simp] theorem State.setStore_radioPort (s : State) (v : Store) : (s.setStore v).radioPort = s.radioPort := rfl
@[simp] theorem State.setStore_compPort (s : State) (v : Store) : (s.setStore v).compPort = s.compPort := rfl
@[simp] theorem State.setStore_notices (s : State) (v : Store) : (s.setStore v).notices = s.notices := rfl
@[simp] theorem State.setStore_profile (s : State) (v : Store) : (s.setStore v).profile = s.profile := rfl
@[simp] theorem State.setStore_store (s : State) (v : Store) : (s.setStore v).store = v := rfl
@[simp] theorem State.setStore_retained (s : State) (v : Store) : (s.setStore v).retained = s.retained := rfl
@[simp] theorem State.setStore_nowMs (s : State) (v : Store) : (s.setStore v).nowMs = s.nowMs := rfl
@[simp] theorem State.setStore_pending (s : State) (v : Store) : (s.setStore v).pending = s.pending := rfl
@[simp] theorem State.setStore_setStore (s : State) (v v' : Store) : (s.setStore v).setStore v' = s.setStore v' := rfl
@[simp] theorem State.setRetained_radio (s : State) (v : Retained) : (s.setRetained v).radio = s.radio := rfl
@[simp] theorem State.setRetained_comp (s : State) (v : Retained) : (s.setRetained v).comp = s.comp := rfl
@[simp] theorem State.setRetained_slots (s : State) (v : Retained) : (s.setRetained v).slots = s.slots := rfl
@[simp] theorem State.setRetained_resolver (s : State) (v : Retained) : (s.setRetained v).resolver = s.resolver := rfl
@[simp] theorem State.setRetained_steering (s : State) (v : Retained) : (s.setRetained v).steering = s.steering := rfl
@[simp] theorem State.setRetained_drive (s : State) (v : Retained) : (s.setRetained v).drive = s.drive := rfl
@[simp] theorem State.setRetained_winch (s : State) (v : Retained) : (s.setRetained v).winch = s.winch := rfl
@[simp] theorem State.setRetained_sense (s : State) (v : Retained) : (s.setRetained v).sense = s.sense := rfl
@[simp] theorem State.setRetained_protection (s : State) (v : Retained) : (s.setRetained v).protection = s.protection := rfl
@[simp] theorem State.setRetained_budget (s : State) (v : Retained) : (s.setRetained v).budget = s.budget := rfl
@[simp] theorem State.setRetained_lamps (s : State) (v : Retained) : (s.setRetained v).lamps = s.lamps := rfl
@[simp] theorem State.setRetained_radioPort (s : State) (v : Retained) : (s.setRetained v).radioPort = s.radioPort := rfl
@[simp] theorem State.setRetained_compPort (s : State) (v : Retained) : (s.setRetained v).compPort = s.compPort := rfl
@[simp] theorem State.setRetained_notices (s : State) (v : Retained) : (s.setRetained v).notices = s.notices := rfl
@[simp] theorem State.setRetained_profile (s : State) (v : Retained) : (s.setRetained v).profile = s.profile := rfl
@[simp] theorem State.setRetained_store (s : State) (v : Retained) : (s.setRetained v).store = s.store := rfl
@[simp] theorem State.setRetained_retained (s : State) (v : Retained) : (s.setRetained v).retained = v := rfl
@[simp] theorem State.setRetained_nowMs (s : State) (v : Retained) : (s.setRetained v).nowMs = s.nowMs := rfl
@[simp] theorem State.setRetained_pending (s : State) (v : Retained) : (s.setRetained v).pending = s.pending := rfl
@[simp] theorem State.setRetained_setRetained (s : State) (v v' : Retained) : (s.setRetained v).setRetained v' = s.setRetained v' := rfl
@[simp] theorem State.setNowMs_radio (s : State) (v : Nat) : (s.setNowMs v).radio = s.radio := rfl
@[simp] theorem State.setNowMs_comp (s : State) (v : Nat) : (s.setNowMs v).comp = s.comp := rfl
@[simp] theorem State.setNowMs_slots (s : State) (v : Nat) : (s.setNowMs v).slots = s.slots := rfl
@[simp] theorem State.setNowMs_resolver (s : State) (v : Nat) : (s.setNowMs v).resolver = s.resolver := rfl
@[simp] theorem State.setNowMs_steering (s : State) (v : Nat) : (s.setNowMs v).steering = s.steering := rfl
@[simp] theorem State.setNowMs_drive (s : State) (v : Nat) : (s.setNowMs v).drive = s.drive := rfl
@[simp] theorem State.setNowMs_winch (s : State) (v : Nat) : (s.setNowMs v).winch = s.winch := rfl
@[simp] theorem State.setNowMs_sense (s : State) (v : Nat) : (s.setNowMs v).sense = s.sense := rfl
@[simp] theorem State.setNowMs_protection (s : State) (v : Nat) : (s.setNowMs v).protection = s.protection := rfl
@[simp] theorem State.setNowMs_budget (s : State) (v : Nat) : (s.setNowMs v).budget = s.budget := rfl
@[simp] theorem State.setNowMs_lamps (s : State) (v : Nat) : (s.setNowMs v).lamps = s.lamps := rfl
@[simp] theorem State.setNowMs_radioPort (s : State) (v : Nat) : (s.setNowMs v).radioPort = s.radioPort := rfl
@[simp] theorem State.setNowMs_compPort (s : State) (v : Nat) : (s.setNowMs v).compPort = s.compPort := rfl
@[simp] theorem State.setNowMs_notices (s : State) (v : Nat) : (s.setNowMs v).notices = s.notices := rfl
@[simp] theorem State.setNowMs_profile (s : State) (v : Nat) : (s.setNowMs v).profile = s.profile := rfl
@[simp] theorem State.setNowMs_store (s : State) (v : Nat) : (s.setNowMs v).store = s.store := rfl
@[simp] theorem State.setNowMs_retained (s : State) (v : Nat) : (s.setNowMs v).retained = s.retained := rfl
@[simp] theorem State.setNowMs_nowMs (s : State) (v : Nat) : (s.setNowMs v).nowMs = v := rfl
@[simp] theorem State.setNowMs_pending (s : State) (v : Nat) : (s.setNowMs v).pending = s.pending := rfl
@[simp] theorem State.setNowMs_setNowMs (s : State) (v v' : Nat) : (s.setNowMs v).setNowMs v' = s.setNowMs v' := rfl
@[simp] theorem State.setPending_radio (s : State) (v : List Instr) : (s.setPending v).radio = s.radio := rfl
@[simp] theorem State.setPending_comp (s : State) (v : List Instr) : (s.setPending v).comp = s.comp := rfl
@[simp] theorem State.setPending_slots (s : State) (v : List Instr) : (s.setPending v).slots = s.slots := rfl
@[simp] theorem State.setPending_resolver (s : State) (v : List Instr) : (s.setPending v).resolver = s.resolver := rfl
@[simp] theorem State.setPending_steering (s : State) (v : List Instr) : (s.setPending v).steering = s.steering := rfl
@[simp] theorem State.setPending_drive (s : State) (v : List Instr) : (s.setPending v).drive = s.drive := rfl
@[simp] theorem State.setPending_winch (s : State) (v : List Instr) : (s.setPending v).winch = s.winch := rfl
@[simp] theorem State.setPending_sense (s : State) (v : List Instr) : (s.setPending v).sense = s.sense := rfl
@[simp] theorem State.setPending_protection (s : State) (v : List Instr) : (s.setPending v).protection = s.protection := rfl
@[simp] theorem State.setPending_budget (s : State) (v : List Instr) : (s.setPending v).budget = s.budget := rfl
@[simp] theorem State.setPending_lamps (s : State) (v : List Instr) : (s.setPending v).lamps = s.lamps := rfl
@[simp] theorem State.setPending_radioPort (s : State) (v : List Instr) : (s.setPending v).radioPort = s.radioPort := rfl
@[simp] theorem State.setPending_compPort (s : State) (v : List Instr) : (s.setPending v).compPort = s.compPort := rfl
@[simp] theorem State.setPending_notices (s : State) (v : List Instr) : (s.setPending v).notices = s.notices := rfl
@[simp] theorem State.setPending_profile (s : State) (v : List Instr) : (s.setPending v).profile = s.profile := rfl
@[simp] theorem State.setPending_store (s : State) (v : List Instr) : (s.setPending v).store = s.store := rfl
@[simp] theorem State.setPending_retained (s : State) (v : List Instr) : (s.setPending v).retained = s.retained := rfl
@[simp] theorem State.setPending_nowMs (s : State) (v : List Instr) : (s.setPending v).nowMs = s.nowMs := rfl
@[simp] theorem State.setPending_pending (s : State) (v : List Instr) : (s.setPending v).pending = v := rfl
@[simp] theorem State.setPending_setPending (s : State) (v v' : List Instr) : (s.setPending v).setPending v' = s.setPending v' := rfl

end Sys2Proof.Machine
end

