-- ==== Sys2Proof/Laws/Frames.lean ====
section
/-! SUPPORT. For each shared operation, the records of the state that it can change: every other record is the same
after it. -/
namespace Sys2Proof.Machine

/-! ### Composing frames -/

theorem SameExcept.refl (l : List Block) (s : State) : SameExcept l s s := by
  intro b _; cases b <;> rfl

theorem SameExcept.trans {l : List Block} {s t u : State} (h : SameExcept l s t) (h' : SameExcept l t u) :
    SameExcept l s u := by
  intro b hb
  have h1 := h b hb
  have h2 := h' b hb
  cases b <;> exact h2.trans h1

theorem SameExcept.mono {l l' : List Block} {s t : State} (h : SameExcept l s t) (hl : ∀ b ∈ l, b ∈ l') :
    SameExcept l' s t := fun b hb => h b fun hin => hb (hl b hin)

theorem SameExcept.foldl {α : Type} {l : List Block} {g : State → α → State} (h : ∀ s a, SameExcept l s (g s a)) :
    ∀ (xs : List α) (s : State), SameExcept l s (xs.foldl g s)
  | [], s => .refl l s
  | x :: xs, s => (h s x).trans (SameExcept.foldl h xs (g s x))

/-! ### Lamps -/

theorem lampResolve_frame (s : State) : SameExcept [.lamps] s (lampResolve s) := by
  intro b hb; cases b <;> first | exact (hb (by decide)).elim | rfl

theorem takeScene_frame (s : State) : SameExcept [.lamps] s (takeScene s) := by
  intro b hb; cases b <;> first | exact (hb (by decide)).elim | rfl

theorem sceneHanded_frame (s : State) : SameExcept [.lamps] s (sceneHanded s) :=
  (takeScene_frame s).trans (lampResolve_frame _)

theorem raise_frame (k : Notice) (s : State) : SameExcept [.notices] s (raise k s) := by
  intro b hb; cases b <;> first | exact (hb (by decide)).elim | rfl

theorem startStep_frame (i : Nat) (s : State) : SameExcept sequencerTouches s (startStep i s) := by
  intro b hb; cases b <;> first | exact (hb (by decide)).elim | rfl

theorem clearPattern_frame (s : State) : SameExcept sequencerTouches s (clearPattern s) := by
  intro b hb; cases b <;> first | exact (hb (by decide)).elim | rfl

theorem takeSwitch_frame (s : State) : SameExcept sequencerTouches s (takeSwitch s) := by
  unfold takeSwitch
  split
  · intro b hb; cases b <;> first | exact (hb (by decide)).elim | rfl
  · exact .refl _ s

theorem wrapCycle_frame (s : State) : SameExcept sequencerTouches s (wrapCycle s) := by
  have h := (clearPattern_frame s).trans (takeSwitch_frame _)
  unfold wrapCycle
  dsimp only
  split
  · exact h.trans (startStep_frame _ _)
  · exact h

theorem lampResolve_frame' (s : State) : SameExcept sequencerTouches s (lampResolve s) :=
  (lampResolve_frame s).mono (by decide)

theorem stepExpires_frame (s : State) : SameExcept sequencerTouches s (stepExpires s) := by
  unfold stepExpires
  split
  · exact .refl _ s
  · dsimp only
    split
    · exact (wrapCycle_frame s).trans (lampResolve_frame' _)
    · split
      · exact (startStep_frame _ s).trans (lampResolve_frame' _)
      · exact (wrapCycle_frame s).trans (lampResolve_frame' _)

theorem setLamps_frame (s : State) (v : LampUnit) : SameExcept sequencerTouches s (s.setLamps v) := by
  intro b hb; cases b <;> first | exact (hb (by decide)).elim | rfl

theorem requestSwitch_frame (s : State) : SameExcept sequencerTouches s (requestSwitch s) := by
  have h := setLamps_frame s { s.lamps with switchPending := true }
  have h2 := (h.trans (wrapCycle_frame _)).trans (lampResolve_frame' _)
  unfold requestSwitch
  cases s.lamps.position with
  | some p => exact h
  | none => exact h2

theorem setLamps_frame_lamps (s : State) (v : LampUnit) : SameExcept [.lamps] s (s.setLamps v) := by
  intro b hb; cases b <;> first | exact (hb (by decide)).elim | rfl

theorem blinkExpires_frame (s : State) : SameExcept [.lamps] s (blinkExpires s) :=
  (setLamps_frame_lamps s _).trans (lampResolve_frame _)

theorem writePattern_frame (bank first : Nat) (steps : List StepBytes) (s : State) :
    SameExcept [.lamps] s (writePattern bank first steps s) := by
  by_cases h : bank = 0
  · rw [writePattern, if_pos h]; exact setLamps_frame_lamps s _
  · rw [writePattern, if_neg h]; exact setLamps_frame_lamps s _

/-! ### Drive -/

theorem setDrive_frame (s : State) (v : DriveUnit) : SameExcept [.drive] s (s.setDrive v) := by
  intro b hb; cases b <;> first | exact (hb (by decide)).elim | rfl

theorem driveHanded_frame (s : State) : SameExcept [.drive] s (driveHanded s) := setDrive_frame s _

theorem dragHanded_frame (s : State) : SameExcept [.drive] s (dragHanded s) := setDrive_frame s _

theorem rangeHanded_frame (s : State) : SameExcept [.drive] s (rangeHanded s) := setDrive_frame s _

theorem busyClamp_frame (s : State) : SameExcept [.drive] s (busyClamp s) := setDrive_frame s _

theorem hallEdge_frame (w : Wheel) (micros : Nat) (s : State) : SameExcept [.drive] s (hallEdge w micros s) := by
  unfold hallEdge holdStill
  split
  · exact setDrive_frame s _
  · exact (setDrive_frame s _).trans (setDrive_frame _ _)

theorem lampsIfRest_frame (b : Bool) (s : State) : SameExcept [.lamps] s (lampsIfRest b s) := by
  unfold lampsIfRest
  split
  · exact .refl _ s
  · exact lampResolve_frame s

theorem wheelUpdate_frame (w : Wheel) (s : State) : SameExcept channelTouches s (wheelUpdate w s) :=
  ((setDrive_frame s _).mono (by decide)).trans ((lampsIfRest_frame _ _).mono (by decide))

theorem retryExpires_frame (w : Wheel) (s : State) : SameExcept channelTouches s (retryExpires w s) := by
  unfold retryExpires
  dsimp only
  split
  · exact ((setDrive_frame s _).mono (by decide)).trans ((lampsIfRest_frame _ _).mono (by decide))
  · exact .refl _ s

theorem lockoutClears_frame (w : Wheel) (s : State) : SameExcept [.drive] s (lockoutClears w s) := by
  unfold lockoutClears
  dsimp only
  split
  · exact setDrive_frame s _
  · exact .refl _ s

theorem stillExpires_frame (s : State) : SameExcept [.drive] s (stillExpires s) := by
  unfold stillExpires
  split
  · exact setDrive_frame s _
  · exact .refl _ s

theorem tripNotices_frame (a b : ChanState) (s : State) : SameExcept [.notices] s (tripNotices a b s) := by
  unfold tripNotices
  split
  · exact .refl _ s
  · split
    · exact raise_frame _ s
    · split
      · exact (raise_frame _ s).trans (raise_frame _ _)
      · exact .refl _ s

theorem sampleWheel_frame (w : Wheel) (current : Nat) (s : State) :
    SameExcept sampleTouches s (sampleWheel w current s) :=
  ((setDrive_frame s _).mono (by decide)).trans ((tripNotices_frame _ _ _).mono (by decide))

/-! ### Winch -/

theorem setWinch_frame (s : State) (v : WinchUnit) : SameExcept winchTouches s (s.setWinch v) := by
  intro b hb; cases b <;> first | exact (hb (by decide)).elim | rfl

theorem lampsIfWinch_frame (st : WinchState) (s : State) : SameExcept winchTouches s (lampsIfWinch st s) := by
  unfold lampsIfWinch
  split
  · exact .refl _ s
  · exact (lampResolve_frame s).mono (by decide)

theorem raise_frame_winch (k : Notice) (s : State) : SameExcept winchTouches s (raise k s) :=
  (raise_frame k s).mono (by decide)

theorem goIdle_frame (s : State) : SameExcept winchTouches s (goIdle s) :=
  (setWinch_frame s _).trans (lampsIfWinch_frame _ _)

theorem goLimit_frame (st : WinchState) (s : State) : SameExcept winchTouches s (goLimit st s) :=
  ((setWinch_frame s _).trans (raise_frame_winch _ _)).trans (lampsIfWinch_frame _ _)

theorem goInward_frame (s : State) : SameExcept winchTouches s (goInward s) := by
  unfold goInward
  split
  · exact goLimit_frame _ s
  · exact (setWinch_frame s _).trans (lampsIfWinch_frame _ _)

theorem goOutward_frame (s : State) : SameExcept winchTouches s (goOutward s) := by
  unfold goOutward
  split
  · exact goLimit_frame _ s
  · exact (setWinch_frame s _).trans (lampsIfWinch_frame _ _)

theorem goStalled_frame (s : State) : SameExcept winchTouches s (goStalled s) :=
  ((setWinch_frame s _).trans (raise_frame_winch _ _)).trans (lampsIfWinch_frame _ _)

theorem goByHeld_frame (s : State) : SameExcept winchTouches s (goByHeld s) := by
  unfold goByHeld
  split
  · exact goIdle_frame s
  · split
    · exact goInward_frame s
    · exact goOutward_frame s

theorem winchActs_frame (s : State) : SameExcept winchTouches s (winchActs s) := by
  unfold winchActs
  dsimp only
  split <;> (repeat' split) <;>
    first
      | exact .refl _ s
      | exact goIdle_frame s
      | exact goInward_frame s
      | exact goOutward_frame s
      | exact setWinch_frame s _

theorem winchHanded_frame (s : State) : SameExcept winchTouches s (winchHanded s) :=
  (setWinch_frame s _).trans (winchActs_frame _)

theorem homeBraked_frame (s : State) : SameExcept winchTouches s (homeBraked s) :=
  (setWinch_frame s _).trans (goLimit_frame _ _)

theorem hookCloses_frame (s : State) : SameExcept winchTouches s (hookCloses s) := by
  unfold hookCloses
  dsimp only
  split
  · exact .refl _ s
  · split <;>
      first
        | exact (setWinch_frame s _).trans (homeBraked_frame _)
        | exact (setWinch_frame s _).trans ((setWinch_frame _ _).trans (raise_frame_winch _ _))

theorem testStops_frame (s : State) : SameExcept winchTouches s (testStops s) := by
  unfold testStops
  split <;> (repeat' split) <;> first | exact .refl _ s | exact goLimit_frame _ s

theorem countEdge_frame (up : Bool) (s : State) : SameExcept winchTouches s (countEdge up s) :=
  (setWinch_frame s _).trans (testStops_frame _)

theorem encoderEdge_frame (a b : Bool) (s : State) : SameExcept winchTouches s (encoderEdge a b s) := by
  unfold encoderEdge
  dsimp only
  split <;>
    first
      | exact setWinch_frame s _
      | exact (setWinch_frame s _).trans (countEdge_frame _ _)

theorem stallStage_frame (d : Int) (s : State) : SameExcept winchTouches s (stallStage d s) := by
  unfold stallStage
  dsimp only
  split
  · split
    · split
      · exact (setWinch_frame s _).trans (goStalled_frame _)
      · exact setWinch_frame s _
    · exact setWinch_frame s _
  · exact .refl _ s

theorem winchUpdate_frame (s : State) : SameExcept winchTouches s (winchUpdate s) :=
  ((((setWinch_frame s _).trans (setWinch_frame _ _)).trans (stallStage_frame _ _)).trans (setWinch_frame _ _)).trans
    (setWinch_frame _ _)

theorem stallExpires_frame (s : State) : SameExcept winchTouches s (stallExpires s) := by
  unfold stallExpires
  split
  · exact goStalled_frame s
  · exact .refl _ s

theorem stallClears_frame (s : State) : SameExcept winchTouches s (stallClears s) := by
  unfold stallClears
  split
  · exact goIdle_frame s
  · exact .refl _ s

/-! ### Steering -/

theorem enterSlew_frame (m : SteerMode) (s : State) : SameExcept [.steering, .drive] s (enterSlew m s) := by
  intro b hb; cases b <;> first | exact (hb (by decide)).elim | rfl

theorem setSteering_frame (s : State) (v : Steering) : SameExcept [.steering, .drive] s (s.setSteering v) := by
  intro b hb; cases b <;> first | exact (hb (by decide)).elim | rfl

theorem modeHanded_frame (s : State) : SameExcept [.steering, .drive] s (modeHanded s) := by
  unfold modeHanded
  dsimp only
  split <;> (repeat' split) <;>
    first
      | exact .refl _ s
      | exact setSteering_frame s _
      | exact enterSlew_frame _ s

theorem steerHanded_frame (s : State) : SameExcept [.steering, .lamps] s (steerHanded s) := by
  intro b hb; cases b <;> first | exact (hb (by decide)).elim | rfl

/-! ### Resolver -/

theorem handOn_frame (f : Fn) (s : State) : SameExcept handTouches s (handOn f s) := by
  cases f with
  | drive => exact ((driveHanded_frame s).mono (by decide)).trans ((lampResolve_frame _).mono (by decide))
  | steer => exact (steerHanded_frame s).mono (by decide)
  | steermode => exact (modeHanded_frame s).mono (by decide)
  | winch => exact (winchHanded_frame s).mono (by decide)
  | drag => exact ((dragHanded_frame s).mono (by decide)).trans ((lampResolve_frame _).mono (by decide))
  | range => exact (rangeHanded_frame s).mono (by decide)
  | scene => exact (sceneHanded_frame s).mono (by decide)

theorem recoveryTest_frame (s : State) : SameExcept [.protection] s (recoveryTest s) := by
  unfold recoveryTest
  split
  · intro b hb; cases b <;> first | exact (hb (by decide)).elim | rfl
  · exact .refl _ s

theorem setProtection_frame (s : State) (v : Protection) : SameExcept [.protection] s (s.setProtection v) := by
  intro b hb; cases b <;> first | exact (hb (by decide)).elim | rfl

theorem recoveryDriveTest_frame (s : State) : SameExcept [.protection] s (recoveryDriveTest s) :=
  (setProtection_frame s _).trans (recoveryTest_frame _)

theorem setResolver_frame (s : State) (v : Resolver) : SameExcept [.resolver] s (s.setResolver v) := by
  intro b hb; cases b <;> first | exact (hb (by decide)).elim | rfl

theorem handUnderlying_frame (z : Int) (s : State) : SameExcept [.protection] s (handUnderlying z s) := by
  unfold handUnderlying
  split
  · exact recoveryDriveTest_frame s
  · exact .refl _ s

theorem commitEff_frame (f : Fn) (e : Eff) (s : State) : SameExcept commitTouches s (commitEff f e s) := by
  have h : SameExcept commitTouches s (setEff s f e) := (setResolver_frame s _).mono (by decide)
  unfold commitEff
  dsimp only
  split
  · exact h.trans ((handUnderlying_frame _ _).mono (by decide))
  · exact (h.trans ((handOn_frame f _).mono (by decide))).trans ((handUnderlying_frame _ _).mono (by decide))

theorem setSlot_frame (s : State) (m : Master) (f : Fn) (x : Slot) : SameExcept [.slots] s (setSlot s m f x) := by
  intro b hb; cases m <;> cases b <;> first | exact (hb (by decide)).elim | rfl

theorem takeSlots_frame (f : Fn) (s : State) : SameExcept [.slots] s (takeSlots f s) :=
  (setSlot_frame s _ _ _).trans (setSlot_frame _ _ _ _)

theorem resolve_frame (f : Fn) (byMark : Bool) (s : State) : SameExcept resolveTouches s (resolve f byMark s) := by
  unfold resolve
  dsimp only
  split
  · exact .refl _ s
  · exact ((takeSlots_frame f s).mono (by decide)).trans ((commitEff_frame f _ _).mono (by decide))

theorem resolveList_frame (fs : List Fn) (marks : Fn → Bool) (s : State) :
    SameExcept resolveTouches s (resolveList fs marks s) :=
  SameExcept.foldl (fun s f => resolve_frame f (marks f) s) fs s

theorem lampsIfHeld_frame (b : Bool) (s : State) : SameExcept [.lamps] s (lampsIfHeld b s) := by
  unfold lampsIfHeld
  split
  · exact .refl _ s
  · exact lampResolve_frame s

theorem endGrant_frame (r : EndReason) (f : Fn) (s : State) : SameExcept resolveTouches s (endGrant r f s) := by
  unfold endGrant
  split
  · exact ((((setResolver_frame s _).mono (by decide)).trans ((raise_frame _ _).mono (by decide))).trans
      (resolve_frame f false _)).trans ((lampsIfHeld_frame _ _).mono (by decide))
  · exact .refl _ s

theorem endGrants_frame (r : EndReason) (which : Fn → Bool) (s : State) :
    SameExcept resolveTouches s (endGrants r which s) :=
  SameExcept.foldl (fun s f => endGrant_frame r f s) _ s

theorem beginGrant_frame (f : Fn) (d : Nat) (s : State) : SameExcept resolveTouches s (beginGrant f d s) :=
  (((setResolver_frame s _).mono (by decide)).trans (resolve_frame f false _)).trans
    ((lampsIfHeld_frame _ _).mono (by decide))

theorem blendStep_frame (f : Fn) (s : State) : SameExcept resolveTouches s (blendStep f s) := by
  unfold blendStep
  split
  · exact .refl _ s
  · exact (((setResolver_frame s _).mono (by decide)).trans ((takeSlots_frame f _).mono (by decide))).trans
      ((commitEff_frame f _ _).mono (by decide))

theorem presenceChanged_frame (m : Master) (marks : Fn → Bool) (s : State) :
    SameExcept resolveTouches s (presenceChanged m marks s) := by
  unfold presenceChanged
  dsimp only
  split
  · exact resolveList_frame _ _ s
  · split
    · exact (endGrants_frame _ _ s).trans (resolveList_frame _ _ _)
    · exact (endGrants_frame _ _ s).trans (resolveList_frame _ _ _)

theorem fillLockout_frame (s : State) : SameExcept resolveTouches s (fillLockout s) :=
  (((setResolver_frame s _).mono (by decide)).trans (endGrants_frame _ _ _)).trans (resolveList_frame _ _ _)

theorem emptyLockout_frame (s : State) : SameExcept resolveTouches s (emptyLockout s) :=
  ((setResolver_frame s _).mono (by decide)).trans (resolveList_frame _ _ _)

/-! ### Demand table and contexts -/

theorem writeSlot_frame (m : Master) (f : Fn) (v : Int) (s : State) :
    SameExcept resolveTouches s (writeSlot m f v s) := by
  unfold writeSlot
  dsimp only
  split
  · exact ((setSlot_frame s m f _).mono (by decide)).trans (resolve_frame f _ _)
  · exact (setSlot_frame s m f _).mono (by decide)

theorem slotStale_frame (m : Master) (f : Fn) (s : State) : SameExcept resolveTouches s (slotStale m f s) := by
  unfold slotStale
  dsimp only
  split
  · split
    · exact (((setSlot_frame s m f _).mono (by decide)).trans (endGrant_frame _ f _)).trans (resolve_frame f false _)
    · exact ((setSlot_frame s m f _).mono (by decide)).trans (resolve_frame f false _)
  · exact .refl _ s

theorem staleByHold_frame (s : State) : SameExcept resolveTouches s (staleByHold s) := by
  have h : ∀ m (s : State) (f : Fn), SameExcept resolveTouches s
      (if (authOf s f).hold < (slotOf s m f).age then slotStale m f s else s) := by
    intro m s f
    split
    · exact slotStale_frame m f s
    · exact .refl _ s
  exact (SameExcept.foldl (h .radio) _ s).trans (SameExcept.foldl (h .companion) _ _)

theorem clearMarks_frame (m : Master) (s : State) : SameExcept [.slots] s (clearMarks m s) :=
  (setSlot_frame s _ _ _).trans (setSlot_frame _ _ _ _)

theorem resolveMarks_frame (marks : Fn → Bool) (s : State) : SameExcept resolveTouches s (resolveMarks marks s) :=
  resolveList_frame _ _ s

theorem setRadio_frame (s : State) (v : RadioCtx) : SameExcept contextTouches s (s.setRadio v) := by
  intro b hb; cases b <;> first | exact (hb (by decide)).elim | rfl

theorem setComp_frame (s : State) (v : CompCtx) : SameExcept contextTouches s (s.setComp v) := by
  intro b hb; cases b <;> first | exact (hb (by decide)).elim | rfl

theorem raise_frame_context (k : Notice) (s : State) : SameExcept contextTouches s (raise k s) :=
  (raise_frame k s).mono (by decide)

theorem loadTimer_frame (m : Master) (s : State) : SameExcept contextTouches s (loadTimer m s) := by
  cases m
  · exact setRadio_frame s _
  · exact setComp_frame s _

theorem masterReturns_frame (m : Master) (s : State) : SameExcept contextTouches s (masterReturns m s) := by
  have h : SameExcept contextTouches s (clearMarks m (loadTimer m s)) :=
    (loadTimer_frame m s).trans ((clearMarks_frame m _).mono (by decide))
  have h2 : ∀ t : State, SameExcept contextTouches t (if m = .radio then raise .radioLive t else t) := by
    intro t
    split
    · exact raise_frame_context _ t
    · exact .refl _ t
  have h3 := h.trans (h2 _)
  unfold masterReturns
  dsimp only
  revert h3
  generalize (if m = Master.radio then raise .radioLive (clearMarks m (loadTimer m s))
    else clearMarks m (loadTimer m s)) = t
  intro h3
  split
  · exact h3.trans ((presenceChanged_frame m _ t).mono (by decide))
  · exact h3.trans ((resolveMarks_frame _ t).mono (by decide))

theorem makeLive_frame (m : Master) (s : State) : SameExcept contextTouches s (makeLive m s) := by
  unfold makeLive
  split
  · exact loadTimer_frame m s
  · exact masterReturns_frame m s

theorem lapse_frame (m : Master) (s : State) : SameExcept contextTouches s (lapse m s) := by
  unfold lapse
  split
  · split
    · exact ((setRadio_frame s _).trans (raise_frame_context _ _)).trans
        ((presenceChanged_frame _ _ _).mono (by decide))
    · exact .refl _ s
  · split
    · dsimp only
      split
      · exact setComp_frame s _
      · exact (setComp_frame s _).trans ((presenceChanged_frame _ _ _).mono (by decide))
    · exact .refl _ s

theorem writeBar_frame (b : Bool) (s : State) : SameExcept contextTouches s (writeBar b s) := by
  have h : ∀ t : State, SameExcept contextTouches t (if b then t else clearMarks .companion t) := by
    intro t
    split
    · exact .refl _ t
    · exact (clearMarks_frame _ t).mono (by decide)
  unfold writeBar
  dsimp only
  split
  · exact .refl _ s
  · split
    · exact (((setComp_frame s _).trans (raise_frame_context _ _)).trans (h _)).trans
        ((presenceChanged_frame _ _ _).mono (by decide))
    · exact (((setComp_frame s _).trans (raise_frame_context _ _)).trans (h _)).trans
        ((resolveMarks_frame _ _).mono (by decide))

/-! ### Channel Map -/

theorem deliverItem_frame (s : State) (x : RadioItem) : SameExcept contextTouches s (deliverItem s x) := by
  unfold deliverItem
  split
  · unfold deliverTo
    split
    · split
      · exact (writeSlot_frame _ _ _ s).mono (by decide)
      · exact setRadio_frame s _
    · exact setRadio_frame s _
    · exact writeBar_frame _ s
    · exact setRadio_frame s _
  · exact setRadio_frame s _

theorem numericBreakaway_frame (f : Fn) (h : HeldGrant) (s : State) :
    SameExcept resolveTouches s (numericBreakaway f h s) := by
  unfold numericBreakaway
  split
  · split
    · exact endGrant_frame _ f s
    · exact (setResolver_frame s _).mono (by decide)
  · exact (setResolver_frame s _).mono (by decide)

theorem breakawayTest_frame (before : State) (items : List RadioItem) (s : State) (f : Fn) :
    SameExcept resolveTouches s (breakawayTest before items s f) := by
  unfold breakawayTest
  split
  · exact .refl _ s
  · split
    · split
      · exact numericBreakaway_frame f _ s
      · split
        · exact .refl _ s
        · exact endGrant_frame _ f s
    · exact .refl _ s

theorem deliverFrame_frame (items : List RadioItem) (s : State) :
    SameExcept contextTouches s (deliverFrame items s) :=
  (SameExcept.foldl deliverItem_frame items s).trans
    ((SameExcept.foldl (breakawayTest_frame s items) Fn.all _).mono (by decide))

end Sys2Proof.Machine
end

