-- ==== Sys2Proof/Laws/CommandFrames.lean ====
section
/-! SUPPORT. The records that each command's operation can change, over the frames of the shared operations. -/
namespace Sys2Proof.Machine

theorem SameExcept.ite {touched : List Block} {s a b : State} {p : Prop} [Decidable p]
    (ha : SameExcept touched s a) (hb : SameExcept touched s b) : SameExcept touched s (if p then a else b) := by
  split
  · exact ha
  · exact hb

/-! ### Radio Link Port -/

theorem setRadioPort_frame (s : State) (v : RadioPort) : SameExcept radioTouches s (s.setRadioPort v) := by
  intro b hb; cases b <;> first | exact (hb (by decide)).elim | rfl

theorem setRadio_frame_radio (s : State) (v : RadioCtx) : SameExcept radioTouches s (s.setRadio v) :=
  (setRadio_frame s v).mono (by decide)

theorem dropLead_frame (s : State) : SameExcept radioTouches s (dropLead s) := by
  unfold dropLead
  split
  · intro b hb; cases b <;> first | exact (hb (by decide)).elim | rfl
  · exact .refl _ s

theorem pickSlot_frame (k : ReplySlot) (s : State) : SameExcept radioTouches s (pickSlot k s) := by
  unfold pickSlot
  split
  · exact dropLead_frame s
  · exact setRadioPort_frame s _

theorem replyScan_frame (s : State) : SameExcept radioTouches s (replyScan s) := by
  unfold replyScan
  split
  · exact .refl _ s
  · exact (pickSlot_frame _ s).trans (setRadioPort_frame _ _)

theorem validFrame_frame (f : RadioFrame) (s : State) : SameExcept radioTouches s (validFrame f s) := by
  have h1 : SameExcept radioTouches s (countFrame (frameSeq f) s) := setRadio_frame_radio s _
  have h2 : ∀ t, SameExcept radioTouches t (if frameFailsafe f then t else deliverFrame f.items (makeLive .radio t)) := by
    intro t
    split
    · exact .refl _ t
    · exact ((makeLive_frame .radio t).mono (by decide)).trans ((deliverFrame_frame _ _).mono (by decide))
  have h3 : ∀ v, SameExcept radioTouches s ((if frameFailsafe f then countFrame (frameSeq f) s else
      deliverFrame f.items (makeLive .radio (countFrame (frameSeq f) s))).setRadioPort v) :=
    fun v => (h1.trans (h2 _)).trans (setRadioPort_frame _ v)
  unfold validFrame
  dsimp only
  exact .ite ((h3 _).trans (replyScan_frame _)) (h3 _)

theorem receiveFrame_frame (f : RadioFrame) (s : State) : SameExcept radioTouches s (receiveFrame f s) := by
  unfold receiveFrame
  dsimp only
  split
  · exact .refl _ s
  · split
    · exact (setRadioPort_frame s _).trans (setRadio_frame_radio _ _)
    · split
      · exact (setRadioPort_frame s _).trans (validFrame_frame f _)
      · exact (setRadioPort_frame s _).trans (setRadio_frame_radio _ _)

theorem byteGap_frame (b : Byte) (s : State) : SameExcept radioTouches s (byteGap b s) := by
  unfold byteGap
  split
  · exact .refl _ s
  · exact (setRadioPort_frame s _).trans (setRadio_frame_radio _ _)

theorem lengthByte_frame (b : Byte) (s : State) : SameExcept radioTouches s (lengthByte b s) := by
  unfold lengthByte
  split
  · exact (setRadioPort_frame s _).trans (setRadio_frame_radio _ _)
  · exact .refl _ s

theorem replyStarts_frame (s : State) : SameExcept radioTouches s (replyStarts s) := by
  unfold replyStarts
  split
  · exact setRadioPort_frame s _
  · exact .refl _ s
  · exact .refl _ s

theorem replyEnds_frame (s : State) : SameExcept radioTouches s (replyEnds s) := by
  unfold replyEnds
  split
  · exact setRadioPort_frame s _
  · exact .refl _ s
  · exact .refl _ s

/-! ### Steering update -/

theorem steeringUpdate_frame (s : State) : SameExcept resolveTouches s (steeringUpdate s) := by
  have h0 : ∀ (t : State) v, SameExcept resolveTouches t (t.setSteering v) := fun t v =>
    (setSteering_frame t v).mono (by decide)
  have h1 : ∀ t, SameExcept resolveTouches t (speedTest t) := by
    intro t
    unfold speedTest
    split
    · split
      · exact (enterSlew_frame _ t).mono (by decide)
      · exact .refl _ t
    · exact .refl _ t
  have h2 : ∀ t, SameExcept resolveTouches t (settleMode t) := fun t =>
    ((h0 t _).trans ((raise_frame _ _).mono (by decide))).trans (resolve_frame _ _ _)
  have h3 : ∀ t, SameExcept resolveTouches t (rearStage t) := by
    intro t
    unfold rearStage
    dsimp only
    exact .ite ((h0 t _).trans (h2 _)) (h0 t _)
  exact ((((h0 s _).trans (h1 _)).trans (h0 _ _)).trans (h3 _)).trans (h0 _ _)

/-! ### Pack Protection and Budget Unit -/

theorem setProtection_frame_pack (s : State) (v : Protection) : SameExcept packTouches s (s.setProtection v) :=
  (setProtection_frame s v).mono (by decide)

theorem setRetained_frame (s : State) (v : Retained) : SameExcept packTouches s (s.setRetained v) := by
  intro b hb; cases b <;> first | exact (hb (by decide)).elim | rfl

theorem raise_frame_pack (k : Notice) (s : State) : SameExcept packTouches s (raise k s) :=
  (raise_frame k s).mono (by decide)

theorem lampResolve_frame_pack (s : State) : SameExcept packTouches s (lampResolve s) :=
  (lampResolve_frame s).mono (by decide)

theorem recoveryTest_frame_pack (s : State) : SameExcept packTouches s (recoveryTest s) :=
  (recoveryTest_frame s).mono (by decide)

theorem setProtState_frame (st : ProtState) (s : State) : SameExcept packTouches s (setProtState st s) := by
  unfold setProtState
  split
  · exact .refl _ s
  · exact ((setProtection_frame_pack s _).trans (raise_frame_pack _ _)).trans (lampResolve_frame_pack _)

theorem enterCutoff_frame (why : LatchReason) (s : State) : SameExcept packTouches s (enterCutoff why s) :=
  (((((((setRetained_frame s _).trans (setProtection_frame_pack _ _)).trans
    ((fillLockout_frame _).mono (by decide))).trans (setProtection_frame_pack _ _)).trans (raise_frame_pack _ _)).trans
    (lampResolve_frame_pack _)).trans (setProtection_frame_pack _ _)).trans (recoveryTest_frame_pack _)

theorem leaveCutoff_frame (s : State) : SameExcept packTouches s (leaveCutoff s) :=
  (((((setRetained_frame s _).trans (setProtection_frame_pack _ _)).trans
    ((emptyLockout_frame _).mono (by decide))).trans (setProtection_frame_pack _ _)).trans (raise_frame_pack _ _)).trans
    (lampResolve_frame_pack _)

theorem nopackHanded_frame (s : State) : SameExcept packTouches s (nopackHanded s) := by
  unfold nopackHanded
  split
  · exact (setRetained_frame s _).trans (setProtection_frame_pack _ _)
  · exact enterCutoff_frame _ s

theorem evaluateState_frame (s : State) : SameExcept packTouches s (evaluateState s) := by
  unfold evaluateState
  split
  · split
    · exact (setProtState_frame _ s).trans (setProtection_frame_pack _ _)
    · exact .refl _ s
  · exact .refl _ s

theorem cellsHanded_frame (n : Nat) (nopack : Bool) (s : State) : SameExcept packTouches s (cellsHanded n nopack s) := by
  have h1 : ∀ t, SameExcept packTouches t (if nopack then nopackHanded t else t) := by
    intro t
    split
    · exact nopackHanded_frame t
    · exact .refl _ t
  exact (((((setProtection_frame_pack s _).trans (h1 _)).trans (evaluateState_frame _)).trans
    (setProtection_frame_pack _ _)).trans (setProtection_frame_pack _ _)).trans (recoveryTest_frame_pack _)

theorem endPrecheck_frame (s : State) : SameExcept packTouches s (endPrecheck s) := by
  unfold endPrecheck
  split
  · split
    · exact ((setProtState_frame _ s).trans (setProtection_frame_pack _ _)).trans (setProtection_frame_pack _ _)
    · exact .refl _ s
  · exact .refl _ s

theorem openSetHanded_frame (s : State) : SameExcept packTouches s (openSetHanded s) := by
  unfold openSetHanded
  dsimp only
  split
  · exact (setProtection_frame_pack s _).trans (endPrecheck_frame _)
  · exact ((setProtection_frame_pack s _).trans (setProtection_frame_pack _ _)).trans (endPrecheck_frame _)

theorem packCurrentHanded_frame (ip : Int) (s : State) : SameExcept [.protection] s (packCurrentHanded ip s) :=
  ((setProtection_frame s _).trans (setProtection_frame _ _)).trans (recoveryTest_frame _)

theorem dwellExpires_frame (s : State) : SameExcept packTouches s (dwellExpires s) := by
  unfold dwellExpires
  split
  · exact enterCutoff_frame _ s
  · exact .refl _ s

theorem recoveryExpires_frame (s : State) : SameExcept packTouches s (recoveryExpires s) := by
  unfold recoveryExpires
  split
  · exact leaveCutoff_frame s
  · exact .refl _ s

theorem apportion_frame (s : State) : SameExcept budgetTouches s (apportion s) := by
  have hb : ∀ (t : State) v, SameExcept budgetTouches t (t.setBudget v) := fun t v => by
    intro b hb; cases b <;> first | exact (hb (by decide)).elim | rfl
  have hp : ∀ (t : State) v, SameExcept budgetTouches t (t.setProtection v) := fun t v =>
    (setProtection_frame t v).mono (by decide)
  have hd : ∀ (t : State) v, SameExcept budgetTouches t (t.setDrive v) := fun t v =>
    (setDrive_frame t v).mono (by decide)
  have hw : ∀ (t : State) v, SameExcept budgetTouches t (t.setWinch v) := fun t v =>
    (setWinch_frame t v).mono (by decide)
  have hl : ∀ (t : State) v, SameExcept budgetTouches t (t.setLamps v) := fun t v =>
    (setLamps_frame_lamps t v).mono (by decide)
  exact ((((((hp s _).trans (hd _ _)).trans (hb _ _)).trans (hd _ _)).trans (hw _ _)).trans (hl _ _)).trans
    ((lampResolve_frame _).mono (by decide))

/-! ### Sense Unit -/

theorem setSense_frame (s : State) (v : Sense) : SameExcept senseTouches s (s.setSense v) := by
  intro b hb; cases b <;> first | exact (hb (by decide)).elim | rfl

theorem setCompPort_frame (s : State) (v : CompPort) : SameExcept senseTouches s (s.setCompPort v) := by
  intro b hb; cases b <;> first | exact (hb (by decide)).elim | rfl

theorem setComp_frame_sense (s : State) (v : CompCtx) : SameExcept senseTouches s (s.setComp v) := by
  intro b hb; cases b <;> first | exact (hb (by decide)).elim | rfl

theorem answer_frame (k : Kind) (payload : List Byte) (s : State) : SameExcept [.comp, .compPort] s (answer k payload s) := by
  intro b hb; cases b <;> first | exact (hb (by decide)).elim | rfl

theorem refuseByte_frame (c : Cause) (kind : Byte) (s : State) :
    SameExcept [.comp, .compPort] s (refuseByte c kind s) := by
  intro b hb; cases b <;> first | exact (hb (by decide)).elim | rfl

theorem refuse_frame (c : Cause) (k : Kind) (s : State) : SameExcept [.comp, .compPort] s (refuse c k s) :=
  refuseByte_frame c _ s

theorem sampleWheels_frame (r : PerWheel Int) (s : State) : SameExcept sampleTouches s (sampleWheels r s) :=
  SameExcept.foldl (fun s w => sampleWheel_frame w _ s) _ s

theorem currentsComplete_frame (codes : CurrentCodes) (s : State) :
    SameExcept senseTouches s (currentsComplete codes s) :=
  ((((setSense_frame s _).trans ((sampleWheels_frame _ _).mono (by decide))).trans
    ((setWinch_frame _ _).mono (by decide))).trans ((packCurrentHanded_frame _ _).mono (by decide))).trans
    ((lampsIfRest_frame _ _).mono (by decide))

theorem slotStarts_frame (s : State) : SameExcept senseTouches s (slotStarts s) := by
  unfold slotStarts
  split <;> exact setSense_frame s _

theorem cellsComplete_frame (codes : Vector Code 6) (s : State) : SameExcept senseTouches s (cellsComplete codes s) :=
  (setSense_frame s _).trans ((cellsHanded_frame _ _ _).mono (by decide))

theorem raiseLeadOpen_frame (v : BitVec 7) (s : State) : SameExcept senseTouches s (raiseLeadOpen v s) := by
  unfold raiseLeadOpen
  split
  · exact (raise_frame _ s).mono (by decide)
  · exact .refl _ s

theorem answerLeads_frame (n : Nat) (s : State) : SameExcept senseTouches s (answerLeads n s) := by
  unfold answerLeads
  split
  · exact (setSense_frame s _).trans ((answer_frame _ _ _).mono (by decide))
  · exact .refl _ s

theorem leadsComplete_frame (codes : Vector LeadCodes 6) (s : State) :
    SameExcept senseTouches s (leadsComplete codes s) :=
  (((setSense_frame s _).trans (raiseLeadOpen_frame _ _)).trans ((openSetHanded_frame _).mono (by decide))).trans
    (answerLeads_frame _ _)

/-! ### Companion requests other than PROFILE_WRITE -/

theorem answer_frame_request (k : Kind) (payload : List Byte) (s : State) :
    SameExcept requestTouches s (answer k payload s) := (answer_frame k payload s).mono (by decide)

theorem refuse_frame_request (c : Cause) (k : Kind) (s : State) : SameExcept requestTouches s (refuse c k s) :=
  (refuse_frame c k s).mono (by decide)

theorem setComp_frame_request (s : State) (v : CompCtx) : SameExcept requestTouches s (s.setComp v) :=
  (setComp_frame s v).mono (by decide)

theorem setCompPort_frame_request (s : State) (v : CompPort) : SameExcept requestTouches s (s.setCompPort v) := by
  intro b hb; cases b <;> first | exact (hb (by decide)).elim | rfl

theorem takePair_frame (r : PairRun) (x : DemandPair) : SameExcept contextTouches r.state (takePair r x).state := by
  unfold takePair
  split
  · exact (writeSlot_frame _ _ _ _).mono (by decide)
  · exact setComp_frame _ _

theorem takePairs_frame (pairs : List DemandPair) (s : State) :
    SameExcept contextTouches s (takePairs pairs s).state := by
  have h : ∀ (ps : List DemandPair) (r : PairRun), SameExcept contextTouches r.state (ps.foldl takePair r).state := by
    intro ps
    induction ps with
    | nil => intro r; exact .refl _ _
    | cons x xs ih => intro r; exact (takePair_frame r x).trans (ih _)
  exact h pairs ⟨s, []⟩

theorem runDemand_frame (pairs : List DemandPair) (s : State) : SameExcept requestTouches s (runDemand pairs s) := by
  unfold runDemand
  dsimp only
  split
  · exact refuse_frame_request _ _ s
  · exact ((takePairs_frame pairs s).mono (by decide)).trans (answer_frame_request _ _ _)

theorem runGrant_frame (fn : Byte) (d : BitVec 16) (s : State) : SameExcept requestTouches s (runGrant fn d s) := by
  unfold runGrant
  split
  · exact refuse_frame_request _ _ s
  · exact ((beginGrant_frame _ _ s).mono (by decide)).trans (answer_frame_request _ _ _)

theorem runRelease_frame (fn : Byte) (s : State) : SameExcept requestTouches s (runRelease fn s) := by
  unfold runRelease
  split
  · exact refuse_frame_request _ _ s
  · exact ((endGrant_frame _ _ s).mono (by decide)).trans (answer_frame_request _ _ _)

theorem runStatus_frame (p : Byte) (s : State) : SameExcept requestTouches s (runStatus p s) := by
  unfold runStatus
  split
  · exact answer_frame_request _ _ s
  · exact refuse_frame_request _ _ s

theorem runTelemetry_frame (p : Byte) (s : State) : SameExcept requestTouches s (runTelemetry p s) := by
  unfold runTelemetry
  split
  · exact answer_frame_request _ _ s
  · exact refuse_frame_request _ _ s

theorem runNoticeTake_frame (s : State) : SameExcept requestTouches s (runNoticeTake s) := by
  intro b hb; cases b <;> first | exact (hb (by decide)).elim | rfl

theorem runCauseTake_frame (s : State) : SameExcept requestTouches s (runCauseTake s) := by
  intro b hb; cases b <;> first | exact (hb (by decide)).elim | rfl

theorem runFlagsSet_frame (flags : Byte) (s : State) : SameExcept requestTouches s (runFlagsSet flags s) := by
  intro b hb; cases b <;> first | exact (hb (by decide)).elim | rfl

theorem readProfile_frame (sect : Byte) (scene : Option Byte) (s : State) :
    SameExcept requestTouches s (readProfile sect scene s) := by
  unfold readProfile
  split
  · exact answer_frame_request _ _ s
  · exact refuse_frame_request _ _ s

theorem runPattern_frame (bank first : Byte) (steps : List StepBytes) (s : State) :
    SameExcept requestTouches s (runPattern bank first steps s) := by
  unfold runPattern
  split
  · exact refuse_frame_request _ _ s
  · exact ((writePattern_frame _ _ _ s).mono (by decide)).trans (answer_frame_request _ _ _)

theorem runBankSwitch_frame (s : State) : SameExcept requestTouches s (runBankSwitch s) :=
  ((requestSwitch_frame s).mono (by decide)).trans (answer_frame_request _ _ _)

theorem runWinchZero_frame (s : State) : SameExcept requestTouches s (runWinchZero s) := by
  unfold runWinchZero
  split
  · exact refuse_frame_request _ _ s
  · exact ((homeBraked_frame s).mono (by decide)).trans (answer_frame_request _ _ _)

theorem runCheckLeads_frame (s : State) : SameExcept requestTouches s (runCheckLeads s) := by
  intro b hb; cases b <;> first | exact (hb (by decide)).elim | rfl

theorem runRestart_frame (s : State) : SameExcept requestTouches s (runRestart s) := by
  unfold runRestart
  dsimp only
  split
  · exact (answer_frame_request _ _ s).trans (setCompPort_frame_request _ _)
  · exact refuse_frame_request _ _ s

/-! ### PROFILE_WRITE and the store -/

theorem packTouches_sub {s t : State} (h : SameExcept packTouches s t) : SameExcept writeTouches s t := h.mono (by decide)

theorem resolveTouches_sub {s t : State} (h : SameExcept resolveTouches s t) : SameExcept writeTouches s t :=
  h.mono (by decide)

theorem driveTouches_sub {s t : State} (h : SameExcept [.drive] s t) : SameExcept writeTouches s t := h.mono (by decide)

theorem winchTouches_sub {s t : State} (h : SameExcept winchTouches s t) : SameExcept writeTouches s t :=
  h.mono (by decide)

theorem driveActs_frame (old : DriveSection) (s : State) : SameExcept writeTouches s (driveActs old s) := by
  have h1 : SameExcept writeTouches s (recoveryDriveTest s) := (recoveryDriveTest_frame s).mono (by decide)
  unfold driveActs
  dsimp only
  split
  · exact ((h1.trans (driveTouches_sub (setDrive_frame _ _))).trans (driveTouches_sub (rangeHanded_frame _))).trans
      (driveTouches_sub (setDrive_frame _ _))
  · exact (((h1.trans (driveTouches_sub (setDrive_frame _ _))).trans (winchTouches_sub (winchActs_frame _))).trans
      (driveTouches_sub (rangeHanded_frame _))).trans (driveTouches_sub (setDrive_frame _ _))

theorem winchActsOn_frame (old : WinchSection) (s : State) : SameExcept winchTouches s (winchActsOn old s) := by
  have h1 : ∀ t, SameExcept winchTouches t (reverseChanged old t) := by
    intro t; unfold reverseChanged; split
    · exact .refl _ t
    · exact setWinch_frame t _
  have h2 : ∀ t, SameExcept winchTouches t (slowInClamp t) := by
    intro t; unfold slowInClamp; split
    · exact .refl _ t
    · exact setWinch_frame t _
  have h3 : ∀ t, SameExcept winchTouches t (stallByTime t) := by
    intro t; unfold stallByTime; split
    · split
      · exact goIdle_frame t
      · exact .refl _ t
    · exact .refl _ t
  have h4 : ∀ t, SameExcept winchTouches t (retestLimit t) := by
    intro t; unfold retestLimit; split <;> (repeat' split) <;> first | exact .refl _ t | exact goByHeld_frame t
  exact (((h1 s).trans (h2 _)).trans (h3 _)).trans (h4 _)

theorem dwellsByTime_frame (s : State) : SameExcept packTouches s (dwellsByTime s) := by
  unfold dwellsByTime
  split
  · split
    · exact dwellExpires_frame s
    · exact .refl _ s
  · split
    · exact recoveryExpires_frame s
    · exact .refl _ s
  · exact .refl _ s

theorem packActs_frame (old : Pack) (s : State) : SameExcept writeTouches s (packActs old s) := by
  have h1 : SameExcept writeTouches s (s.setSense (packSense old s.profile.pack s.sense)) :=
    (setSense_frame s _).mono (by decide)
  have h2 : ∀ t : State, SameExcept writeTouches t (cutoffDragHanded old t) := by
    intro t; unfold cutoffDragHanded; split
    · exact resolveTouches_sub (resolve_frame _ _ t)
    · exact .refl _ t
  have h3 : ∀ t : State, SameExcept writeTouches t (recoveryCellTest t) := fun t =>
    ((setProtection_frame t _).trans (recoveryTest_frame _)).mono (by decide)
  have h4 : ∀ t : State, SameExcept writeTouches t (dwellsByTime (retarget t)) := fun t =>
    packTouches_sub ((setProtection_frame_pack t _).trans (dwellsByTime_frame _))
  unfold packActs
  dsimp only
  split
  · exact (h1.trans (h2 _)).trans (h4 _)
  · exact ((h1.trans (h3 _)).trans (h2 _)).trans (h4 _)

theorem sectionActs_frame (old : Profile) (d : SectionData) (s : State) :
    SameExcept writeTouches s (sectionActs old d s) := by
  unfold sectionActs
  split
  · unfold sourcesActs; split
    · exact .refl _ s
    · exact resolveTouches_sub ((endGrants_frame _ _ s).trans (resolveList_frame _ _ _))
  · exact .refl _ s
  · exact resolveTouches_sub (((endGrants_frame _ _ s).trans (staleByHold_frame _)).trans (resolveList_frame _ _ _))
  · exact resolveTouches_sub (resolveList_frame _ _ s)
  · unfold geometryActs; split
    · exact driveTouches_sub (busyClamp_frame s)
    · exact .refl _ s
  · exact driveActs_frame _ s
  · exact winchTouches_sub (winchActsOn_frame _ s)
  · exact packActs_frame _ s
  · exact (lampResolve_frame s).mono (by decide)
  · unfold sceneActs; split
    · exact (sceneHanded_frame s).mono (by decide)
    · exact .refl _ s
  · exact .refl _ s

theorem setProfile_frame (s : State) (v : Profile) : SameExcept writeTouches s (s.setProfile v) := by
  intro b hb; cases b <;> first | exact (hb (by decide)).elim | rfl

theorem setStore_frame (s : State) (v : Store) : SameExcept writeTouches s (s.setStore v) := by
  intro b hb; cases b <;> first | exact (hb (by decide)).elim | rfl

theorem writeProfile_frame (sect : Byte) (body : List Byte) (s : State) :
    SameExcept writeTouches s (writeProfile sect body s) := by
  unfold writeProfile
  split
  · exact (refuse_frame _ _ s).mono (by decide)
  · exact (((setProfile_frame s _).trans (sectionActs_frame _ _ _)).trans (setStore_frame _ _)).trans
      ((setCompPort_frame_request _ _).mono (by decide))

theorem storeCompletes_frame (matched : Bool) (s : State) : SameExcept writeTouches s (storeCompletes matched s) := by
  unfold storeCompletes
  dsimp only
  split
  · exact .refl _ s
  · exact ((setStore_frame s _).trans ((raise_frame _ _).mono (by decide))).trans ((answer_frame _ _ _).mono (by decide))

/-! ### Taking a request -/

theorem runRequest_frame (r : Request) (s : State) : SameExcept writeTouches s (runRequest r s) := by
  cases r with
  | demand pairs => exact (runDemand_frame pairs s).mono (by decide)
  | grant fn d => exact (runGrant_frame fn d s).mono (by decide)
  | release fn => exact (runRelease_frame fn s).mono (by decide)
  | statusRead p => exact (runStatus_frame p s).mono (by decide)
  | telemetryRead p => exact (runTelemetry_frame p s).mono (by decide)
  | noticeTake => exact (runNoticeTake_frame s).mono (by decide)
  | causeTake => exact (runCauseTake_frame s).mono (by decide)
  | flagsSet f => exact (runFlagsSet_frame f s).mono (by decide)
  | profileWrite sect body => exact writeProfile_frame sect body s
  | profileRead sect scene => exact (readProfile_frame sect scene s).mono (by decide)
  | patternWrite b f st => exact (runPattern_frame b f st s).mono (by decide)
  | bankSwitch => exact (runBankSwitch_frame s).mono (by decide)
  | winchZero => exact (runWinchZero_frame s).mono (by decide)
  | checkLeads => exact (runCheckLeads_frame s).mono (by decide)
  | restart => exact (runRestart_frame s).mono (by decide)

/-- A request other than PROFILE_WRITE. -/
def Request.plain : Request → Bool
  | .profileWrite _ _ => false
  | _ => true

theorem runRequest_frame_plain (r : Request) (hr : r.plain = true) (s : State) :
    SameExcept requestTouches s (runRequest r s) := by
  cases r with
  | demand pairs => exact runDemand_frame pairs s
  | grant fn d => exact runGrant_frame fn d s
  | release fn => exact runRelease_frame fn s
  | statusRead p => exact runStatus_frame p s
  | telemetryRead p => exact runTelemetry_frame p s
  | noticeTake => exact runNoticeTake_frame s
  | causeTake => exact runCauseTake_frame s
  | flagsSet f => exact runFlagsSet_frame f s
  | profileWrite sect body => exact absurd hr (by simp [Request.plain])
  | profileRead sect scene => exact readProfile_frame sect scene s
  | patternWrite b f st => exact runPattern_frame b f st s
  | bankSwitch => exact runBankSwitch_frame s
  | winchZero => exact runWinchZero_frame s
  | checkLeads => exact runCheckLeads_frame s
  | restart => exact runRestart_frame s

theorem refuseBusy_frame (r : Except Cause Request) (s : State) : SameExcept requestTouches s (refuseBusy r s) := by
  unfold refuseBusy
  split
  · exact (((makeLive_frame _ s).mono (by decide)).trans (setComp_frame_request _ _)).trans (setComp_frame_request _ _)
  · exact (setComp_frame_request s _).trans (setComp_frame_request _ _)

theorem takeRequest_frame (kind : Byte) (r : Except Cause Request) (s : State) :
    SameExcept writeTouches s (takeRequest kind r s) := by
  unfold takeRequest
  split
  · exact (refuseBusy_frame r s).mono (by decide)
  · split
    · exact (refuseByte_frame _ kind s).mono (by decide)
    · exact ((makeLive_frame _ s).mono (by decide)).trans (runRequest_frame _ _)

theorem takeNamed_frame (q : Request) (s : State) : SameExcept writeTouches s (takeNamed q s) := takeRequest_frame _ _ s

theorem takeNamed_frame_plain (q : Request) (hq : q.plain = true) (s : State) :
    SameExcept requestTouches s (takeNamed q s) := by
  unfold takeNamed takeRequest sizedRequest
  split
  · exact refuseBusy_frame _ s
  · by_cases h : q.sized = true
    · rw [if_pos h]
      exact ((makeLive_frame _ s).mono (by decide)).trans (runRequest_frame_plain q hq _)
    · rw [if_neg h]
      exact (refuseByte_frame _ _ s).mono (by decide)

/-! ### Resets -/

theorem startUp_pending (pins : Pins) (s : State) : (startUp pins s).pending = s.pending := by
  have h : ∀ (u : State), SameExcept allButQueue u (startOutputs pins (firstResolution u)) := by
    intro u
    have h1 : SameExcept allButQueue u (firstResolution u) :=
      SameExcept.foldl (fun t f => (setResolver_frame t _).mono (by decide)) _ u
    have h2 : ∀ t : State, SameExcept allButQueue t (startHook pins t) := by
      intro t; unfold startHook; split
      · exact (raise_frame _ t).mono (by decide)
      · exact .refl _ t
    exact (((((h1.trans ((setSteering_frame _ _).mono (by decide))).trans ((setDrive_frame _ _).mono (by decide))).trans
      ((setWinch_frame _ _).mono (by decide))).trans (h2 _)).trans ((setLamps_frame_lamps _ _).mono (by decide))).trans
      ((lampResolve_frame _).mono (by decide))
  have h3 : ∀ u : State, SameExcept allButQueue u (startRecovery u) := by
    intro u; unfold startRecovery; split
    · exact ((setProtection_frame u _).trans (recoveryTest_frame _)).mono (by decide)
    · exact .refl _ u
  have h4 : ∀ (b : Bool) (u : State), SameExcept allButQueue u (startNotices b u) := by
    intro b u
    have h0 : SameExcept allButQueue u (u.setNotices ⟨0, 0⟩) := by
      intro b hb; cases b <;> first | exact (hb (by decide)).elim | rfl
    unfold startNotices
    dsimp only
    split
    · exact (h0.trans ((raise_frame _ _).mono (by decide))).trans ((raise_frame _ _).mono (by decide))
    · exact h0.trans ((raise_frame _ _).mono (by decide))
  exact (((h4 _ _).trans (h _)).trans (h3 _)) .queue (by decide)

theorem powerOn_pending (pins : Pins) (s : State) : (powerOn pins s).pending = s.pending := startUp_pending pins _

theorem takeRestart_pending (pins : Pins) (s : State) : (takeRestart pins s).pending = s.pending :=
  startUp_pending pins _

theorem endTransfer_frame (b : Bool) (s : State) : SameExcept requestTouches s (endTransfer b s) :=
  setCompPort_frame_request s _

theorem takeClocked_frame (mosi : List Byte) (s : State) : SameExcept writeTouches s (takeClocked mosi s) := by
  unfold takeClocked
  split
  · exact .refl _ s
  · split
    · exact .refl _ s
    · exact takeRequest_frame _ _ s

theorem selRises_pending (mosi : List Byte) (pins : Pins) (s : State) :
    (selRises mosi pins s).pending = s.pending := by
  unfold selRises
  dsimp only
  split
  · exact endTransfer_frame _ s .queue (by decide)
  · split
    · exact takeRestart_pending pins s
    · exact (((endTransfer_frame _ s).mono (by decide)).trans (takeClocked_frame mosi _)) .queue (by decide)

end Sys2Proof.Machine
end

