-- ==== Sys2Proof/Laws/Settings.lean ====
section
/-! SUPPORT. What the operations on settings in force, on the bridges and on the byte fields can do: one lemma for each
case, for later proofs to cite. -/
namespace Sys2Proof.Machine

/-! ### Settings in force -/

@[simp] theorem beginFrame_steering (s : State) :
    (beginFrame s).steering =
      { s.steering with frameTimer := s.profile.geometry.framePeriod, gate := s.profile.geometry.speedGate } := rfl

@[simp] theorem takeThresholds_protection (s : State) :
    (takeThresholds s).protection = { s.protection with thresholds := thresholdsOf s.profile.pack } := rfl

@[simp] theorem takeMinimum_protection (n : Nat) (s : State) :
    (takeMinimum n s).protection = { s.protection with vmin := correctedMin s n } := rfl

@[simp] theorem takeThresholds_profile (s : State) : (takeThresholds s).profile = s.profile := rfl

@[simp] theorem takeMinimum_profile (n : Nat) (s : State) : (takeMinimum n s).profile = s.profile := rfl

@[simp] theorem takeThresholds_sense (s : State) : (takeThresholds s).sense = s.sense := rfl

@[simp] theorem takeMinimum_sense (n : Nat) (s : State) : (takeMinimum n s).sense = s.sense := rfl

/-- A current sweep in flight completes with the settings of its start. -/
theorem sweepShunts_of_inFlight {s : State} {k : Shunts} (h : s.sense.currentSweep = some k) : sweepShunts s = k := by
  simp [sweepShunts, h]

/-- With no current sweep in flight the settings are the section's. -/
theorem sweepShunts_of_none {s : State} (h : s.sense.currentSweep = none) :
    sweepShunts s = shuntsOf s.profile.pack := by
  simp [sweepShunts, h]

/-- A sweep of the taps in flight completes with the settings of its start. -/
theorem sweepTaps_of_inFlight {s : State} {k : TapSettings} (h : s.sense.tapSweep = some k) : sweepTaps s = k := by
  simp [sweepTaps, h]

/-- With no sweep of the taps in flight the settings are those that stand. -/
theorem sweepTaps_of_none {s : State} (h : s.sense.tapSweep = none) :
    sweepTaps s = tapSettings s.profile.pack s.sense := by
  simp [sweepTaps, h]

/-! ### Bridges -/

theorem winchBridge_of_driven {w : WinchUnit} (h : winchDriven w = true) : winchBridge w = bridgeAt w.duty := by
  simp [winchBridge, h]

theorem winchBridge_of_braked {w : WinchUnit} (h : winchDriven w = false) : winchBridge w = .shorted 1000 := by
  simp [winchBridge, h]

theorem wheelBridge_of_run {c : Channel} (h : c.state = .run) : wheelBridge c = bridgeAt c.duty := by
  simp [wheelBridge, h]

@[simp] theorem natAbs_signedSpeed (reverse : Bool) (size : Nat) : (signedSpeed reverse size).natAbs = size := by
  cases reverse <;> simp [signedSpeed]

/-! ### Byte fields -/

/-- The low `w` bytes of a number hold it modulo 256 to the `w`. -/
theorem numberOf_le (w n : Nat) : numberOf (le w n) = n % 256 ^ w := by
  induction w generalizing n with
  | zero => simp [le, numberOf, Nat.mod_one]
  | succ w ih =>
    rw [le, numberOf, ih, BitVec.toNat_ofNat, Nat.pow_succ 256 w, Nat.mul_comm (256 ^ w) 256, Nat.mod_mul]

@[simp] theorem length_le (w n : Nat) : (le w n).length = w := by
  induction w generalizing n with
  | zero => rfl
  | succ w ih => simp [le, ih]

@[simp] theorem length_putU (w n : Nat) : (putU w n).length = w := length_le w _

@[simp] theorem length_putI (w : Nat) (z : Int) : (putI w z).length = w := length_le w _

/-- An unsigned number that fits its field reads back. -/
theorem numberOf_putU {w n : Nat} (h : n < 256 ^ w) : numberOf (putU w n) = n := by
  rw [putU, if_pos h, numberOf_le, Nat.mod_eq_of_lt h]

/-- The field at the front of a list of bytes. -/
theorem fieldAt_append {a b : List Byte} : fieldAt (a ++ b) 0 a.length = numberOf a := by simp [fieldAt]

/-- A field past the front of a list of bytes. -/
theorem fieldAt_append_right {a b : List Byte} {i w : Nat} (h : a.length ≤ i) :
    fieldAt (a ++ b) i w = fieldAt b (i - a.length) w := by
  simp [fieldAt, List.drop_append, List.drop_eq_nil_of_le h]

end Sys2Proof.Machine
end

