-- ==== Sys2Proof/WellFormed.lean ====
section
/-! DEFINITION. Which commands are well formed: those whose operands a master, a sensor or the line could hand over. The
machine gives a meaning to the others too: a request whose operands fit no length of its kind is refused FORMAT, a frame
of a bad length is dropped. -/
namespace Sys2Proof

open Machine

/-- A whole frame carries 1 to 16 items: its length byte passed R161. -/
def wfFrame (f : RadioFrame) : Bool := !badLength (frameLength f)

/-- A transfer of more whole bytes than any envelope and its status byte hold is well formed too; nothing is checked. -/
def wfTransfer (_mosi : List Byte) : Bool := true

/-- The time between two edges of one input is at least 1 µs. -/
def wfEdge (micros : Nat) : Bool := decide (1 ≤ micros)

/-- The well-formedness of a command. -/
def Instr.wf : Instr → Bool
  | .radioFrame frame => wfFrame frame
  | .interByteGap _ => true
  | .replyDelayExpiry => true
  | .replyEnd => true
  | .silenceTimerExpiry _ => true
  | .companionTransfer mosi _ => wfTransfer mosi
  | .demand pairs => (Request.demand pairs).sized
  | .grant _ _ => true
  | .release _ => true
  | .statusRead _ => true
  | .telemetryRead _ => true
  | .noticeTake => true
  | .causeTake => true
  | .flagsSet _ => true
  | .profileWrite sect body => (Request.profileWrite sect body).sized
  | .profileRead sect scene => (Request.profileRead sect scene).sized
  | .patternWrite bank first steps => (Request.patternWrite bank first steps).sized
  | .bankSwitch => true
  | .winchZero => true
  | .checkLeads => true
  | .restart => true
  | .storeComplete _ => true
  | .powerOn _ => true
  | .supplyDip _ => true
  | .slotStale _ f => isNumeric f
  | .grantExpiry _ => true
  | .blendStep f => isNumeric f
  | .steeringUpdate => true
  | .hallEdge _ micros => wfEdge micros
  | .speedTimeout _ => true
  | .wheelUpdate _ => true
  | .currentSweepStart => true
  | .currentSweepComplete _ => true
  | .tripRetryExpiry _ => true
  | .lockoutClearExpiry _ => true
  | .stillTimerExpiry => true
  | .encoderEdge _ _ => true
  | .hookClosing => true
  | .winchUpdate => true
  | .stallTimerExpiry => true
  | .stallClearExpiry => true
  | .cellSweepSlotStart => true
  | .cellSweepComplete _ => true
  | .leadCheckComplete _ => true
  | .cutoffDwellExpiry => true
  | .recoveryDwellExpiry => true
  | .apportionment => true
  | .blinkToggle => true
  | .stepTimerExpiry => true
  | .badLengthByte l => badLength l.toNat
  | .selFall => true
  | .hookOpening => true

end Sys2Proof
end

