-- ==== Sys2Proof/Tests/Slice0.lean ====
section
/-! SUPPORT. The model's own tests: the well-formedness smoke tests, the manual's worked examples, single steps of the
block, and for every statement with hypotheses a concrete state and operands that meet them. -/
namespace Sys2Proof.Tests

open Machine

/-! ### Well-formedness: an ill-formed term for each check -/

theorem test_wf_frame_without_items : (Instr.radioFrame ⟨0, [], 0⟩).wf = false := by decide

theorem test_wf_frame_of_17_items : (Instr.radioFrame ⟨0, List.replicate 17 ⟨0, 0, 0⟩, 0⟩).wf = false := by decide

theorem test_wf_demand_without_pairs : (Instr.demand []).wf = false := by decide

theorem test_wf_demand_of_8_pairs : (Instr.demand (List.replicate 8 ⟨0, 0⟩)).wf = false := by decide

theorem test_wf_write_of_a_wrong_length : (Instr.profileWrite 10 [200, 0]).wf = false := by decide

theorem test_wf_read_of_scenes_without_a_scene : (Instr.profileRead 9 none).wf = false := by decide

theorem test_wf_read_of_drive_with_a_scene : (Instr.profileRead 5 (some 0)).wf = false := by decide

theorem test_wf_pattern_of_24_steps : (Instr.patternWrite 1 0 (List.replicate 24 ⟨0, 0, 1, 0⟩)).wf = false := by decide

theorem test_wf_stale_scene : (Instr.slotStale .radio .scene).wf = false := by decide

theorem test_wf_blend_of_range : (Instr.blendStep .range).wf = false := by decide

theorem test_wf_edge_after_no_time : (Instr.hallEdge .fl 0).wf = false := by decide

theorem test_wf_good_length_byte_as_bad : (Instr.badLengthByte 6).wf = false := by decide

theorem test_wf_whole_frame : (Instr.radioFrame ⟨0, [⟨0, 0, 0⟩], 0⟩).wf = true := by decide

/-! ### The manual's worked examples -/

/-- Section 10.6: the nine bytes 0x31 to 0x39 give 0x29B1. -/
theorem test_crc_of_the_manual : crc16 [0x31, 0x32, 0x33, 0x34, 0x35, 0x36, 0x37, 0x38, 0x39] = 0x29B1#16 := by
  decide

/-- Section 2.4's example: raw 2600 gives DRIVE 552. -/
theorem test_map_2600 : demandOf ⟨0, 63, .fn .drive, false, 2048, 1000, 30⟩ .drive 2600 = 552 := by decide

/-- R32's examples: 1500 gives −548, and 548 reversed; 3200 is clamped to 1000; 1800 on DRAG to 0. -/
theorem test_map_examples :
    demandOf ⟨1, 63, .fn .steer, false, 2048, 1000, 0⟩ .steer 1500 = -548
      ∧ demandOf ⟨1, 63, .fn .steer, true, 2048, 1000, 0⟩ .steer 1500 = 548
      ∧ demandOf ⟨1, 63, .fn .steer, false, 2048, 1000, 0⟩ .steer 3200 = 1000
      ∧ demandOf ⟨4, 63, .fn .drag, false, 2048, 1000, 0⟩ .drag 1800 = 0 := by decide

/-- R33: raw 1365 is RANGE LOW, 1366 MID and 2731 HIGH. -/
theorem test_map_range :
    demandOf ⟨5, 63, .fn .range, false, 2048, 1000, 0⟩ .range 1365 = 0
      ∧ demandOf ⟨5, 63, .fn .range, false, 2048, 1000, 0⟩ .range 1366 = 1
      ∧ demandOf ⟨5, 63, .fn .range, false, 2048, 1000, 0⟩ .range 2731 = 2 := by decide

/-- Chapter 4's counter-steer turn: W 280, K 240, outputs 200 and −200. -/
theorem test_counter_steer_turn :
    geometryOf { defaultGeometry with wheelbase := 280, track := 240 } GeometryRec.reset 200 (-200)
      = ⟨⟨584, 1023, 585, 1024⟩, false, false, 1, some 769, 1⟩ := by decide +kernel

/-- Chapter 4's pivot: W 150, K 250, outputs 450 and −450, pivot allowed. -/
theorem test_pivot_turn :
    geometryOf { defaultGeometry with wheelbase := 150, track := 250, pivotAllowed := true } GeometryRec.reset 450 (-450)
      = ⟨⟨-431, 1024, -431, 1024⟩, false, true, 0, some 150, 1⟩ := by decide +kernel

/-- The same pivot at strength 50: 297 and 1024. -/
theorem test_pivot_strength :
    (geometryOf { defaultGeometry with wheelbase := 150, track := 250, pivotAllowed := true, strength := 50 }
      GeometryRec.reset 450 (-450)).ratios = ⟨297, 1024, 297, 1024⟩ := by decide +kernel

/-- R78: an interval of 11 630 µs gives 180 mm/s with the defaults. -/
theorem test_edge_speed : edgeSpeed defaultDrive 11630 = 180 := by decide

/-- Chapter 5's drive chain: DRIVE 600 in MID gives the four commands. -/
theorem test_drive_chain :
    scaledCommand 600 700 1000 584 = 239 ∧ scaledCommand 600 700 1000 1023 = 419
      ∧ scaledCommand 600 700 1000 585 = 239 ∧ scaledCommand 600 700 1000 1024 = 420 := by decide

/-- R119's readings: wheel code 3000, pack code 1640. -/
theorem test_current_readings :
    currentReading ⟨2048, 65000⟩ 3000#12 = 15107 ∧ currentReading ⟨256, 65000⟩ 1640#12 = 21962 := by decide

/-- R121: a code of 3200 on tap 2 reads 7812 mV. -/
theorem test_tap_reading : tapReading 10000 3200#12 = 7812 := by decide

/-- Chapter 7's start: the six tap readings resolve AUTO to 4 cells. -/
theorem test_auto_count :
    autoCount #v[some 3905, some 7812, some 11730, some 15611, some 15640, some 15652] = 4 := by decide

/-- Chapter 8's scarce apportionment, with sync active. -/
theorem test_scarce_apportionment :
    twoPasses ⟨5600, 2000⟩ ⟨19755, 6000⟩ ⟨300, 300⟩ 19240 = ⟨5600, 13340, 300, 0⟩ := by decide

/-- Chapter 9's dimming: wished 1000 under a claim of 450 and a grant of 300. -/
theorem test_dimming : outputLevel 1000 450 300 = 666 := by decide

/-- R46's examples of trim: 500 with −400, and 950 with 1000, at a limit of 150. -/
theorem test_trim :
    clampI (-1000) 1000 (500 + ((-400 : Int) * 150).tdiv 1000) = 440
      ∧ clampI (-1000) 1000 (950 + ((1000 : Int) * 150).tdiv 1000) = 1000 := by decide

/-! ### States for the tests -/

/-- After reset, with the companion LIVE. -/
def liveState : State := State.reset.setComp { State.reset.comp with state := .live, timer := 500 }

/-- The same with the radio LIVE too. -/
def bothLive : State := liveState.setRadio { State.reset.radio with state := .live, timer := 250 }

/-- A parked vehicle with the companion LIVE. -/
def parkedState : State := liveState.setDrive { State.reset.drive with still := 500 }

/-- A slot that holds a value and is TAKEN. -/
def takenAt (v : Int) : Slot := ⟨some v, .taken, 5, 1, 0, some v, true⟩

/-- The companion may be granted DRIVE: a usable slot, and the radio LIVE at rest. -/
def grantable : State := setSlot bothLive .companion .drive (takenAt 0)

/-- DRIVE held by the companion. -/
def granted : State := setGrant grantable .drive ⟨some ⟨100, 0⟩, none⟩

/-- DRIVE part way through a blend that the companion decides. -/
def blending : State := setEff granted .drive ⟨100, .grant, .companion, some ⟨200, 190, 200, 10⟩, 0, 0⟩

/-- The steering at work on a mode change. -/
def steeringIn (st : SteerState) : State :=
  State.reset.setSteering { State.reset.steering with state := st, next := some .crab, heldSteer := 500 }

/-- A channel in RUN. -/
def running : Channel := { Channel.reset 0 with state := .run, overs := 2, timing := true, carry := 49 }

/-- The front left channel as given. -/
def withChannel (c : Channel) : State := setChan State.reset .fl c

/-- An effective DRIVE of 31, the least outside the band. -/
def justOutOfBand : State := setEff (withChannel running) .drive ⟨31, .primary, .radio, none, 31, 31⟩

/-- The winch in a state, at payout count 1 with home KNOWN. -/
def winchIn (st : WinchState) : WinchUnit :=
  { State.reset.winch with
    state := st, known := true, counter := 1, lastPayout := 1, current := 6000, stall := some 395, held := 700 }

/-- The machine with that winch. -/
def winchState (st : WinchState) : State := State.reset.setWinch (winchIn st)

/-- A pack of four cells, sensed once, in a protection state. -/
def sensed (st : ProtState) : State :=
  (State.reset.setSense { State.reset.sense with count := some 4, swept := true, checkDue := true }).setProtection
    { State.reset.protection with state := st, dwell := some 2000, recovery := some 5000, vmin := some ⟨3500, 1⟩ }

/-- A transfer running with nothing to send. -/
def inTransfer : State := State.reset.setCompPort { State.reset.compPort with transfer := .running 0x84 none }

/-- A frame of one item at raw 2000, header 0. -/
def plainFrame : RadioFrame := ⟨0, [⟨0, 0xD0, 0x07⟩], 47433⟩

/-- The same with the failsafe and permit bits. -/
def failsafeFrame : RadioFrame := ⟨3, [⟨0, 0xD0, 0x07⟩], 8853⟩

theorem valid_plainFrame : FrameValid plainFrame := ⟨by decide, by decide, by decide⟩

theorem valid_failsafeFrame : FrameValid failsafeFrame := ⟨by decide, by decide, by decide⟩

/-- A frame of one item under a header, with the CRC that it calls for. -/
def frameOf (header : Byte) (x : RadioItem) : RadioFrame := ⟨header, [x], crc16 (frameBody ⟨header, [x], 0⟩)⟩

theorem valid_frameOf (header : Byte) (x : RadioItem) : FrameValid (frameOf header x) :=
  ⟨Nat.le_refl 1, Nat.le_add_right 1 15, rfl⟩

/-- An item of a tag at a raw value. -/
def itemAt (tag raw : Nat) : RadioItem := ⟨BitVec.ofNat 8 tag, BitVec.ofNat 8 raw, BitVec.ofNat 8 (raw / 256)⟩

/-- The target that an item finds in the default map. -/
def targetOf? (x : RadioItem) : Option Target := (matchEntry defaultMap (itemTag x)).map fun e => e.target

/-- Both masters LIVE, over a map whose first entry bars. -/
def barring : State :=
  bothLive.setProfile { bothLive.profile with map := defaultMap.set 0 { defaultMap.get 0 with target := .bar } }

/-- A function held by the companion, with a breakaway count. -/
def heldAt (f : Fn) (n : Nat) : State := setGrant bothLive f ⟨some ⟨100, n⟩, none⟩

theorem ready_liveState : RequestReady liveState := ⟨⟨rfl, rfl⟩, rfl⟩

theorem ready_grantable : RequestReady grantable := ⟨⟨rfl, rfl⟩, rfl⟩

/-! ### Single steps -/

/-- An envelope of STATUS_READ page 0 answers with the page number and 103 bytes in all (the fields of section 10.6). -/
theorem test_status_page_length : (statusPage0 State.reset).length = 102 := by decide

/-- A hook closing raises WINCH_LIMIT and brakes the winch at home. -/
theorem test_hook_closing : (hookCloses State.reset).winch.state = .limitIn := by decide

/-- A step takes the command in front and keeps the rest. -/
theorem test_step_keeps_the_queue :
    step (State.reset.setPending [.hookOpening, .stillTimerExpiry])
      = exec .hookOpening (State.reset.setPending [.stillTimerExpiry]) := rfl

/-- No row of the table gives bits: no word spells a command. -/
theorem test_no_word_spells_a_command : decodeTableWord 8 1 = none := rfl

/-- The third trip sample of a channel locks it out at a trip count of 1 and not at 3. -/
theorem test_third_sample :
    (sampledChannel State.reset 28001 running).state = .tripped
      ∧ (sampledChannel State.reset 28000 running).state = .run := by decide

/-- R126 and R128's example: a fixed count is resolved at all times. -/
theorem test_fixed_count : fixedCount { defaultPack with cellCount := 4 } = some 4 := by decide

/-- R164: MISO carries the status byte, the answer and then zeros, and nothing outside a transfer. -/
theorem test_miso :
    let s := State.reset.setCompPort { State.reset.compPort with transfer := .running 0x81 (some [0x8F, 1]) }
    [0, 1, 2, 3].map (misoByte s) = [some 0x81, some 0x8F, some 1, some 0]
      ∧ [0, 1].map (misoByte inTransfer) = [some 0x84, some 0] ∧ misoByte State.reset 0 = none := by decide

/-! ### Hypotheses met: one witness per statement that has any -/

theorem test_meets_idle : State.reset.pending = [] ∧ dueCommand State.reset = some .cellSweepSlotStart := by
  decide

theorem test_meets_idle_tick :
    dueCommand (State.reset.setSense { State.reset.sense with slotTimer := 5 }) = none := by decide

theorem test_meets_only_writes : exec .hookOpening State.reset = .next (hookOpens State.reset) := rfl

/-- The same with a wheel turning, a slot TAKEN and another EMPTY: each clause of the tick. -/
theorem test_meets_idle_tick_turning :
    let s :=
      setSlot (withChannel { running with speed := 8, timer := 2 }) .radio .drive (takenAt 0)
    let u := s.setSense { s.sense with slotTimer := 5 }
    dueCommand u = none ∧ (∃ w, (chan u w).speed ≠ 0) ∧ (slotOf u .radio .drive).state ≠ .empty
      ∧ (slotOf u .radio .steer).state = .empty := ⟨by decide, ⟨.fl, by decide⟩, by decide, by decide⟩

/-- The state that the invariants' witnesses step from. -/
def queued : State := State.reset.setPending [.stillTimerExpiry]

theorem test_queued_steps : step queued = .next (stillExpires State.reset) := rfl

theorem test_meets_cutoff_safe : CutoffSafe queued where
  drive := fun _ w => by cases w <;> decide
  held := rfl
  winch := fun _ => rfl
  duty := fun _ => rfl
  lockout := by decide
  latch := by decide
  driveLocked := fun _ => rfl
  winchLocked := fun _ => rfl

theorem test_meets_ranged : Ranged queued where
  eff := fun f => by
    cases f <;>
      exact ⟨by unfold InRange; decide, by unfold InRange; decide, by unfold InRange; decide, fun _ h => by cases h⟩
  slots := fun m f v h => by cases m <;> cases f <;> cases h
  failsafe := fun f v h => by cases f <;> cases h <;> (unfold InRange; decide)
  cutoffDrag := by decide

theorem test_meets_allowance : AllowanceBounded queued := ⟨by decide, by decide, by decide, fun h => by cases h⟩

theorem test_meets_mode_follows : ModeFollows queued := ⟨rfl, rfl⟩

theorem test_meets_end_stops : EndStopsHeld queued := ⟨by decide, fun h => (by cases h), fun h => (by cases h)⟩

theorem test_meets_wheels_bounded : WheelsBounded queued where
  rest := fun w _ => by cases w <;> decide
  trims := fun w => by cases w <;> decide
  top := fun w => by cases w <;> decide
  transition := fun h => by cases h

theorem test_meets_grants : GrantsStand queued := fun f h => by cases f <;> cases h

theorem test_meets_cells : CellsExclusive queued :=
  ⟨fun h => (by cases h), by decide, by decide, fun h => (by cases h)⟩

theorem test_meets_stored_sections : (checkBody .reply [244, 1, 1, 5, 10, 10, 10, 255]).toOption.isSome = true := by
  decide

theorem test_meets_frame_errors :
    lineFree State.reset = true ∧ ((⟨0, [], 0⟩ : RadioFrame).items = [])
      ∧ 16 < (⟨0, List.replicate 17 ⟨0, 0, 0⟩, 0⟩ : RadioFrame).items.length
      ∧ crc16 (frameBody { plainFrame with crc := 0 }) ≠ 0
      ∧ (3 : Byte).toNat < 6 ∧ 51 < (54 : Byte).toNat ∧ (7 : Byte).toNat % 3 ≠ 0 := by decide

theorem test_meets_failsafe_frame :
    lineFree State.reset = true ∧ failsafeFrame.header.getLsbD 0 = true ∧ failsafeFrame.header.getLsbD 1 = true
      ∧ FrameValid failsafeFrame := ⟨rfl, by decide, by decide, valid_failsafeFrame⟩

theorem test_meets_sequence :
    lineFree bothLive = true ∧ FrameValid plainFrame ∧ bothLive.radio.state = .live
      ∧ consumes (answerSent (bothLive.setCompPort ⟨none, some [0], .running 1 (some [0]), true⟩)) 2 = true :=
  ⟨rfl, valid_plainFrame, rfl, rfl⟩

theorem test_meets_valid_frame :
    lineFree State.reset = true ∧ FrameValid plainFrame ∧ plainFrame.header.getLsbD 0 = false
      ∧ State.reset.radio.state ≠ .live ∧ frameWrites State.reset plainFrame.items .winch = false
      ∧ frameWrites State.reset [⟨1, 0, 0⟩] .drive = false ∧ State.reset.profile.sources.compNotices.getLsbD 8 = true :=
  ⟨rfl, valid_plainFrame, by decide, by decide, by decide, by decide, by decide⟩

theorem test_meets_item_transforms :
    4095 < 4096 ∧ isNumeric .drive = true ∧ isNumeric .scene = false
      ∧ (fnMask State.reset .radio).getLsbD (fnNumber .drive) = true := by decide

theorem test_meets_item_write :
    plainFrame.items = [⟨0, 0xD0, 0x07⟩] ∧ bothLive.radio.state = .live
      ∧ (matchEntry bothLive.profile.map (itemTag ⟨0, 0xD0, 0x07⟩)).map (fun e => e.target) = some (.fn .drive)
      ∧ (slotOf bothLive .radio .drive).state ≠ .fresh := by decide

/-- Raw 2047 and 2048 on the flag of entry 7, the two sides of its threshold; an item of entry 11, whose target is NONE, and
of a tag that no entry has; and an item of DRIVE outside the radio's mask. -/
theorem test_meets_item_flag :
    itemRaw (itemAt 7 2047) = 2047 ∧ itemRaw (itemAt 7 2048) = 2048
      ∧ targetOf? (itemAt 7 2047) = some (.flag 0) ∧ targetOf? (itemAt 7 2048) = some (.flag 0)
      ∧ targetOf? (itemAt 11 0) = none ∧ targetOf? (itemAt 40 0) = none
      ∧ targetOf? (itemAt 0 0) = some (.fn .drive)
      ∧ (fnMask (bothLive.setProfile
          { bothLive.profile with sources := { defaultSources with radioFns := 0x7E#7 } }) .radio).getLsbD 0 = false := by
  decide

/-- A BAR item that bars, one that leaves the flag, and, once barred, one that unbars. -/
theorem test_meets_item_bar :
    (matchEntry barring.profile.map (itemTag (itemAt 0 2048))).map (fun e => e.target) = some .bar
      ∧ barring.comp.barred = false ∧ barring.comp.state = .live ∧ barring.radio.state = .live
      ∧ (barring.setComp { barring.comp with barred := true }).comp.barred = true
      ∧ 2048 ≤ itemRaw (itemAt 0 2048) ∧ ¬(2048 ≤ itemRaw (itemAt 0 2047))
      ∧ FrameValid (frameOf 0 (itemAt 0 2048)) ∧ FrameValid (frameOf 0 (itemAt 0 2047)) :=
  ⟨by decide, rfl, rfl, rfl, rfl, by decide, by decide, valid_frameOf _ _, valid_frameOf _ _⟩

/-- Raw 2298 on DRIVE is 250, its breakaway, and 2297 is 249; the grant has counted 0 or 1. STEERMODE, discrete, is held
too, and its slot changes or stands; it waits while the axle slews. -/
theorem test_meets_item_grants :
    demandOf (defaultMap.get 0) .drive 2298 = 250 ∧ demandOf (defaultMap.get 0) .drive 2297 = 249
      ∧ (authOf bothLive .drive).breakaway = 250
      ∧ (grantOf (heldAt .drive 0) .drive).held = some ⟨100, 0⟩ ∧ (grantOf (heldAt .drive 1) .drive).held = some ⟨100, 1⟩
      ∧ (grantOf (heldAt .steermode 0) .steermode).held = some ⟨100, 0⟩
      ∧ demandOf (defaultMap.get 2) .steermode 1024 = 1
      ∧ (slotOf (setSlot bothLive .radio .steermode (takenAt 1)) .radio .steermode).value = some 1
      ∧ (slotOf bothLive .radio .steermode).value ≠ some 1 ∧ (grantOf bothLive .steermode).held = none
      ∧ (steeringIn .slewing).steering.state = .slewing := by decide

/-- A write that repeats a TAKEN value with its mark set is not handed over; any other is. -/
theorem test_meets_item_handed :
    (slotOf (setSlot bothLive .radio .drive (takenAt 0)) .radio .drive).state = .taken
      ∧ demandOf (defaultMap.get 0) .drive 2048 = 0 ∧ (takenAt 0).value = some 0 ∧ (takenAt 0).confirmed = true
      ∧ (slotOf bothLive .radio .drive).state ≠ .taken := by decide

theorem test_meets_reply_window :
    (State.reset.setRadioPort { State.reset.radioPort with reply := .delay [1] 0 }).radioPort.reply = .delay [1] 0
      ∧ (State.reset.setRadioPort { State.reset.radioPort with reply := .sending [1] 0 }).radioPort.reply
          = .sending [1] 0 ∧ State.reset.radioPort.reply = .none := by decide

/-- The slots' counts one below the intervals of the default REPLY section, and a notice pending or not. -/
def replying (notices : BitVec 16) (n : Nat) : State :=
  (bothLive.setNotices ⟨notices, 0⟩).setRadioPort { bothLive.radioPort with counts := ⟨n, n, n, n, n⟩ }

/-- The state after a frame of one item on DRIVE at 0, without the permit. -/
def afterPlain (s : State) : State :=
  match exec (.radioFrame (frameOf 0 (itemAt 0 2048))) s with
  | .next u => u
  | .fault _ => s
  | .refused _ => s

/-- The two frames of the statement, one with the permit and one without, with the failsafe bit or not. -/
theorem test_meets_reply_frames :
    FrameValid (frameOf 2 (itemAt 0 2048)) ∧ FrameValid (frameOf 0 (itemAt 0 2048)) ∧ FrameValid (frameOf 3 (itemAt 0 2048))
      ∧ FrameValid (frameOf 1 (itemAt 0 2048)) ∧ (3 : Byte).getLsbD 1 = true ∧ (0 : Byte) = 2 &&& 0xFD#8
      ∧ (1 : Byte) = 3 &&& 0xFD#8 ∧ lineFree (replying 4 0) = true :=
  ⟨valid_frameOf _ _, valid_frameOf _ _, valid_frameOf _ _, valid_frameOf _ _, by decide, by decide, by decide, rfl⟩

/-- ALERT due; PACK due with none below it; and counts below every interval, with nothing due. -/
theorem test_meets_reply_scan :
    ((afterPlain (replying 4 0)).notices.radio ≠ 0 ∧ (afterPlain (replying 4 0)).profile.reply.alertEnable = true)
      ∧ ((afterPlain (replying 0 4)).notices.radio = 0 ∧ (afterPlain (replying 0 4)).profile.reply.packEvery = 5
        ∧ (afterPlain (replying 0 4)).radioPort.counts.pack = 5)
      ∧ ((afterPlain (replying 0 0)).notices.radio = 0 ∧ (afterPlain (replying 0 0)).radioPort.counts = ⟨1, 1, 1, 1, 1⟩) := by
  decide

theorem test_meets_silence : bothLive.radio.state = .live ∧ bothLive.comp.state = .live ∧ bothLive.comp.barred = false
    ∧ State.reset.radio.state ≠ .live ∧ State.reset.comp.state ≠ .live := by decide

theorem test_meets_demand :
    CellsFree State.reset ∧ fnOfNumber (0 : Byte).toNat = some .drive
      ∧ (fnMask State.reset .companion).getLsbD 0 = true ∧ (slotOf State.reset .companion .drive).state ≠ .fresh
      ∧ State.reset.comp.barred = false := ⟨⟨rfl, rfl⟩, by decide⟩

/-- From a LIVE companion a first write is handed over, and a repeat of a TAKEN value with its mark set is not. Four pairs:
one written, one outside the mask, a number above 6, and a discrete value outside its enumeration. -/
theorem test_meets_demand_pairs :
    let s := liveState.setProfile { liveState.profile with sources := { defaultSources with compFns := 0x7D#7 } }
    (slotOf liveState .companion .drive).state ≠ .taken ∧ (slotOf grantable .companion .drive).state = .taken
      ∧ liveState.comp.state = .live ∧ s.comp.barred = false
      ∧ [(⟨0, 5⟩ : DemandPair), ⟨1, 5⟩, ⟨7, 0⟩, ⟨5, 3⟩].map (pairResult s)
          = [0, causeCode .reach, causeCode .value, causeCode .value] := by decide

theorem test_meets_supersede :
    let s := setSlot (liveState.setSteering { State.reset.steering with state := .slewing, next := some .crab })
      .companion .steermode ⟨some 2, .fresh, 0, 1, 0, some 2, false⟩
    RequestReady s ∧ s.steering.state = .slewing ∧ (slotOf s .companion .steermode).state = .fresh
      ∧ (0 : Int) ≤ (3#16).toInt ∧ (3#16).toInt ≤ 3 :=
  ⟨⟨⟨rfl, rfl⟩, rfl⟩, rfl, rfl, by decide, by decide⟩

theorem test_meets_stale :
    isNumeric .drive = true ∧ (slotOf granted .companion .drive).state = .taken
      ∧ (grantOf granted .drive).held.isSome = true ∧ isNumeric .scene = false
      ∧ (slotOf State.reset .radio .drive).state ≠ .taken := by decide

theorem test_meets_grant :
    RequestReady grantable ∧ (grantOf grantable .drive).held = none ∧ locked grantable .drive = false
      ∧ (authOf grantable .drive).takeover = true ∧ usable grantable .companion .drive = true
      ∧ grantable.radio.state = .live ∧ (0 : Int).natAbs < (authOf grantable .drive).breakaway / 2
      ∧ grantable.steering.state ≠ .slewing := ⟨ready_grantable, by decide⟩

/-- One state for each check of a GRANT: a number above 6, the bar, the mask, a held grant, the lock, takeover not allowed,
no usable slot, no radio, and a radio slot at half the breakaway. -/
theorem test_meets_grant_refusals :
    6 < (7 : Byte).toNat
      ∧ (grantable.setComp { grantable.comp with barred := true }).comp.barred = true
      ∧ (fnMask (grantable.setProfile
          { grantable.profile with sources := { defaultSources with compFns := 0x7E#7 } }) .companion).getLsbD 0 = false
      ∧ (grantOf granted .drive).held.isSome = true
      ∧ locked (grantable.setResolver { grantable.resolver with lockout := true }) .drive = true
      ∧ (authOf grantable .steermode).takeover = false ∧ usable liveState .companion .drive = false
      ∧ ((authOf liveState .drive).tethered = true ∧ liveState.radio.state ≠ .live)
      ∧ (authOf grantable .drive).breakaway / 2
          ≤ (((slotOf (setSlot grantable .radio .drive (takenAt (-125))) .radio .drive).value).getD 0).natAbs := by
  decide

theorem test_meets_grant_end :
    RequestReady granted ∧ (grantOf granted .drive).held.isSome = true ∧ (grantOf granted .steer).held = none
      ∧ granted.steering.state ≠ .slewing := ⟨⟨⟨rfl, rfl⟩, rfl⟩, by decide⟩

/-- At elapsed 190 of 200 the step ends the blend; at a blend time of 210 it goes on. -/
theorem test_meets_blend_step :
    (effOf blending .drive).blend = some ⟨200, 190, 200, 10⟩ ∧ locked blending .drive = false
      ∧ decision blending .drive = ⟨.grant, .companion, some 0⟩
      ∧ mastersChange (effOf blending .drive).source .companion = false ∧ 200 ≤ 190 + 10 ∧ ¬(190 + 10 < 200)
      ∧ 190 + 10 < 210 := by decide

theorem test_meets_steering_settled : State.reset.steering.state = .settled := rfl

theorem test_meets_slew :
    (steeringIn .slewing).steering.next = some .crab ∧ (steeringIn .slewing).steering.state = .slewing
      ∧ (steeringIn .waiting).steering.state = .waiting
      ∧ meanSpeed (steeringIn .waiting) ≤ (steeringIn .waiting).profile.geometry.speedGate
      ∧ (steeringIn .waiting).profile.geometry.speedGate
          < meanSpeed (mapChans (steeringIn .waiting) fun c => { c with speed := 151 }) := by decide

/-- R75: a written speed gate rules only from the next steering update on. -/
theorem test_gate_acts_at_the_next_update :
    let s := State.reset.setProfile { State.reset.profile with geometry := { defaultGeometry with speedGate := 900 } }
    s.steering.gate = 150 ∧ (steeringUpdate s).steering.gate = 900 := by decide

theorem test_meets_turn_ratios :
    150 ≤ defaultGeometry.wheelbase ∧ defaultGeometry.wheelbase ≤ 450 ∧ 100 ≤ defaultGeometry.track
      ∧ defaultGeometry.track ≤ 350 ∧ defaultGeometry.strength ≤ 100
      ∧ (tanOf 2 - tanOf 0).natAbs < 16 ∧ 16 ≤ (tanOf 3 - tanOf 0).natAbs := by decide

theorem test_meets_edges :
    (chan State.reset .fl).timing = false ∧ (chan (withChannel running) .fl).timing = true ∧ 49 + 0 < 50 ∧ 50 ≤ 49 + 1 := by
  decide

/-- R79: a nonzero duty turns the sign of the speed with it, and duty 0 leaves it. -/
theorem test_speed_follows_the_duty :
    signedSpeed (reverseAfter (-5) false) 180 = -180 ∧ signedSpeed (reverseAfter 0 true) 180 = -180 := by decide

/-- R77 and R106: what the bridges put out. -/
theorem test_bridges :
    wheelBridge { running with duty := -300 } = .driven (-300) ∧ wheelBridge { running with duty := 0 } = .off
      ∧ wheelBridge (Channel.reset 400) = .shorted 400 ∧ wheelBridge { running with state := .tripped } = .off
      ∧ winchBridge { winchIn .outward with duty := -700 } = .driven (-700)
      ∧ winchBridge { winchIn .inward with duty := 0 } = .off ∧ winchBridge (winchIn .stalled) = .shorted 1000 := by
  decide

theorem test_meets_chain :
    (chan justOutOfBand .fl).state = .run ∧ (chan justOutOfBand .fr).state = .drag
      ∧ justOutOfBand.profile.drive.neutralBand < (effective justOutOfBand .drive).natAbs
      ∧ (effective justOutOfBand .drive).natAbs ≤ 1000 ∧ justOutOfBand.winch.sync.cap ≤ 1000
      ∧ (justOutOfBand.steering.geometry.ratios.get .fl).natAbs ≤ 1024 := by decide

theorem test_meets_outside_run :
    (chan State.reset .fl).state = .drag ∧ (effective State.reset .drive).natAbs ≤ State.reset.profile.drive.neutralBand
      ∧ (chan (withChannel running) .fl).state = .run
      ∧ (chan (withChannel { running with state := .tripped, retry := some 0 }) .fl).retry.isSome = true
      ∧ (chan (withChannel { running with state := .lockedOut, clear := some 500 }) .fl).clear.isSome = true
      ∧ (withChannel { running with state := .tripped, retry := none } |> fun s => (chan s .fl).retry) = none
      ∧ (0 < (chan State.reset .fl).dragLevel ∧ (Channel.reset 0).dragLevel = 0)
      ∧ (∀ u, (chan State.reset u).speed = 0)
      ∧ (∃ u, (chan (withChannel { running with speed := 8 }) u).speed ≠ 0) :=
  ⟨rfl, by decide, rfl, rfl, rfl, rfl, by decide, fun u => by cases u <;> rfl, .fl, by decide⟩

/-- Samples at 28 000 and 28 001 mA lie on the two sides of the default trip level; lists of 1 and 3 entries lie below and
at the default trip count. -/
theorem test_meets_trip :
    (chan (withChannel running) .fl).state = .run ∧ (chan (withChannel running) .fl).overs = 2
      ∧ defaultDrive.tripLevel < (currentReading ⟨2048, 65000⟩ 4095#12).natAbs
      ∧ (currentReading ⟨2048, 65000⟩ 2048#12).natAbs ≤ defaultDrive.tripLevel
      ∧ (tripsAfter 0 defaultDrive.tripWindow []).length < defaultDrive.tripCount
      ∧ defaultDrive.tripCount ≤ (tripsAfter 0 defaultDrive.tripWindow [0, 0]).length
      ∧ (chan State.reset .fl).overs < 2 := by decide

/-- From payout 1 an inward edge reaches the inward stop; from the limit count less 1 an outward edge the outward stop. -/
theorem test_meets_encoder :
    payout (winchState .inward).winch = 1 ∧ (winchState .inward).winch.known = true
      ∧ ((true ≠ (winchState .inward).winch.encA ∧ false = (winchState .inward).winch.encB)
        ∧ (false = (winchState .inward).winch.encA ∧ true ≠ (winchState .inward).winch.encB))
      ∧ limitCount (winchState .outward).profile.winch = 9600
      ∧ payout { winchIn .outward with counter := 9599 } = 9599 := by decide

theorem test_meets_home :
    RequestReady liveState ∧ State.reset.winch.hookClosed = false ∧ liveState.winch.state = .idle
      ∧ (winchState .outward).winch.state = .outward ∧ (winchState .stalled).winch.state = .stalled :=
  ⟨ready_liveState, rfl, rfl, rfl, rfl⟩

theorem test_meets_winch_update :
    (winchState .inward).winch.state = .inward
      ∧ { winchIn .inward with current := 5999 }.current < (winchState .inward).profile.winch.stallCurrent
      ∧ State.reset.winch.state ≠ .inward ∧ State.reset.winch.state ≠ .outward := by decide

/-- The stall timer at 395 reaches the default stall time of 400 at this update; at 390 it does not. -/
theorem test_meets_stall :
    (winchState .inward).profile.winch.stallCurrent ≤ (winchState .inward).winch.current
      ∧ (payout (winchState .inward).winch - (winchState .inward).winch.lastPayout).natAbs ≤ 1
      ∧ (winchState .inward).profile.winch.stallTime ≤ 395 + 5 ∧ 390 + 5 < (winchState .inward).profile.winch.stallTime
      ∧ (winchState .inward).winch.stall.isSome = true ∧ State.reset.winch.stall = none
      ∧ ({ winchIn .stalled with clear := some 300 } : WinchUnit).clear.isSome = true := by decide

theorem test_meets_slots :
    ((sensed .normal).sense.checkDue = true ∧ (sensed .normal).sense.count.isSome = true
        ∧ (sensed .normal).sense.swept = true)
      ∧ State.reset.sense.count = none ∧ State.reset.sense.swept = false := by decide

/-- A PACK section that differs in what acts only at a later event. -/
def otherPack : Pack := { defaultPack with vcut := 3000, vcau := 3500, shuntPack := ⟨300, 60000⟩, leadThreshold := 90 }

/-- The state with that section written. -/
def rewritten (s : State) : State := s.setProfile { s.profile with pack := otherPack }

/-- R128: a sweep in flight keeps the settings of its start, and the next one takes the section's. -/
theorem test_sweep_keeps_its_settings :
    sweepShunts (rewritten (sweepStarts State.reset)) = shuntsOf defaultPack
      ∧ sweepShunts (sweepStarts (rewritten State.reset)) = shuntsOf otherPack
      ∧ (sweepTaps (rewritten (slotStarts (sensed .normal)))).threshold = defaultPack.leadThreshold
      ∧ (sweepTaps (slotStarts (rewritten (sensed .normal)))).threshold = 90 := by decide

/-- A sweep in flight and none, for each clause that tells them apart; a tap the check takes and one it does not. -/
theorem test_meets_sweeps :
    (sweepStarts State.reset).sense.currentSweep.isSome = true ∧ State.reset.sense.currentSweep = none
      ∧ (slotStarts (sensed .normal)).sense.tapSweep.isSome = true ∧ State.reset.sense.tapSweep = none
      ∧ (slotStarts (sensed .normal)).sense.slot = .check ∧ (sweepTaps (slotStarts (sensed .normal))).taps = 4
      ∧ pairUnsettled (slotStarts (sensed .normal)).sense 3 = true
      ∧ pairUnsettled (slotStarts (sensed .normal)).sense 4 = false := by decide

/-- R145: written thresholds come into force at the next cell sweep completion. -/
theorem test_thresholds_wait_for_a_sweep :
    (rewritten State.reset).protection.thresholds.vcau = defaultPack.vcau
      ∧ (takeThresholds (rewritten State.reset)).protection.thresholds.vcau = 3500 := by decide

theorem test_meets_protection :
    (sensed .normal).sense.count = some 4 ∧ (sensed .caution).protection.state = .caution
      ∧ (sensed .precheck).sense.swept = true ∧ (sensed .precheck).protection.vmin = some ⟨3500, 1⟩ := by decide

theorem test_meets_cutoff_entry :
    (sensed .shed).protection.state = .shed ∧ (sensed .shed).protection.dwell.isSome = true
      ∧ State.reset.sense.count = none ∧ State.reset.protection.state ≠ .cutoff := by decide

theorem test_meets_cutoff_exit :
    (sensed .cutoff).protection.state = .cutoff ∧ (sensed .cutoff).protection.recovery.isSome = true
      ∧ (effOf (setEff (sensed .cutoff) .drive ⟨0, .lockout, .none, none, 0, 0⟩) .drive).source = .none
      ∧ (decision (sensed .cutoff) .drive).value = some 0 := by decide

/-- A transfer that clocks out a held restart's answer whole. -/
def restartRead : State :=
  State.reset.setCompPort ⟨none, some [0x8F, 1, 0, 0, 0], .running 0x85 (some [0x8F, 1, 0, 0, 0]), true⟩

theorem test_meets_restart :
    RequestReady parkedState ∧ parked parkedState = true ∧ parked liveState = false
      ∧ restartRead.compPort.restartHeld = true ∧ restartRead.compPort.transfer ≠ .passedOver
      ∧ consumes (answerSent restartRead) 6 = true ∧ consumes (answerSent restartRead) 5 = false :=
  ⟨⟨⟨rfl, rfl⟩, rfl⟩, by decide, by decide, rfl, by decide, by decide, by decide⟩

/-- The three roads to a reset, and a command that is none of them. -/
theorem test_meets_resets (pins : Pins) :
    TakesReset (.powerOn pins) pins State.reset ∧ TakesReset (.supplyDip pins) pins State.reset
      ∧ TakesReset (.companionTransfer (List.replicate 6 0) pins) pins restartRead
      ∧ Instr.hookOpening ≠ .apportionment ∧ ¬TakesReset .hookOpening pins State.reset :=
  ⟨.inl rfl, .inr (.inl rfl), .inr (.inr ⟨_, rfl, rfl, by decide, by decide⟩), by decide,
    by rintro (h | h | ⟨_, h, -⟩) <;> cases h⟩

theorem test_meets_sequencer :
    let bank := (Vector.replicate 32 Step.reset).set 3 ⟨1, 1000, 5, true, false⟩
    cycleEnd bank = 3 ∧ findStep bank 0 = some 3 ∧ findStep bank 4 = none ∧ findStep (Vector.replicate 32 Step.reset) 0 = none
      ∧ cycleEnd (Vector.replicate 32 Step.reset) = 31 := by decide

theorem test_meets_pattern :
    RequestReady liveState ∧ 3 + 5 * 8 ≤ 120 ∧ 24 + 8 ≤ 32 ∧ ¬(25 + 8 ≤ 32) ∧ liveState.lamps.active = false
      ∧ (3 : Byte).toNat < 4 ∧ 4 ≤ (4 : Byte).toNat ∧ liveState.lamps.position = none :=
  ⟨ready_liveState, by decide⟩

theorem test_meets_door :
    (State.reset.setCompPort { State.reset.compPort with request := some .checkLeads }).compPort.request.isSome = true
      ∧ (State.reset.setCompPort { State.reset.compPort with answer := some [] }).compPort.answer.isSome = true
      ∧ CellsFree State.reset ∧ (Request.demand []).sized = false
      ∧ RequestReady (liveState.setComp { liveState.comp with barred := true }) :=
  ⟨rfl, rfl, ⟨rfl, rfl⟩, by decide, ⟨⟨rfl, rfl⟩, rfl⟩⟩

theorem test_meets_reads :
    RequestReady liveState ∧ sectOfNumber (10 : Byte).toNat = some .reply ∧ 10 < (11 : Byte).toNat
      ∧ (7 : Byte).toNat ≤ 7 ∧ 7 < (8 : Byte).toNat ∧ 1 < (2 : Byte).toNat ∧ (1 : Byte).toNat ≤ 1
      ∧ 15 < (16 : Byte).toNat := ⟨ready_liveState, by decide⟩

theorem test_meets_transfer :
    inTransfer.compPort.transfer = .running 0x84 none ∧ inTransfer.compPort.restartHeld = false
      ∧ ([] : List Byte).headD 0 = 0 ∧ ([0, 5] : List Byte).headD 0 = 0 ∧ CellsFree inTransfer
      ∧ (State.reset.setCompPort (CompPort.reset true)).compPort.transfer = .passedOver :=
  ⟨rfl, rfl, rfl, rfl, ⟨rfl, rfl⟩, rfl⟩

/-- A transfer that has clocked out an answer of two bytes whole, or all but its last byte. -/
theorem test_meets_answered_transfer :
    let s := State.reset.setCompPort { State.reset.compPort with answer := some [1, 2], transfer := .running 0x81 (some [1, 2]) }
    s.compPort.transfer = .running 0x81 (some [1, 2]) ∧ s.compPort.restartHeld = false ∧ 1 + 2 ≤ ([0, 0, 0] : List Byte).length
      ∧ ([0, 0] : List Byte).length < 1 + 2 := by decide

/-- Both cells free once the transfer is over, with nothing clocked out; and with an answer clocked out whole, which is then
consumed. -/
theorem test_meets_envelope_states :
    let u := inTransfer.setCompPort { inTransfer.compPort with transfer := .idle }
    let s := inTransfer.setCompPort { inTransfer.compPort with answer := some [1, 2], transfer := .running 0x81 (some [1, 2]) }
    (u.compPort.transfer = .idle ∧ u.compPort.request = inTransfer.compPort.request ∧ u.compPort.restartHeld = false
      ∧ u.compPort.answer = inTransfer.compPort.answer ∧ CellsFree u ∧ SameExcept [.compPort] inTransfer u)
      ∧ (s.compPort.restartHeld = false ∧ 1 + [1, 2].length ≤ (envelope 0x03 [0]).length
        ∧ s.compPort.request = u.compPort.request ∧ u.compPort.answer = none ∧ SameExcept [.compPort] s u) :=
  ⟨⟨rfl, rfl, rfl, rfl, ⟨rfl, rfl⟩, fun b h => by cases b <;> first | rfl | exact absurd (List.mem_singleton.2 rfl) h⟩,
    rfl, by decide, rfl, rfl, fun b h => by cases b <;> first | rfl | exact absurd (List.mem_singleton.2 rfl) h⟩

/-- A sized request of each layout, and a CRC that its payload does not call for. -/
theorem test_meets_envelopes :
    (Request.demand [⟨0, 0⟩]).sized = true ∧ (Request.release 0).sized = true
      ∧ (Request.profileWrite 10 (List.replicate 8 0)).sized = true ∧ (Request.profileRead 9 (some 0)).sized = true
      ∧ (Request.patternWrite 1 0 [⟨0, 0, 1, 0⟩]).sized = true
      ∧ ([0, 0] : List Byte) ≠ crcBytes (crc16 [0x03, 1, 0]) := by decide

/-- A kind code of 16, a length byte of 121, too few bytes, and a RELEASE of two bytes. -/
theorem test_meets_bad_envelopes :
    15 < (([16, 0, 0, 0] : List Byte).headD 0).toNat ∧ 120 < (([3, 121] : List Byte).getD 1 0).toNat
      ∧ ([3, 1, 0] : List Byte).length < 4 + 1 ∧ ¬LengthFits 3 [0, 0] ∧ ([3, 2, 0, 0, 0, 0] : List Byte).headD 0 ≠ 0 :=
  ⟨by decide, by decide, by decide, by simp [LengthFits], by decide⟩

theorem test_meets_profile_write :
    RequestReady parkedState ∧ parked parkedState = true
      ∧ bodyFits (10 : Byte).toNat ([200, 0, 1, 5, 10, 10, 10, 20] : List Byte).length = true
      ∧ sectReach parkedState .reply = true ∧ 10 < (11 : Byte).toNat ∧ bodyFits (11 : Byte).toNat 0 = true
      ∧ 15 < fieldAt [16] 0 1 ∧ ¬(15 < fieldAt [15] 0 1) :=
  ⟨⟨⟨rfl, rfl⟩, rfl⟩, by decide, by decide, by decide, by decide, by decide, by decide, by decide⟩

theorem test_meets_store :
    (State.reset.setStore { State.reset.store with storing := some .reply }).store.storing = some .reply
      ∧ State.reset.store.storing = none := ⟨rfl, rfl⟩

theorem test_meets_supply_dip :
    State.reset.retained.checkOk = true ∧ State.reset.retained.restartFlag = false
      ∧ State.reset.retained.latch = none
      ∧ ({ State.reset.retained with latch := some .undervolt } : Retained).latch.isSome = true := by decide

/-- A copy that holds, and one of each kind that does not: a broken copy, a CRC that does not match, another length, a failed
check, and the copy of a store cut short. -/
theorem test_meets_copies :
    let good : List Byte := [244, 1, 1, 5, 10, 10, 10, 255]
    (∃ v, CopyHolds .reply (.whole good (crc16 good)) v)
      ∧ (∀ v, ¬CopyHolds .reply .broken v) ∧ (∀ v, ¬CopyHolds .reply (.whole good (crc16 good + 1)) v)
      ∧ (∀ v, ¬CopyHolds .reply (flashOf [0]) v) ∧ (∀ v, ¬CopyHolds .reply (flashOf (List.replicate 8 2)) v)
      ∧ (∃ v, CopyHolds .scenes (flashOf (bytesScenes defaultScenes)) v)
      ∧ copyAtStart (State.reset.setStore { State.reset.store with storing := some .drive }) .drive = .broken := by
  refine ⟨⟨_, _, rfl, rfl, .inr ⟨by decide, _, rfl, rfl⟩⟩, ?_, ?_, ?_, ?_, ⟨_, _, rfl, by decide +kernel, .inl ⟨rfl, rfl⟩⟩, rfl⟩
  · rintro v ⟨_, h, -⟩; cases h
  · rintro v ⟨_, h, -⟩; injection h with h1 h2; subst h1; exact absurd h2 (by decide)
  · rintro v ⟨_, h, h1, -⟩; injection h with h2; subst h2; exact absurd h1 (by decide)
  · rintro v ⟨_, h, -, h1⟩
    injection h with h2
    subst h2
    rcases h1 with ⟨h, -⟩ | ⟨-, d, h, -⟩
    · cases h
    · rw [show checkBody .reply (List.replicate 8 2) = .error .value from rfl] at h; cases h

theorem test_meets_start_up :
    (∀ i, (State.reset.setStore ⟨Vector.replicate 11 .broken, none⟩).store.flash.get i = .broken)
      ∧ (bytesDrive defaultDrive).length = 24 ∧ (checkDrive (bytesDrive defaultDrive)).toOption = some defaultDrive :=
  ⟨by decide, by decide, by decide⟩

/-! ### Hand-over -/

/-- The winch at a payout count, home KNOWN. -/
def winchAt (st : WinchState) (count : BitVec 16) : State :=
  State.reset.setWinch { winchIn st with counter := count }

/-- R104's table at the edges of the band, at both stops and one edge short of them. -/
theorem test_winch_table :
    winchStateFor 30 30 (winchAt .inward 1) = .idle ∧ winchStateFor 30 31 (winchAt .idle 1) = .inward
      ∧ winchStateFor 30 31 (winchAt .idle 0) = .limitIn ∧ winchStateFor 30 (-31) (winchAt .limitIn 0) = .outward
      ∧ winchStateFor 30 (-31) (winchAt .inward 9600) = .limitOut
      ∧ winchStateFor 30 (-31) (winchAt .inward 9599) = .outward ∧ winchStateFor 30 31 (winchAt .limitIn 0) = .limitIn
      ∧ winchStateFor 30 (-30) (winchAt .limitOut 9600) = .idle ∧ winchStateFor 30 31 (winchAt .stalled 1) = .stalled := by
  decide

/-- A DEMAND of 500 on the DRIVE it holds changes the effective DRIVE; one of 0 repeats it. -/
theorem test_meets_hand_over :
    (∃ t, exec (.demand [⟨0, 500⟩]) granted = .next t ∧ effective t .drive ≠ effective granted .drive)
      ∧ (∃ t, exec (.demand [⟨0, 0⟩]) granted = .next t ∧ effective t .drive = effective granted .drive) :=
  ⟨⟨_, rfl, by decide⟩, ⟨_, rfl, by decide⟩⟩

/-- What a command leaves. -/
def after (c : Instr) (s : State) : State :=
  match exec c s with
  | .next t => t
  | _ => s

/-- R62: a mode change at a mean speed of 150, the gate, slews, and one at 151 waits. -/
theorem test_gate_at_hand_over :
    let s (v : Int) : State := mapChans parkedState fun c => { c with speed := v }
    (effective (s 150) .steermode = 0 ∧ (s 150).steering.gate = 150 ∧ meanSpeed (s 150) = 150 ∧ meanSpeed (s 151) = 151)
      ∧ (after (.demand [⟨2, 1⟩]) (s 150)).steering.state = .slewing
      ∧ (after (.demand [⟨2, 1⟩]) (s 151)).steering.state = .waiting := by decide

/-- Under the lockout an underlying DRIVE of 31 and one of 30 lie on the two sides of the band. -/
theorem test_meets_underlying :
    let s := (granted.setResolver { granted.resolver with lockout := true }).setProtection
      { granted.protection with state := .cutoff }
    (∃ t, exec (.demand [⟨0, 31⟩]) s = .next t ∧ (effOf t .drive).underlying = 31)
      ∧ (∃ t, exec (.demand [⟨0, 30⟩]) s = .next t ∧ (effOf t .drive).underlying = 30)
      ∧ (effOf s .drive).underlying = 0 := ⟨⟨_, rfl, by decide⟩, ⟨_, rfl, by decide⟩, by decide⟩

/-- R85: with the others at a mean of 100 the threshold is 125, at 49 there is none, and at a command of 49 no test. -/
theorem test_slip_threshold :
    let c : Channel := { running with command := 50, ratio := 1024 }
    let s (v : Int) : State := mapChans State.reset fun _ => { c with speed := v }
    slips (s 100) .fl { c with speed := 126 } = true ∧ slips (s 100) .fl { c with speed := -125 } = false
      ∧ slips (s 49) .fl { c with speed := 126 } = false ∧ slips (s 100) .fl { c with speed := 126, command := 49 } = false
      ∧ slips (withChannel c) .fl { c with speed := 126 } = false := by decide

/-- R137: the conditions at their edges: 2 cells and 3600 mV, and 1000 mA. -/
theorem test_recovery_conditions :
    let s (n : Nat) (v ip : Int) : State :=
      (State.reset.setSense { State.reset.sense with count := some n }).setProtection
        { State.reset.protection with state := .cutoff, vmin := some ⟨v, 1⟩, ip := ip }
    cellOkNow (s 2 3600 0) = true ∧ cellOkNow (s 2 3599 0) = false ∧ cellOkNow (s 1 3600 0) = false
      ∧ currentOkNow (s 2 3600 999) = true ∧ currentOkNow (s 2 3600 1000) = false := by decide

/-- An unresolved count in CUTOFF, which the next cell sweep may find NOPACK. -/
theorem test_meets_nopack_in_cutoff :
    let s := (sensed .cutoff).setSense { (sensed .cutoff).sense with count := none }
    s.sense.count = none ∧ s.protection.state = .cutoff
      ∧ foundNopack s.sense 1 = true ∧ foundNopack s.sense 2 = false := by decide

/-! ### Section rules -/

/-- The body of a write of a section's defaults; of SCENES, scene 15. -/
def bodyOf (k : Sect) : List Byte :=
  if k = .scenes then 15 :: bytesScene (defaultScene 1) else sectionBytes defaultProfile k

theorem test_defaults_keep_the_rules (k : Sect) : ¬BreaksMap k (bodyOf k) ∧ ¬BreaksValue k (bodyOf k) := by
  refine ⟨?_, ?_⟩
  · rintro ⟨rfl, f, h⟩
    revert h
    cases f <;> decide
  · cases k
    case authority =>
      rintro ⟨f, h⟩
      revert h
      cases f <;> decide
    all_goals simp only [BreaksValue, ServoBroken, TargetCode]
    all_goals decide

theorem test_meets_write_passes (k : Sect) :
    WritePasses parkedState (BitVec.ofNat 8 (sectNumber k).val) k (bodyOf k) where
  ready := ⟨⟨rfl, rfl⟩, rfl⟩
  named := by cases k <;> rfl
  length := by cases k <;> decide
  scene := by cases k <;> decide
  mask := by cases k <;> decide
  held := by cases k <;> decide
  parked := by decide
  map := (test_defaults_keep_the_rules k).1
  value := (test_defaults_keep_the_rules k).2

/-- The same body with bytes put in at a place. -/
def poke (k : Sect) (i : Nat) (bs : List Byte) : List Byte :=
  (bodyOf k).take i ++ bs ++ (bodyOf k).drop (i + bs.length)

/-- BADMAP: DRIVE's primary 1 with its trim 1 and takeover 1, a primary of 2, SCENE's trim not NONE; and VALUE: takeover 2
alone, with no BADMAP beside it. -/
theorem test_meets_bad_map :
    BreaksMap .authority (poke .authority 0 [1]) ∧ BreaksMap .authority (poke .authority 0 [2])
      ∧ BreaksMap .authority (poke .authority 86 [1])
      ∧ BreaksValue .authority (poke .authority 5 [2]) ∧ ¬BreaksMap .authority (poke .authority 5 [2]) := by
  refine ⟨⟨rfl, .drive, by decide⟩, ⟨rfl, .drive, by decide⟩, ⟨rfl, .scene, by decide⟩,
    ⟨.drive, by decide⟩, ?_⟩
  rintro ⟨-, f, h⟩
  revert h
  cases f <;> decide

/-- VALUE at both sides of the bounds of the codes and masks. -/
theorem test_code_bounds :
    BreaksValue .sources (poke .sources 4 [128]) ∧ ¬BreaksValue .sources (poke .sources 4 [127])
      ∧ BreaksValue .failsafe (poke .failsafe 4 [4]) ∧ ¬BreaksValue .failsafe (poke .failsafe 4 [3])
      ∧ BreaksValue .winch (poke .winch 20 [2]) ∧ ¬BreaksValue .winch (poke .winch 20 [1])
      ∧ BreaksValue .lamps (poke .lamps 0 [10]) ∧ ¬BreaksValue .lamps (poke .lamps 0 [9])
      ∧ BreaksValue .reply (poke .reply 2 [2]) ∧ ¬BreaksValue .reply (poke .reply 2 [1]) := by
  simp only [BreaksValue]
  decide

/-- VALUE at both sides of the bounds of the targets, the servo endpoints and the tops. -/
theorem test_order_bounds :
    BreaksValue .map (poke .map 2 [7]) ∧ ¬BreaksValue .map (poke .map 2 [12])
      ∧ BreaksValue .geometry (poke .geometry 21 (putU 2 1499)) ∧ ¬BreaksValue .geometry (poke .geometry 21 (putU 2 1500))
      ∧ BreaksValue .drive (poke .drive 4 (putU 2 399)) ∧ ¬BreaksValue .drive (poke .drive 4 (putU 2 400)) := by
  simp only [BreaksValue, ServoBroken, TargetCode]
  decide

/-- VALUE of PACK: a cell count of 1 and of 7, a threshold not above the one below it, and Amax not above the reserve, which
its clamp brings to 5000 beside a reserve of 5000. -/
theorem test_pack_bounds :
    BreaksValue .pack (poke .pack 0 [1]) ∧ BreaksValue .pack (poke .pack 0 [7]) ∧ ¬BreaksValue .pack (poke .pack 0 [6])
      ∧ BreaksValue .pack (poke .pack 42 (putU 2 3200)) ∧ ¬BreaksValue .pack (poke .pack 42 (putU 2 3201))
      ∧ BreaksValue .pack (poke .pack 59 (putU 2 0 ++ putU 2 5000))
      ∧ ¬BreaksValue .pack (poke .pack 59 (putU 2 0 ++ putU 2 4999)) := by
  simp only [BreaksValue]
  decide

/-- What a write of a section leaves. -/
def wrote (k : Sect) (body : List Byte) (s : State) : State :=
  after (.profileWrite (BitVec.ofNat 8 (sectNumber k).val) body) s

/-- A state parked, with the companion LIVE. -/
def parkedFrom (s : State) : State :=
  (s.setComp { s.comp with state := .live, timer := 500 }).setDrive { s.drive with still := 500 }

/-- Parked, with DRIVE held by a companion slot of age 101. -/
def parkedGrant : State :=
  setSlot (parkedFrom granted) .companion .drive { takenAt 0 with age := 101 }

/-- SOURCES with the masks as they stood and with DRIVE out of COMPANION's; AUTHORITY with takeover taken away, and with a
hold of 101 and of 100 against an age of 101; FAILSAFE with DRIVE's content changed. -/
theorem test_meets_resolver_sections :
    (grantOf parkedGrant .drive).held.isSome = true ∧ locked parkedGrant .drive = false
      ∧ (wrote .sources (bodyOf .sources) parkedGrant).profile.sources.compFns = 0x7F#7
      ∧ (wrote .sources (poke .sources 7 [0x7E]) parkedGrant).profile.sources.compFns.getLsbD 0 = false
      ∧ (wrote .authority (poke .authority 5 [0]) parkedGrant).profile.authority.drive.takeover = false
      ∧ (wrote .authority (poke .authority 12 (putU 2 101)) parkedGrant).profile.authority.drive.hold = 101
      ∧ (wrote .authority (poke .authority 12 (putU 2 100)) parkedGrant).profile.authority.drive.hold = 100
      ∧ (wrote .failsafe (poke .failsafe 0 (putU 2 7)) parkedGrant).profile.failsafe.drive = some 7
      ∧ (wrote .failsafe (poke .failsafe 0 (putU 2 7)) parkedGrant).profile.failsafe.steer = some 0 := by decide +kernel

/-- A DRIVE of 31 and a band of 31 or 30; a winch held at 31; the clear time at the timer and one above it. -/
theorem test_meets_drive_write :
    let c : Channel := { Channel.reset 0 with state := .lockedOut, clear := some 500 }
    let s := (setEff (setChan parkedState .fl c) .drive ⟨31, .primary, .radio, none, 31, 31⟩).setWinch
      { parkedState.winch with held := 31 }
    parked s = true ∧ (wrote .drive (poke .drive 0 [31]) s).profile.drive.neutralBand = 31
      ∧ (wrote .drive (bodyOf .drive) s).profile.drive.neutralBand = 30
      ∧ (wrote .drive (bodyOf .drive) s).profile.drive.clearTime = 500
      ∧ (wrote .drive (poke .drive 22 (putU 2 501)) s).profile.drive.clearTime = 501 := by decide

/-- A winch STALLED for 200 with a new clear time of 200 and 201; at the outer stop, with the stop moved away. -/
theorem test_meets_winch_write :
    let stalled := parkedState.setWinch { winchIn .stalled with clear := some 200 }
    let atStop := parkedState.setWinch { winchIn .limitOut with counter := 9600, held := -500 }
    parked stalled = true ∧ parked atStop = true ∧ payout atStop.winch = 9600
      ∧ (wrote .winch (poke .winch 16 (putU 2 200)) stalled).profile.winch.stallClear = 200
      ∧ (wrote .winch (poke .winch 16 (putU 2 201)) stalled).profile.winch.stallClear = 201
      ∧ limitCount (wrote .winch (poke .winch 2 (putU 2 2000)) atStop).profile.winch = 12800
      ∧ limitCount (wrote .winch (bodyOf .winch) atStop).profile.winch = 9600 := by decide

/-- PACK at the dwell times and one above them, with a new cell count and with the old one, in and out of CUTOFF. -/
theorem test_meets_pack_write :
    let in_ (st : ProtState) : State := parkedFrom (sensed st)
    let cut := (in_ .cutoff).setProtection { (in_ .cutoff).protection with dwell := none }
    parked (in_ .shed) = true ∧ (in_ .shed).protection.dwell = some 2000 ∧ cut.protection.recovery = some 5000
      ∧ (wrote .pack (bodyOf .pack) (in_ .shed)).profile.pack.cutoffDwell = 2000
      ∧ (wrote .pack (poke .pack 51 (putU 2 2001)) (in_ .shed)).profile.pack.cutoffDwell = 2001
      ∧ (wrote .pack (bodyOf .pack) cut).profile.pack.recoveryDwell = 5000
      ∧ (wrote .pack (poke .pack 53 (putU 2 5001)) cut).profile.pack.recoveryDwell = 5001
      ∧ (wrote .pack (poke .pack 0 [3]) cut).sense.count = some 3
      ∧ (wrote .pack (bodyOf .pack) cut).sense.count = some 4
      ∧ (wrote .pack (poke .pack 57 (putU 2 600)) cut).profile.pack.cutoffDrag = 600 := by decide

/-- The effective SCENE is 0: a write of scene 0 is of the scene in force, one of scene 15 of another. -/
theorem test_meets_scene_write :
    effective parkedState .scene = 0 ∧ fieldAt (bodyOf .scenes) 0 1 = 15
      ∧ WritePasses parkedState 9 .scenes (0 :: bytesScene (defaultScene 1)) :=
  ⟨by decide, by decide,
    { ready := ⟨⟨rfl, rfl⟩, rfl⟩, named := rfl, length := by decide, scene := by decide, mask := by decide,
      held := by decide, parked := by decide, map := fun h => (by cases h.1), value := fun h => h }⟩

/-! ### Delivery -/

/-- A frame of several items without the failsafe bit and the permit. -/
def frameOfAll (xs : List RadioItem) : RadioFrame := ⟨0, xs, crc16 (frameBody ⟨0, xs, 0⟩)⟩

theorem valid_frameOfAll (xs : List RadioItem) (h : 1 ≤ xs.length) (h' : xs.length ≤ 16) : FrameValid (frameOfAll xs) :=
  ⟨h, h', rfl⟩

/-- R35: two items of DRIVE leave the second value, one sequence each; R55: the one breakaway test is on that value, so that
249 after 250 sets the count to 0 and 250 after 249 ends a grant at its second frame. -/
theorem test_items_in_turn :
    let t (a b n : Nat) : State := after (.radioFrame (frameOfAll [itemAt 0 a, itemAt 0 b])) (heldAt .drive n)
    (slotOf (t 2298 2297 1) .radio .drive).value = some 249 ∧ (slotOf (t 2298 2297 1) .radio .drive).seq = 2
      ∧ (grantOf (t 2298 2297 1) .drive).held = some ⟨100, 0⟩
      ∧ grantOf (t 2297 2298 1) .drive = ⟨none, some .breakaway⟩
      ∧ (grantOf (t 2298 2298 0) .drive).held = some ⟨100, 1⟩ := by decide

/-- A frame that finds the radio LAPSED: an item of STEER leaves DRIVE to the resolution of the return. -/
theorem test_meets_return :
    let s := grantable.setRadio { grantable.radio with state := .lapsed }
    let x := itemAt 1 2048
    s.radio.state ≠ .live ∧ lineFree s = true ∧ FrameValid (frameOfAll [x]) ∧ targetOf? x = some (.fn .steer)
      ∧ (∀ y ∈ (frameOfAll [x]).items, ¬ItemWrites s .drive y) ∧ Resolvable s .drive
      ∧ ¬Resolvable (steeringIn .slewing) .steermode := by
  refine ⟨by decide, rfl, valid_frameOfAll _ (by decide) (by decide), by decide, ?_, Or.inl (by decide), by
    simp [Resolvable, steeringIn]⟩
  rintro y hy ⟨-, e, he, ht⟩
  obtain rfl : y = itemAt 1 2048 := by simpa [frameOfAll] using hy
  have h : (matchEntry State.reset.profile.map (itemTag (itemAt 1 2048))).map (fun e => e.target) = some (.fn .steer) := by
    decide
  rw [show matchEntry State.reset.profile.map (itemTag (itemAt 1 2048)) = some e from he] at h
  simp [ht] at h

/-- R2 and R56: the companion's lapse and its barring end a grant with LAPSE, the radio's lapse a tethered one with TETHER, and
the function then stands at FAILSAFE. -/
theorem test_lapses_end_and_resolve :
    grantOf (after (.silenceTimerExpiry .companion) granted) .drive = ⟨none, some .lapse⟩
      ∧ grantOf (after (.silenceTimerExpiry .radio) granted) .drive = ⟨none, some .tether⟩
      ∧ (effOf (after (.silenceTimerExpiry .radio) granted) .drive).level = .failsafe
      ∧ (effOf (after (.silenceTimerExpiry .companion) granted) .drive).level = .failsafe := by decide +kernel

/-- An unbarring with a companion LIVE and one that is LAPSED, whose mark stands until then. -/
theorem test_meets_unbarring :
    let s := setSlot (barring.setComp { barring.comp with barred := true }) .companion .drive (takenAt 0)
    s.comp.state = .live ∧ s.comp.barred ≠ decide (2048 ≤ itemRaw (itemAt 0 2047))
      ∧ losesMark .companion s .drive = true ∧ (s.setComp { s.comp with state := .lapsed }).comp.state ≠ .live := by
  decide

/-- R22, R45: a STEERMODE pair on a TAKEN slot is TAKEN at once, and one that comes during a slew is FRESH; a repeat stays
TAKEN. -/
theorem test_steermode_pair :
    let s := setSlot liveState .companion .steermode (takenAt 0)
    let slewing := s.setSteering { s.steering with state := .slewing, next := some .counter }
    (slotOf (after (.demand [⟨2, 1⟩]) s) .companion .steermode).state = .taken
      ∧ (slotOf (after (.demand [⟨2, 1⟩]) slewing) .companion .steermode).state = .fresh
      ∧ (slotOf (after (.demand [⟨2, 0⟩]) slewing) .companion .steermode).state = .taken
      ∧ (slotOf s .companion .steermode).state ≠ .fresh := by decide

/-- R24: a RADIO slot and a COMPANION slot of DRIVE, both TAKEN, with a grant and without; a STALE one leaves FAILSAFE. -/
theorem test_stale_resolves :
    let s := setSlot (setEff bothLive .drive ⟨200, .primary, .radio, none, 200, 200⟩) .radio .drive (takenAt 200)
    (slotOf s .radio .drive).state = .taken ∧ (grantOf s .drive).held = none
      ∧ (effOf (after (.slotStale .radio .drive) s) .drive).level = .failsafe
      ∧ effective (after (.slotStale .radio .drive) s) .drive = 0 := by decide

/-- R167: ATTN is low for an answer, for a pending kind of the mask, and not for one outside it. -/
theorem test_attn :
    let s (pending mask : BitVec 16) : State :=
      (State.reset.setNotices ⟨0, pending⟩).setProfile
        { State.reset.profile with sources := { defaultSources with compNotices := mask } }
    attnLow (s 0 0xFFFF#16) = false ∧ attnLow (s 0x8000#16 0x8000#16) = true ∧ attnLow (s 0x8000#16 0x7FFF#16) = false
      ∧ attnLow ((s 0 0).setCompPort { State.reset.compPort with answer := some [] }) = true := by decide

/-! ### Marked choices of the steering, and R140's rows -/

/-- Log entry 52: at a gate of 0 four speeds that sum to 3 let a mode change slew, and a sum of 4 makes it wait. -/
theorem test_gate_of_zero :
    let s (v : Int) : State :=
      (setChan (mapChans parkedState fun c => { c with speed := 1 }) .fl { Channel.reset 0 with speed := v }).setSteering
        { parkedState.steering with gate := 0 }
    (after (.demand [⟨2, 1⟩]) (s 0)).steering.state = .slewing
      ∧ (after (.demand [⟨2, 1⟩]) (s 1)).steering.state = .waiting := by decide

/-- Log entry 53: the parallel record takes the next sequence. -/
theorem test_parallel_sequence : (geometryOf defaultGeometry (GeometryRec.reset) 0 0).seq = 1 := by decide

/-- R140: 3356 gives 22 240 mA; and its first row that applies rules, whatever the order of the thresholds in force. -/
theorem test_target_rows :
    let k : Thresholds := { vcut := 3200, vshed := 3400, vcau := 3500, vrecover := 3600, hysteresis := 50, rcell := 8 }
    targetByTable defaultPack k .normal (some ⟨3356, 1⟩) false = 22240
      ∧ targetByTable defaultPack { k with vcut := 3600 } .normal (some ⟨3550, 1⟩) false = 40000
      ∧ targetByTable defaultPack k .normal (some ⟨3199, 1⟩) false = 3000 := by decide

end Sys2Proof.Tests
end

section
/-! PROOFS. The frames of the radio link: one in error is dropped and counted (R5, R161), a valid one is counted and its
sequence applied, believed or not (R4, R6). -/
namespace Sys2Proof.Machine

/-! ### The commands of this file -/

theorem exec_radioFrame (f : RadioFrame) (s : State) : exec (.radioFrame f) s = .next (receiveFrame f s) := rfl

theorem exec_interByteGap (b : Byte) (s : State) : exec (.interByteGap b) s = .next (byteGap b s) := rfl

theorem exec_badLengthByte (l : Byte) (s : State) : exec (.badLengthByte l) s = .next (lengthByte l s) := rfl

theorem exec_silenceTimerExpiry (m : Master) (s : State) : exec (.silenceTimerExpiry m) s = .next (lapse m s) := rfl

theorem exec_companionTransfer (mosi : List Byte) (pins : Pins) (s : State) :
    exec (.companionTransfer mosi pins) s = .next (selRises mosi pins s) := rfl

theorem exec_powerOn (pins : Pins) (s : State) : exec (.powerOn pins) s = .next (powerOn pins s) := rfl

theorem exec_supplyDip (pins : Pins) (s : State) : exec (.supplyDip pins) s = .next (supplyDip pins s) := rfl

/-! ### Replacing one record touches that record alone -/

theorem setRadio_frame_only (s : State) (v : RadioCtx) : SameExcept [.radio] s (s.setRadio v) := by
  intro b hb
  cases b with
  | radio => exact (hb (by decide)).elim
  | _ => rfl

theorem setRadioPort_frame_only (s : State) (v : RadioPort) : SameExcept [.radioPort] s (s.setRadioPort v) := by
  intro b hb
  cases b with
  | radioPort => exact (hb (by decide)).elim
  | _ => rfl

theorem setNotices_frame_only (s : State) (v : Notices) : SameExcept [.notices] s (s.setNotices v) := by
  intro b hb
  cases b with
  | notices => exact (hb (by decide)).elim
  | _ => rfl

/-! ### The checks on a frame -/

theorem badLength_iff (l : Nat) : badLength l = true ↔ l % 3 ≠ 0 ∨ l < 6 ∨ 51 < l := by
  simp [badLength, or_assoc]

theorem badLength_frameLength_iff (f : RadioFrame) :
    badLength (frameLength f) = true ↔ f.items = [] ∨ 16 < f.items.length := by
  rw [badLength_iff, frameLength, ← List.length_eq_zero_iff]
  omega

theorem frameCrcOk_iff (f : RadioFrame) : frameCrcOk f = true ↔ crc16 (frameBody f) = f.crc := by
  simp [frameCrcOk]

theorem badLength_frameLength_of_fits {f : RadioFrame} (hsome : 1 ≤ f.items.length) (hfew : f.items.length ≤ 16) :
    badLength (frameLength f) = false := by
  rw [Bool.eq_false_iff, ne_eq, badLength_frameLength_iff, ← List.length_eq_zero_iff]
  omega

theorem receiveFrame_of_badLength {f : RadioFrame} {s : State} (hfree : lineFree s = true)
    (hlen : f.items = [] ∨ 16 < f.items.length) : receiveFrame f s = dropFormat (setAssembler .hunting s) := by
  simp [receiveFrame, hfree, (badLength_frameLength_iff f).2 hlen]

theorem receiveFrame_of_badCrc {f : RadioFrame} {s : State} (hfree : lineFree s = true)
    (hsome : 1 ≤ f.items.length) (hfew : f.items.length ≤ 16) (hcrc : crc16 (frameBody f) ≠ f.crc) :
    receiveFrame f s = dropCheck (setAssembler .hunting s) := by
  simp [receiveFrame, hfree, badLength_frameLength_of_fits hsome hfew, mt (frameCrcOk_iff f).1 hcrc]

theorem receiveFrame_of_valid {f : RadioFrame} {s : State} (hfree : lineFree s = true) (hf : FrameValid f) :
    receiveFrame f s = validFrame f (setAssembler .hunting s) := by
  simp [receiveFrame, hfree, badLength_frameLength_of_fits hf.some hf.few, (frameCrcOk_iff f).2 hf.crc]

theorem byteGap_of_lineFree {b : Byte} {s : State} (hfree : lineFree s = true) :
    byteGap b s = dropFormat (setAssembler (if b = 0xA6#8 then .collecting else .hunting) s) := by
  simp [byteGap, hfree]

theorem lengthByte_of_badLength {l : Byte} {s : State} (hfree : lineFree s = true)
    (hlen : l.toNat % 3 ≠ 0 ∨ l.toNat < 6 ∨ 51 < l.toNat) :
    lengthByte l s = dropFormat (setAssembler .hunting s) := by
  simp [lengthByte, hfree, (badLength_iff _).2 hlen]

/-! ### A frame in error -/

/-- Every drop has this one form: the assembler is set and the context counts it, so that no other record is touched. -/
theorem drops_frame (a : Assembler) (r : RadioCtx) (s : State) :
    SameExcept [.radio, .radioPort] s ((setAssembler a s).setRadio r) :=
  ((setRadioPort_frame_only s _).mono (by decide)).trans ((setRadio_frame_only _ r).mono (by decide))

/-- Settles O15: each of the four errors is a drop as FORMAT or as CHECK on a state whose assembler is set. -/
theorem frameInErrorIsDropped : Obligations.FrameInErrorIsDropped := by
  intro s hfree
  refine ⟨fun f hlen => ?badLength, fun f hsome hfew hcrc => ?badCrc, fun b => ?gap, fun l hlen => ?lengthByte⟩
  case badLength =>
    rw [exec_radioFrame, receiveFrame_of_badLength hfree hlen]
    exact ⟨_, rfl, rfl, rfl, drops_frame _ _ s⟩
  case badCrc =>
    rw [exec_radioFrame, receiveFrame_of_badCrc hfree hsome hfew hcrc]
    exact ⟨_, rfl, rfl, rfl, drops_frame _ _ s⟩
  case gap =>
    rw [exec_interByteGap, byteGap_of_lineFree hfree]
    exact ⟨_, rfl, rfl, rfl, drops_frame _ _ s⟩
  case lengthByte =>
    rw [exec_badLengthByte, lengthByte_of_badLength hfree hlen]
    exact ⟨_, rfl, rfl, rfl, drops_frame _ _ s⟩

/-! ### The reply scan touches the port and the pending sets alone -/

/-- What a reply scan can change (R163). -/
def scanTouches : List Block := [.radioPort, .notices]

theorem setRadioPort_frame_scan (s : State) (v : RadioPort) : SameExcept scanTouches s (s.setRadioPort v) :=
  (setRadioPort_frame_only s v).mono (by decide)

theorem pickSlot_frame_scan (k : ReplySlot) (s : State) : SameExcept scanTouches s (pickSlot k s) := by
  unfold pickSlot dropLead
  split
  · split
    · exact (setNotices_frame_only s _).mono (by decide)
    · exact .refl _ s
  · exact setRadioPort_frame_scan s _

theorem replyScan_frame_scan (s : State) : SameExcept scanTouches s (replyScan s) := by
  unfold replyScan
  split
  · exact .refl _ s
  · exact (pickSlot_frame_scan _ s).trans (setRadioPort_frame_scan _ _)

/-- After the items of a valid frame: the reply counts grow, and with the permit the scan is taken (R162). -/
theorem finishFrame_frame_scan (f : RadioFrame) (s : State) :
    SameExcept scanTouches s (if framePermit f then replyScan (growCounts s) else growCounts s) := by
  have hgrow : SameExcept scanTouches s (growCounts s) := setRadioPort_frame_scan s _
  exact .ite (hgrow.trans (replyScan_frame_scan _)) hgrow

/-! ### A frame with the failsafe bit -/

theorem validFrame_of_failsafe {f : RadioFrame} (hbit : f.header.getLsbD 0 = true) (s : State) :
    validFrame f s =
      if framePermit f then replyScan (growCounts (countFrame (frameSeq f) s))
      else growCounts (countFrame (frameSeq f) s) := by
  simp [validFrame, frameFailsafe, hbit]

theorem validFrame_of_failsafe_of_noPermit {f : RadioFrame} (hbit : f.header.getLsbD 0 = true)
    (hpermit : f.header.getLsbD 1 = false) (s : State) :
    validFrame f s = growCounts (countFrame (frameSeq f) s) := by
  have hnot : framePermit f = false := hpermit
  simp [validFrame_of_failsafe hbit, hnot]

theorem countFrame_frame (seq : BitVec 6) (s : State) : SameExcept [.radio] s (countFrame seq s) :=
  setRadio_frame_only s _

theorem validFrame_radio_of_failsafe {f : RadioFrame} (hbit : f.header.getLsbD 0 = true) (s : State) :
    (validFrame f s).radio = (countFrame (frameSeq f) s).radio := by
  rw [validFrame_of_failsafe hbit]
  exact finishFrame_frame_scan f _ .radio (by decide)

theorem validFrame_frame_of_failsafe {f : RadioFrame} (hbit : f.header.getLsbD 0 = true) (s : State) :
    SameExcept [.radio, .radioPort, .notices] s (validFrame f s) := by
  rw [validFrame_of_failsafe hbit]
  exact ((countFrame_frame _ s).mono (by decide)).trans ((finishFrame_frame_scan f _).mono (by decide))

/-! ### What a believed frame keeps of its counts -/

/-- The RADIO context's counts of frames, and its last sequence, are the same in two states. The state, the timer, the
crew flags and the count of unmatched items, which a believed frame may change, are left out. -/
structure SameFrameCounts (s t : State) : Prop where
  accepted : t.radio.accepted = s.radio.accepted
  refused : t.radio.refused = s.radio.refused
  missed : t.radio.missed = s.radio.missed
  lastSeq : t.radio.lastSeq = s.radio.lastSeq

theorem SameFrameCounts.of_radio {s t : State} (h : t.radio = s.radio) : SameFrameCounts s t := by
  constructor <;> rw [h]

theorem SameFrameCounts.trans {s t u : State} (h : SameFrameCounts s t) (h' : SameFrameCounts t u) :
    SameFrameCounts s u :=
  ⟨h'.accepted.trans h.accepted, h'.refused.trans h.refused, h'.missed.trans h.missed, h'.lastSeq.trans h.lastSeq⟩

theorem SameFrameCounts.of_frame {l : List Block} {s t : State} (h : SameExcept l s t) (hl : .radio ∉ l) :
    SameFrameCounts s t := .of_radio (h .radio hl)

theorem SameFrameCounts.foldl {α : Type} {g : State → α → State} (h : ∀ s a, SameFrameCounts s (g s a)) :
    ∀ (xs : List α) (s : State), SameFrameCounts s (xs.foldl g s)
  | [], _ => .of_radio rfl
  | x :: xs, s => (h s x).trans (SameFrameCounts.foldl h xs (g s x))

/-- A bar target writes the companion's context, and of the radio's nothing. -/
theorem writeBar_radio (b : Bool) (s : State) : (writeBar b s).radio = s.radio := by
  have hmarks : ∀ t : State, (if b then t else clearMarks .companion t).radio = t.radio := by
    intro t
    split
    · rfl
    · exact clearMarks_frame .companion t .radio (by decide)
  unfold writeBar
  dsimp only
  split
  · rfl
  · split
    · exact (presenceChanged_frame _ _ _ .radio (by decide)).trans (hmarks _)
    · exact (resolveMarks_frame _ _ .radio (by decide)).trans (hmarks _)

theorem deliverTo_frameCounts (e : MapEntry) (raw : Nat) (s : State) : SameFrameCounts s (deliverTo e raw s) := by
  unfold deliverTo
  cases e.target with
  | fn f =>
    dsimp only
    split
    · exact .of_frame (writeSlot_frame .radio f _ s) (by decide)
    · exact ⟨rfl, rfl, rfl, rfl⟩
  | flag i => exact ⟨rfl, rfl, rfl, rfl⟩
  | bar => exact .of_radio (writeBar_radio _ s)
  | none => exact ⟨rfl, rfl, rfl, rfl⟩

theorem deliverItem_frameCounts (s : State) (x : RadioItem) : SameFrameCounts s (deliverItem s x) := by
  unfold deliverItem
  split
  · exact deliverTo_frameCounts _ _ s
  · exact ⟨rfl, rfl, rfl, rfl⟩

theorem deliverFrame_frameCounts (items : List RadioItem) (s : State) : SameFrameCounts s (deliverFrame items s) :=
  (SameFrameCounts.foldl deliverItem_frameCounts items s).trans
    (.of_frame (SameExcept.foldl (breakawayTest_frame s items) Fn.all _) (by decide))

theorem masterReturns_radio_frameCounts (s : State) : SameFrameCounts s (masterReturns .radio s) := by
  have hload : SameFrameCounts s (raise .radioLive (clearMarks .radio (loadTimer .radio s))) := ⟨rfl, rfl, rfl, rfl⟩
  unfold masterReturns
  dsimp only
  rw [if_pos rfl]
  split
  · exact hload.trans (.of_frame (presenceChanged_frame _ _ _) (by decide))
  · exact hload.trans (.of_frame (resolveMarks_frame _ _) (by decide))

theorem makeLive_radio_frameCounts (s : State) : SameFrameCounts s (makeLive .radio s) := by
  unfold makeLive
  split
  · exact ⟨rfl, rfl, rfl, rfl⟩
  · exact masterReturns_radio_frameCounts s

/-- Believed or not, a valid frame leaves the counts of frames as its counting left them (R3, R4, R6). -/
theorem validFrame_frameCounts (f : RadioFrame) (s : State) :
    SameFrameCounts (countFrame (frameSeq f) s) (validFrame f s) := by
  have hbelieved : ∀ t, SameFrameCounts t (if frameFailsafe f then t else deliverFrame f.items (makeLive .radio t)) := by
    intro t
    split
    · exact .of_radio rfl
    · exact (makeLive_radio_frameCounts t).trans (deliverFrame_frameCounts _ _)
  exact (hbelieved _).trans (.of_frame (finishFrame_frame_scan f _) (by decide))

/-! ### Where the last sequence becomes absent -/

theorem lapse_radio_of_live {s : State} (hlive : s.radio.state = .live) :
    (lapse .radio s).radio = { s.radio with state := .lapsed, timer := 0, lastSeq := none, flags := 0 } := by
  simp only [lapse, hlive, if_true]
  exact presenceChanged_frame .radio _ _ .radio (by decide)

theorem startNotices_frame (defaulted : Bool) (s : State) : SameExcept [.notices] s (startNotices defaulted s) := by
  unfold startNotices
  dsimp only
  split
  · exact ((setNotices_frame_only s _).trans (raise_frame _ _)).trans (raise_frame _ _)
  · exact (setNotices_frame_only s _).trans (raise_frame _ _)

theorem firstResolution_frame (s : State) : SameExcept [.resolver] s (firstResolution s) :=
  SameExcept.foldl (fun t _ => setResolver_frame t _) _ s

theorem startHook_frame (pins : Pins) (s : State) : SameExcept [.notices] s (startHook pins s) := by
  unfold startHook
  split
  · exact raise_frame _ s
  · exact .refl _ s

theorem startOutputs_frame (pins : Pins) (s : State) : SameExcept handTouches s (startOutputs pins s) :=
  ((((((setSteering_frame s _).mono (by decide)).trans ((setDrive_frame _ _).mono (by decide))).trans
    ((setWinch_frame _ _).mono (by decide))).trans ((startHook_frame pins _).mono (by decide))).trans
    ((setLamps_frame_lamps _ _).mono (by decide))).trans ((lampResolve_frame _).mono (by decide))

theorem startRecovery_frame (s : State) : SameExcept [.protection] s (startRecovery s) := by
  unfold startRecovery
  split
  · exact recoveryDriveTest_frame s
  · exact .refl _ s

/-- Start-up leaves every record at its reset value but those that the notices and the first outputs write (R176). -/
theorem startUp_frame (pins : Pins) (s : State) :
    SameExcept commitTouches
      (resetBase (settleReset s.retained) (flashAfterReset s.store) (loadAll (flashAfterReset s.store)).profile pins
        s.pending)
      (startUp pins s) :=
  ((((startNotices_frame _ _).mono (by decide)).trans ((firstResolution_frame _).mono (by decide))).trans
    ((startOutputs_frame pins _).mono (by decide))).trans ((startRecovery_frame _).mono (by decide))

/-- Every reset kind goes through start-up, and gives the RADIO context its reset values (R19). -/
theorem startUp_radio (pins : Pins) (s : State) : (startUp pins s).radio = RadioCtx.reset :=
  startUp_frame pins s .radio (by decide)

theorem selRises_of_restart {mosi : List Byte} {s : State} (pins : Pins) (hheld : s.compPort.restartHeld = true)
    (hpassed : s.compPort.transfer ≠ .passedOver) (hconsumes : consumes (answerSent s) mosi.length = true) :
    selRises mosi pins s = takeRestart pins s := by
  simp [selRises, hheld, hpassed, hconsumes]

/-! ### Valid frames -/

/-- Settles O16: with the failsafe bit a valid frame is its counting and the end of its work alone, and without it what is
believed keeps the counts; the last sequence goes with the lapse and with the start-up of every reset. -/
theorem validFramesAreCounted : Obligations.ValidFramesAreCounted := by
  refine ⟨fun s f hfree hf hbit => ?failsafe, fun s f hfree hf => ?counted, fun s hlive => ?lapse,
    fun s pins => ⟨?powerOn, ?supplyDip, fun mosi hheld hpassed hconsumes => ?restart⟩⟩
  case failsafe =>
    have hassembler : SameExcept [.radio, .radioPort, .notices] s (setAssembler .hunting s) :=
      (setRadioPort_frame_only s _).mono (by decide)
    rw [exec_radioFrame, receiveFrame_of_valid hfree hf]
    refine ⟨_, rfl, validFrame_radio_of_failsafe hbit _, hassembler.trans (validFrame_frame_of_failsafe hbit _),
      fun hpermit => ?_⟩
    rw [validFrame_of_failsafe_of_noPermit hbit hpermit]
    exact ⟨rfl, rfl⟩
  case counted =>
    have hcounts := validFrame_frameCounts f (setAssembler .hunting s)
    rw [exec_radioFrame, receiveFrame_of_valid hfree hf]
    exact ⟨_, rfl, hcounts.lastSeq, hcounts.accepted, hcounts.missed⟩
  case lapse => exact ⟨_, exec_silenceTimerExpiry .radio s, congrArg RadioCtx.lastSeq (lapse_radio_of_live hlive)⟩
  case powerOn => exact ⟨_, exec_powerOn pins s, congrArg RadioCtx.lastSeq (startUp_radio pins _)⟩
  case supplyDip => exact ⟨_, exec_supplyDip pins s, congrArg RadioCtx.lastSeq (startUp_radio pins _)⟩
  case restart =>
    rw [exec_companionTransfer, selRises_of_restart pins hheld hpassed hconsumes]
    exact ⟨_, rfl, congrArg RadioCtx.lastSeq (startUp_radio pins _)⟩

end Sys2Proof.Machine
end

section
/-! PROOFS. The transforms of the Channel Map: the stages of a numeric target (R32), the index of a discrete one and its
bound (R33), and the delivery of both to the radio slot (R31). -/
namespace Sys2Proof.Machine

/-! ### The value an entry gives -/

theorem demandOf_of_numeric {f : Fn} (hnum : isNumeric f = true) (e : MapEntry) (raw : Nat) :
    demandOf e f raw = numericDemand e f raw := if_pos hnum

theorem demandOf_of_discrete {f : Fn} (hdisc : isNumeric f = false) (e : MapEntry) (raw : Nat) :
    demandOf e f raw = discreteIndex e f raw := by
  simp [demandOf, hdisc]

/-! ### The index of a discrete function -/

theorem valueCount_pos (f : Fn) : 0 < valueCount f := Nat.succ_pos _

/-- Twelve bits of raw value never reach the number of values, and counting from the other end keeps below it too. -/
theorem discreteIndex_lt (e : MapEntry) (f : Fn) {raw : Nat} (hraw : raw < 4096) :
    discreteIndex e f raw < valueCount f := by
  have hpos := valueCount_pos f
  have hindex : raw * valueCount f / 4096 < valueCount f :=
    Nat.div_lt_of_lt_mul (Nat.mul_lt_mul_of_pos_right hraw hpos)
  unfold discreteIndex
  dsimp only
  split
  · omega
  · exact hindex

/-- R33 for a function of `k` values. -/
theorem demandOf_of_valueCount {f : Fn} {k raw : Nat} (hdisc : isNumeric f = false) (hcount : valueCount f = k)
    (e : MapEntry) (hraw : raw < 4096) :
    demandOf e f raw = (if e.reverse then k - 1 - raw * k / 4096 else raw * k / 4096 : Nat)
      ∧ 0 ≤ demandOf e f raw ∧ demandOf e f raw < k := by
  subst hcount
  rw [demandOf_of_discrete hdisc]
  exact ⟨rfl, Int.natCast_nonneg _, Int.ofNat_lt.2 (discreteIndex_lt e f hraw)⟩

/-! ### Delivery to a function -/

theorem deliverTo_of_reached {e : MapEntry} {f : Fn} {s : State} (htarget : e.target = .fn f)
    (hmask : (fnMask s .radio).getLsbD (fnNumber f) = true) (raw : Nat) :
    deliverTo e raw s = writeSlot .radio f (demandOf e f raw) s := by
  have hreach : radioReaches s f = true := hmask
  simp [deliverTo, htarget, hreach]

/-! ### The transforms -/

/-- Settles O19: the five stages are `numericDemand`'s own, the index stands below the number of values of its function, and
an entry whose function RADIO reaches writes what the transform gives. -/
theorem radioItemTransforms : Obligations.RadioItemTransforms := by
  intro e f raw hraw
  refine ⟨fun hnum => ?numeric, fun hdisc => ?discrete, fun s htarget hmask => ?delivery⟩
  case numeric => exact demandOf_of_numeric hnum e raw
  case discrete =>
    cases f with
    | drive | steer | winch | drag => cases hdisc
    | steermode => exact demandOf_of_valueCount (k := 4) hdisc rfl e hraw
    | range => exact demandOf_of_valueCount (k := 3) hdisc rfl e hraw
    | scene => exact demandOf_of_valueCount (k := 16) hdisc rfl e hraw
  case delivery => exact deliverTo_of_reached htarget hmask raw

end Sys2Proof.Machine
end

section
/-! PROOFS. The Budget Unit: the division of the allowance (R141, R143), its publication to the units (R90, R109, R144), and
the Budget Unit's record under every other command (R142). -/
namespace Sys2Proof.Machine

/-! ### Replacing one record touches that record alone -/

theorem setWinch_frame_only (s : State) (v : WinchUnit) : SameExcept [.winch] s (s.setWinch v) := by
  intro b hb
  cases b with
  | winch => exact (hb (by decide)).elim
  | _ => rfl

theorem setBudget_frame_only (s : State) (v : Budget) : SameExcept [.budget] s (s.setBudget v) := by
  intro b hb
  cases b with
  | budget => exact (hb (by decide)).elim
  | _ => rfl

theorem setCompPort_frame_only (s : State) (v : CompPort) : SameExcept [.compPort] s (s.setCompPort v) := by
  intro b hb
  cases b with
  | compPort => exact (hb (by decide)).elim
  | _ => rfl

/-! ### The two passes -/

/-- A pass takes three amounts in order, each within what the ones before it leave. -/
theorem takes_add_rest {r x y z : Nat} (hx : x ≤ r) (hy : y ≤ r - x) (hz : z ≤ r - x - y) :
    x + y + z + (r - x - y - z) = r := by
  omega

theorem min_min_le_right (claim floor r : Nat) : min claim (min floor r) ≤ r :=
  (Nat.min_le_right ..).trans (Nat.min_le_right ..)

/-- A second pass over what the first one leaves divides the same amount. -/
theorem passes_add_rest {r left x y z x' y' z' rest : Nat} (hfirst : x + y + z + left = r)
    (hsecond : x' + y' + z' + rest = left) : x + x' + (y + y') + (z + z') + rest = r := by
  omega

/-- What the two passes give and what they leave make up the remainder that they divide. -/
theorem twoPasses_sum (a b c : Consumer) (r : Nat) :
    let x := twoPasses a b c r
    x.first + x.second + x.third + x.rest = r :=
  passes_add_rest
    (takes_add_rest (min_min_le_right a.claim a.floor r) (min_min_le_right b.claim b.floor _)
      (min_min_le_right c.claim c.floor _))
    (takes_add_rest (Nat.min_le_right ..) (Nat.min_le_right ..) (Nat.min_le_right ..))

/-- What a consumer has after pass 1, brought up by what is left of its claim at most, stays within the claim. -/
theorem min_add_min_sub_le (claim bound left : Nat) : min claim bound + min (claim - min claim bound) left ≤ claim := by
  omega

theorem twoPasses_first_le (a b c : Consumer) (r : Nat) : (twoPasses a b c r).first ≤ a.claim :=
  min_add_min_sub_le ..

theorem twoPasses_second_le (a b c : Consumer) (r : Nat) : (twoPasses a b c r).second ≤ b.claim :=
  min_add_min_sub_le ..

theorem twoPasses_third_le (a b c : Consumer) (r : Nat) : (twoPasses a b c r).third ≤ c.claim :=
  min_add_min_sub_le ..

/-! ### The Budget Unit's record -/

section
variable (p : Pack) (b : Budget) (a cd cw cl : Nat)

/-- R143's bound: the four grants and the headroom make up the allowance, whichever consumer is first. -/
theorem apportioned_sum (winchFirst : Bool) :
    let r := apportioned p b a cd cw cl winchFirst
    r.gs + r.gd + r.gw + r.gl + r.headroom = a := by
  have hreserve : min p.servoReserve a ≤ a := Nat.min_le_right ..
  cases winchFirst with
  | false =>
    have hsum := twoPasses_sum ⟨cd, p.driveFloor⟩ ⟨cw, p.winchFloor⟩ ⟨cl, p.lampFloor⟩ (a - min p.servoReserve a)
    simp only [apportioned, Bool.false_eq_true, if_false] at hsum ⊢
    omega
  | true =>
    have hsum := twoPasses_sum ⟨cw, p.winchFloor⟩ ⟨cd, p.driveFloor⟩ ⟨cl, p.lampFloor⟩ (a - min p.servoReserve a)
    simp only [apportioned, if_true] at hsum ⊢
    omega

theorem apportioned_gd_le (winchFirst : Bool) : (apportioned p b a cd cw cl winchFirst).gd ≤ cd := by
  cases winchFirst with
  | false => exact twoPasses_first_le ..
  | true => exact twoPasses_second_le ..

theorem apportioned_gw_le (winchFirst : Bool) : (apportioned p b a cd cw cl winchFirst).gw ≤ cw := by
  cases winchFirst with
  | false => exact twoPasses_second_le ..
  | true => exact twoPasses_first_le ..

theorem apportioned_gl_le (winchFirst : Bool) : (apportioned p b a cd cw cl winchFirst).gl ≤ cl := by
  cases winchFirst <;> exact twoPasses_third_le ..

end

/-! ### One apportionment -/

theorem exec_apportionment (s : State) : exec .apportionment s = .next (apportion s) := rfl

theorem apportion_budget (s : State) :
    (apportion s).budget =
      apportioned s.profile.pack s.budget (risen s.protection.target s.protection.allowance) (driveClaim s)
        s.winch.claim s.lamps.claim s.winch.sync.active := rfl

theorem chan_apportion (s : State) (w : Wheel) :
    chan (apportion s) w =
      { chan s w with
        apportioned := (chan s w).claim
        limit := (apportion s).budget.gd * (chan s w).claim / (apportion s).budget.cd } := by
  cases w <;> rfl

theorem apportion_frame_only (s : State) :
    SameExcept [.protection, .drive, .budget, .winch, .lamps] s (apportion s) :=
  (((((((setProtection_frame s _).mono (by decide)).trans ((setDrive_frame _ _).mono (by decide))).trans
    ((setBudget_frame_only _ _).mono (by decide))).trans ((setDrive_frame _ _).mono (by decide))).trans
    ((setWinch_frame_only _ _).mono (by decide))).trans ((setLamps_frame_lamps _ _).mono (by decide))).trans
    ((lampResolve_frame _).mono (by decide))

/-! ### The wheels' shares of the drive grant -/

/-- Shares rounded down sum to no more than the share of the sum. -/
theorem sum_shares_le (g d : Nat) (claims : List Nat) :
    (claims.map fun c => g * c / d).sum ≤ g * claims.sum / d := by
  induction claims with
  | nil => simp
  | cons c cs ih =>
    calc
      ((c :: cs).map fun c => g * c / d).sum ≤ g * c / d + g * cs.sum / d := by simpa using ih
      _ ≤ (g * c + g * cs.sum) / d := Nat.div_add_div_le_add_div ..
      _ = g * (c :: cs).sum / d := by rw [List.sum_cons, Nat.mul_add]

theorem sum_shares_le_grant (g : Nat) (claims : List Nat) : (claims.map fun c => g * c / claims.sum).sum ≤ g :=
  (sum_shares_le g _ claims).trans (Nat.div_le_of_le_mul (Nat.mul_comm g _).le)

/-- The four limits of an apportionment stay within its drive grant (R90). -/
theorem apportion_limits_le (s : State) :
    (Wheel.all.map fun w => (chan (apportion s) w).limit).sum ≤ (apportion s).budget.gd := by
  have hclaims : (apportion s).budget.cd = (Wheel.all.map fun w => (chan s w).claim).sum := rfl
  have hshares := sum_shares_le_grant (apportion s).budget.gd (Wheel.all.map fun w => (chan s w).claim)
  rw [← hclaims, List.map_map] at hshares
  simp only [chan_apportion]
  exact hshares

/-! ### Resets -/

/-- Every reset kind goes through start-up, and gives the Budget Unit its reset values. -/
theorem startUp_budget (pins : Pins) (s : State) : (startUp pins s).budget = Budget.reset :=
  startUp_frame pins s .budget (by decide)

theorem startUp_grants (pins : Pins) (s : State) :
    (startUp pins s).budget.gd = 0 ∧ (startUp pins s).budget.gw = 0 ∧ (startUp pins s).budget.gl = 0 := by
  rw [startUp_budget]
  exact ⟨rfl, rfl, rfl⟩

/-! ### Every other command -/

/-- What a command that is neither an apportionment nor takes a reset can change. -/
def plainTouches : List Block := .radioPort :: writeTouches

/-- A transfer that does not consume a held restart's answer takes no reset. -/
theorem selRises_frame_of_noReset {mosi : List Byte} {pins : Pins} {s : State}
    (hnone : ¬TakesReset (.companionTransfer mosi pins) pins s) : SameExcept plainTouches s (selRises mosi pins s) := by
  have hend : ∀ consumed, SameExcept plainTouches s (endTransfer consumed s) := fun consumed =>
    (endTransfer_frame consumed s).mono (by decide)
  unfold selRises
  dsimp only
  split
  next => exact hend false
  next hpassed =>
    split
    next hrestart =>
      obtain ⟨hconsumes, hheld⟩ := Bool.and_eq_true_iff.1 hrestart
      exact (hnone (.inr (.inr ⟨mosi, rfl, hheld, hpassed, hconsumes⟩))).elim
    next => exact (hend _).trans ((takeClocked_frame mosi _).mono (by decide))

/-- A command that is neither an apportionment nor takes a reset leaves the Budget Unit, the clock and the queue. -/
theorem exec_frame_plain (c : Instr) (s : State) (hplain : c ≠ .apportionment) (hnone : ∀ pins, ¬TakesReset c pins s) :
    ∃ t, exec c s = .next t ∧ SameExcept plainTouches s t := by
  cases c with
  | radioFrame f => exact ⟨_, rfl, (receiveFrame_frame f s).mono (by decide)⟩
  | interByteGap b => exact ⟨_, rfl, (byteGap_frame b s).mono (by decide)⟩
  | badLengthByte b => exact ⟨_, rfl, (lengthByte_frame b s).mono (by decide)⟩
  | replyDelayExpiry => exact ⟨_, rfl, (replyStarts_frame s).mono (by decide)⟩
  | replyEnd => exact ⟨_, rfl, (replyEnds_frame s).mono (by decide)⟩
  | silenceTimerExpiry m => exact ⟨_, rfl, (lapse_frame m s).mono (by decide)⟩
  | companionTransfer mosi pins => exact ⟨_, rfl, selRises_frame_of_noReset (hnone pins)⟩
  | selFall => exact ⟨_, rfl, (setCompPort_frame_only s _).mono (by decide)⟩
  | demand | grant | release | statusRead | telemetryRead | noticeTake | causeTake | flagsSet | profileWrite | profileRead
  | patternWrite | bankSwitch | winchZero | checkLeads | restart =>
    exact ⟨_, rfl, (takeNamed_frame _ s).mono (by decide)⟩
  | storeComplete matched => exact ⟨_, rfl, (storeCompletes_frame matched s).mono (by decide)⟩
  | powerOn pins => exact (hnone pins (.inl rfl)).elim
  | supplyDip pins => exact (hnone pins (.inr (.inl rfl))).elim
  | slotStale m f => exact ⟨_, rfl, (slotStale_frame m f s).mono (by decide)⟩
  | grantExpiry f => exact ⟨_, rfl, (endGrant_frame .expiry f s).mono (by decide)⟩
  | blendStep f => exact ⟨_, rfl, (blendStep_frame f s).mono (by decide)⟩
  | steeringUpdate => exact ⟨_, rfl, (steeringUpdate_frame s).mono (by decide)⟩
  | hallEdge w micros => exact ⟨_, rfl, (hallEdge_frame w micros s).mono (by decide)⟩
  | speedTimeout w => exact ⟨_, rfl, (setDrive_frame s _).mono (by decide)⟩
  | wheelUpdate w => exact ⟨_, rfl, (wheelUpdate_frame w s).mono (by decide)⟩
  | tripRetryExpiry w => exact ⟨_, rfl, (retryExpires_frame w s).mono (by decide)⟩
  | lockoutClearExpiry w => exact ⟨_, rfl, (lockoutClears_frame w s).mono (by decide)⟩
  | stillTimerExpiry => exact ⟨_, rfl, (stillExpires_frame s).mono (by decide)⟩
  | encoderEdge a b => exact ⟨_, rfl, (encoderEdge_frame a b s).mono (by decide)⟩
  | hookClosing => exact ⟨_, rfl, (hookCloses_frame s).mono (by decide)⟩
  | hookOpening => exact ⟨_, rfl, (setWinch_frame_only s _).mono (by decide)⟩
  | winchUpdate => exact ⟨_, rfl, (winchUpdate_frame s).mono (by decide)⟩
  | stallTimerExpiry => exact ⟨_, rfl, (stallExpires_frame s).mono (by decide)⟩
  | stallClearExpiry => exact ⟨_, rfl, (stallClears_frame s).mono (by decide)⟩
  | currentSweepStart => exact ⟨_, rfl, (setSense_frame s _).mono (by decide)⟩
  | currentSweepComplete codes => exact ⟨_, rfl, (currentsComplete_frame codes s).mono (by decide)⟩
  | cellSweepSlotStart => exact ⟨_, rfl, (slotStarts_frame s).mono (by decide)⟩
  | cellSweepComplete codes => exact ⟨_, rfl, (cellsComplete_frame codes s).mono (by decide)⟩
  | leadCheckComplete codes => exact ⟨_, rfl, (leadsComplete_frame codes s).mono (by decide)⟩
  | cutoffDwellExpiry => exact ⟨_, rfl, (dwellExpires_frame s).mono (by decide)⟩
  | recoveryDwellExpiry => exact ⟨_, rfl, (recoveryExpires_frame s).mono (by decide)⟩
  | apportionment => exact (hplain rfl).elim
  | blinkToggle => exact ⟨_, rfl, (blinkExpires_frame s).mono (by decide)⟩
  | stepTimerExpiry => exact ⟨_, rfl, (stepExpires_frame s).mono (by decide)⟩

theorem exec_plain_budget {c : Instr} {s t : State} (h : exec c s = .next t) (hplain : c ≠ .apportionment)
    (hnone : ∀ pins, ¬TakesReset c pins s) : t.budget = s.budget := by
  obtain ⟨u, hexec, hframe⟩ := exec_frame_plain c s hplain hnone
  cases h.symm.trans hexec
  exact hframe .budget (by decide)

/-! ### The apportionment -/

/-- Settles O49: which consumer is first decides the two grants' passes, and nothing else; the bound is that of the passes,
and no frame but an apportionment's and a reset's reaches the Budget Unit. -/
theorem apportionmentDividesTheAllowance : Obligations.ApportionmentDividesTheAllowance := by
  refine ⟨⟨fun s => ?divides, fun s pins => ⟨?powerOn, ?supplyDip, fun mosi hheld hpassed hconsumes => ?restart⟩,
    fun c s t h hplain hnone => exec_plain_budget h hplain hnone⟩, fun s => ?publishes⟩
  case divides =>
    refine ⟨_, exec_apportionment s, rfl, rfl, rfl, rfl, rfl, rfl, rfl, ?gd, ?gw, ?gl, ?headroom, rfl,
      apportioned_sum .., apportioned_gd_le .., apportioned_gw_le .., apportioned_gl_le .., apportion_frame_only s⟩
    all_goals
      rw [apportion_budget]
      cases s.winch.sync.active <;> rfl
  case powerOn => exact ⟨_, exec_powerOn pins s, startUp_grants pins _⟩
  case supplyDip => exact ⟨_, exec_supplyDip pins s, startUp_grants pins _⟩
  case restart =>
    rw [exec_companionTransfer, selRises_of_restart pins hheld hpassed hconsumes]
    exact ⟨_, rfl, startUp_grants pins _⟩
  case publishes =>
    have hlimits := apportion_limits_le s
    refine ⟨_, exec_apportionment s, fun w => ?_, ?_, rfl, rfl, rfl, rfl⟩
    · rw [chan_apportion]
      exact ⟨rfl, rfl, rfl, rfl⟩
    · simpa [Wheel.all, Nat.add_assoc] using hlimits

end Sys2Proof.Machine
end

section
/-! PROOFS. The tables, and what the views of the state read: each view depends on the records named by its frame lemma, and
on one entry of a table. -/
namespace Sys2Proof.Machine

/-! ### Tables -/

section
variable {α β : Type}

@[simp] theorem PerFn.get_set_same (t : PerFn α) (f : Fn) (x : α) : (t.set f x).get f = x := by cases f <;> rfl

theorem PerFn.get_set_ne (t : PerFn α) {f g : Fn} (h : g ≠ f) (x : α) : (t.set f x).get g = t.get g := by
  cases f <;> cases g <;> first | rfl | exact absurd rfl h

@[simp] theorem PerFn.get_of (g : Fn → α) (f : Fn) : (PerFn.of g).get f = g f := by cases f <;> rfl

theorem PerFn.get_set (t : PerFn α) (f g : Fn) (x : α) : (t.set f x).get g = if g = f then x else t.get g := by
  split
  next h => rw [h, PerFn.get_set_same]
  next h => exact PerFn.get_set_ne t h x

@[simp] theorem PerFn.set_get_same (t : PerFn α) (f : Fn) : t.set f (t.get f) = t := by cases f <;> rfl

@[simp] theorem PerFn.set_set_same (t : PerFn α) (f : Fn) (x y : α) : (t.set f x).set f y = t.set f y := by
  cases f <;> rfl

@[simp] theorem PerWheel.get_set_same (t : PerWheel α) (w : Wheel) (x : α) : (t.set w x).get w = x := by
  cases w <;> rfl

theorem PerWheel.get_set_ne (t : PerWheel α) {w v : Wheel} (h : v ≠ w) (x : α) : (t.set w x).get v = t.get v := by
  cases w <;> cases v <;> first | rfl | exact absurd rfl h

@[simp] theorem PerWheel.get_of (g : Wheel → α) (w : Wheel) : (PerWheel.of g).get w = g w := by cases w <;> rfl

@[simp] theorem PerWheel.get_map (g : α → β) (t : PerWheel α) (w : Wheel) : (t.map g).get w = g (t.get w) := by
  cases w <;> rfl

theorem PerWheel.list_eq (t : PerWheel α) : t.list = Wheel.all.map t.get := rfl

theorem PerWheel.forall_mem_list {t : PerWheel α} {p : α → Prop} : (∀ x ∈ t.list, p x) ↔ ∀ w, p (t.get w) := by
  rw [PerWheel.list_eq, List.forall_mem_map]
  exact ⟨fun h w => h w (by cases w <;> decide), fun h w _ => h w⟩

end

@[simp] theorem Fn.mem_all (f : Fn) : f ∈ Fn.all := by cases f <;> decide

@[simp] theorem Wheel.mem_all (w : Wheel) : w ∈ Wheel.all := by cases w <;> decide

/-! ### Views of one entry -/

@[simp] theorem slotOf_setSlot_same (s : State) (m : Master) (f : Fn) (x : Slot) : slotOf (setSlot s m f x) m f = x := by
  cases m <;> exact PerFn.get_set_same ..

theorem slotOf_setSlot_of_fn_ne (s : State) (m m' : Master) {f g : Fn} (h : g ≠ f) (x : Slot) :
    slotOf (setSlot s m f x) m' g = slotOf s m' g := by
  cases m <;> cases m' <;> first | rfl | exact PerFn.get_set_ne _ h x

theorem slotOf_setSlot_of_master_ne (s : State) {m m' : Master} (h : m' ≠ m) (f g : Fn) (x : Slot) :
    slotOf (setSlot s m f x) m' g = slotOf s m' g := by
  cases m <;> cases m' <;> first | rfl | exact absurd rfl h

theorem slotOf_setSlot (s : State) (m m' : Master) (f g : Fn) (x : Slot) :
    slotOf (setSlot s m f x) m' g = if m' = m ∧ g = f then x else slotOf s m' g := by
  split
  next h => rw [h.1, h.2, slotOf_setSlot_same]
  next h =>
    by_cases hm : m' = m
    · exact slotOf_setSlot_of_fn_ne s m m' (fun hf => h ⟨hm, hf⟩) x
    · exact slotOf_setSlot_of_master_ne s hm f g x

@[simp] theorem effOf_setEff_same (s : State) (f : Fn) (e : Eff) : effOf (setEff s f e) f = e := PerFn.get_set_same ..

theorem effOf_setEff_ne (s : State) {f g : Fn} (h : g ≠ f) (e : Eff) : effOf (setEff s f e) g = effOf s g :=
  PerFn.get_set_ne _ h e

@[simp] theorem grantOf_setEff (s : State) (f g : Fn) (e : Eff) : grantOf (setEff s f e) g = grantOf s g := rfl

@[simp] theorem lockout_setEff (s : State) (f : Fn) (e : Eff) : (setEff s f e).resolver.lockout = s.resolver.lockout := rfl

@[simp] theorem grantOf_setGrant_same (s : State) (f : Fn) (g : Grant) : grantOf (setGrant s f g) f = g :=
  PerFn.get_set_same ..

theorem grantOf_setGrant_ne (s : State) {f f' : Fn} (h : f' ≠ f) (g : Grant) :
    grantOf (setGrant s f g) f' = grantOf s f' := PerFn.get_set_ne _ h g

@[simp] theorem effOf_setGrant (s : State) (f f' : Fn) (g : Grant) : effOf (setGrant s f g) f' = effOf s f' := rfl

@[simp] theorem lockout_setGrant (s : State) (f : Fn) (g : Grant) :
    (setGrant s f g).resolver.lockout = s.resolver.lockout := rfl

@[simp] theorem chan_setChan_same (s : State) (w : Wheel) (c : Channel) : chan (setChan s w c) w = c :=
  PerWheel.get_set_same ..

theorem chan_setChan_ne (s : State) {w v : Wheel} (h : v ≠ w) (c : Channel) : chan (setChan s w c) v = chan s v :=
  PerWheel.get_set_ne _ h c

@[simp] theorem chan_mapChans (s : State) (g : Channel → Channel) (w : Wheel) : chan (mapChans s g) w = g (chan s w) :=
  PerWheel.get_map ..

/-! ### Frames of the replacements -/

theorem setSlots_frame (s : State) (v : Slots) : SameExcept [.slots] s (s.setSlots v) := by
  intro b hb; cases b <;> first | exact (hb (by decide)).elim | rfl

theorem setEff_frame (s : State) (f : Fn) (e : Eff) : SameExcept [.resolver] s (setEff s f e) := setResolver_frame s _

theorem setGrant_frame (s : State) (f : Fn) (g : Grant) : SameExcept [.resolver] s (setGrant s f g) :=
  setResolver_frame s _

theorem setComp_frame_only (s : State) (v : CompCtx) : SameExcept [.comp] s (s.setComp v) := by
  intro b hb; cases b <;> first | exact (hb (by decide)).elim | rfl

theorem setSteering_frame_only (s : State) (v : Steering) : SameExcept [.steering] s (s.setSteering v) := by
  intro b hb; cases b <;> first | exact (hb (by decide)).elim | rfl

theorem setSense_frame_only (s : State) (v : Sense) : SameExcept [.sense] s (s.setSense v) := by
  intro b hb; cases b <;> first | exact (hb (by decide)).elim | rfl

theorem setRetained_frame_only (s : State) (v : Retained) : SameExcept [.retained] s (s.setRetained v) := by
  intro b hb; cases b <;> first | exact (hb (by decide)).elim | rfl

theorem setProfile_frame_only (s : State) (v : Profile) : SameExcept [.profile] s (s.setProfile v) := by
  intro b hb; cases b <;> first | exact (hb (by decide)).elim | rfl

theorem setStore_frame_only (s : State) (v : Store) : SameExcept [.store] s (s.setStore v) := by
  intro b hb; cases b <;> first | exact (hb (by decide)).elim | rfl

theorem setPending_frame_only (s : State) (v : List Instr) : SameExcept [.queue] s (s.setPending v) := by
  intro b hb; cases b <;> first | exact (hb (by decide)).elim | rfl

theorem setChan_frame (s : State) (w : Wheel) (c : Channel) : SameExcept [.drive] s (setChan s w c) := setDrive_frame s _

theorem mapChans_frame (s : State) (g : Channel → Channel) : SameExcept [.drive] s (mapChans s g) := setDrive_frame s _

/-! ### Views under a frame -/

section
variable {l : List Block} {s t : State} (h : SameExcept l s t)
include h

theorem SameExcept.slotOf (hl : .slots ∉ l) (m : Master) (f : Fn) : slotOf t m f = slotOf s m f := by
  have hslots : t.slots = s.slots := h .slots hl
  simp only [Machine.slotOf, hslots]

theorem SameExcept.effOf (hl : .resolver ∉ l) (f : Fn) : effOf t f = effOf s f := by
  have hres : t.resolver = s.resolver := h .resolver hl
  simp only [Machine.effOf, hres]

theorem SameExcept.effective (hl : .resolver ∉ l) (f : Fn) : effective t f = effective s f :=
  congrArg Eff.value (h.effOf hl f)

theorem SameExcept.grantOf (hl : .resolver ∉ l) (f : Fn) : grantOf t f = grantOf s f := by
  have hres : t.resolver = s.resolver := h .resolver hl
  simp only [Machine.grantOf, hres]

theorem SameExcept.chan (hl : .drive ∉ l) (w : Wheel) : chan t w = chan s w := by
  have hdrive : t.drive = s.drive := h .drive hl
  simp only [Machine.chan, hdrive]

theorem SameExcept.authOf (hl : .profile ∉ l) (f : Fn) : authOf t f = authOf s f := by
  have hprofile : t.profile = s.profile := h .profile hl
  simp only [Machine.authOf, hprofile]

theorem SameExcept.fnMask (hl : .profile ∉ l) (m : Master) : fnMask t m = fnMask s m := by
  have hprofile : t.profile = s.profile := h .profile hl
  simp only [Machine.fnMask, hprofile]

theorem SameExcept.present (hr : .radio ∉ l) (hc : .comp ∉ l) (m : Master) : present t m = present s m := by
  have hradio : t.radio = s.radio := h .radio hr
  have hcomp : t.comp = s.comp := h .comp hc
  simp only [Machine.present, hradio, hcomp]

end

/-! ### Resolution: the entry -/

@[simp] theorem takenSlot_value (x : Slot) : (takenSlot x).value = x.value := by unfold takenSlot; split <;> rfl

@[simp] theorem takenSlot_confirmed (x : Slot) : (takenSlot x).confirmed = x.confirmed := by
  unfold takenSlot; split <;> rfl

theorem takenSlot_of_fresh {x : Slot} (h : x.state = .fresh) : takenSlot x = { x with state := .taken } := if_pos h

theorem takenSlot_of_not_fresh {x : Slot} (h : x.state ≠ .fresh) : takenSlot x = x := if_neg h

/-- A slot's state lets it decide: it holds an offer that is not outlived (R27). -/
theorem takenSlot_offers (x : Slot) :
    ((takenSlot x).state == .fresh || (takenSlot x).state == .taken) = (x.state == .fresh || x.state == .taken) := by
  cases h : x.state <;> simp [takenSlot, h]

theorem slotOf_takeSlots (f : Fn) (s : State) (m : Master) (g : Fn) :
    slotOf (takeSlots f s) m g = if g = f then takenSlot (slotOf s m g) else slotOf s m g := by
  unfold takeSlots
  cases m with
  | radio =>
    rw [slotOf_setSlot_of_master_ne _ (by decide), slotOf_setSlot]
    simp only [true_and]
    split
    next h => rw [h]
    next => rfl
  | companion =>
    rw [slotOf_setSlot, slotOf_setSlot_of_master_ne _ (by decide)]
    simp only [true_and]
    split
    next h => rw [h]
    next => rfl

@[simp] theorem takeSlots_resolver (f : Fn) (s : State) : (takeSlots f s).resolver = s.resolver :=
  takeSlots_frame f s .resolver (by decide)

@[simp] theorem takeSlots_profile (f : Fn) (s : State) : (takeSlots f s).profile = s.profile :=
  takeSlots_frame f s .profile (by decide)

/-- The entry that a resolution in `t` gives a function whose entry was `old` (R40 to R50). -/
def entryFrom (t : State) (f : Fn) (old : Eff) (byMark : Bool) : Eff :=
  let d := decision t f
  if locked t f then
    { value := lockValue t f, level := .lockout, source := .none, blend := none, target := lockValue t f,
      underlying := d.value.getD old.underlying }
  else
    let r := d.value.getD old.value
    if isNumeric f && d.level != .failsafe then blendEntry old d r (authOf t f).handover byMark
    else { value := r, level := d.level, source := d.source, blend := none, target := r, underlying := r }

theorem resolvedEntry_eq (s : State) (f : Fn) (byMark : Bool) :
    resolvedEntry s f byMark = entryFrom s f (effOf s f) byMark := rfl

/-- What decides a function is the same in two states: the lock, the grant, the presence of both masters, and the usable
slots, trims and contents of that function. -/
structure SameDeciders (f : Fn) (s t : State) : Prop where
  lockout : t.resolver.lockout = s.resolver.lockout
  grant : (grantOf t f).held.isSome = (grantOf s f).held.isSome
  present : ∀ m, present t m = present s m
  usable : ∀ m, usable t m f = usable s m f
  value : ∀ m, (slotOf t m f).value = (slotOf s m f).value
  profile : t.profile = s.profile

namespace SameDeciders
variable {f : Fn} {s t u : State}

theorem refl (f : Fn) (s : State) : SameDeciders f s s := ⟨rfl, rfl, fun _ => rfl, fun _ => rfl, fun _ => rfl, rfl⟩

theorem trans (h : SameDeciders f s t) (h' : SameDeciders f t u) : SameDeciders f s u where
  lockout := h'.lockout.trans h.lockout
  grant := h'.grant.trans h.grant
  present m := (h'.present m).trans (h.present m)
  usable m := (h'.usable m).trans (h.usable m)
  value m := (h'.value m).trans (h.value m)
  profile := h'.profile.trans h.profile

theorem decision (h : SameDeciders f s t) : decision t f = decision s f := by
  have hval : ∀ m, slotValue t m f = slotValue s m f := fun m => by simp only [slotValue, h.value]
  have hdec : ∀ m, decides t m f = decides s m f := fun m => by simp only [decides, h.present, h.usable]
  have hauth : authOf t f = authOf s f := by simp only [authOf, h.profile]
  have htrim : ∀ m, trimFor t m f = trimFor s m f := fun m => by simp only [trimFor, hauth, hdec, hval]
  have hdv : ∀ m, decidedValue t m f = decidedValue s m f := fun m => by simp only [decidedValue, hval, htrim]
  have hsec : secondaryOf t f = secondaryOf s f := by simp only [secondaryOf, hauth, hdec]
  simp only [Machine.decision, h.grant, hauth, hdec, hval, hdv, hsec, h.profile]

theorem entryFrom (h : SameDeciders f s t) (old : Eff) (byMark : Bool) :
    entryFrom t f old byMark = entryFrom s f old byMark := by
  have hlock : locked t f = locked s f := by simp only [locked, h.lockout]
  have hvalue : lockValue t f = lockValue s f := by simp only [lockValue, h.profile]
  have hauth : authOf t f = authOf s f := by simp only [authOf, h.profile]
  simp only [Machine.entryFrom, hlock, hvalue, hauth, h.decision]

end SameDeciders

theorem sameDeciders_takeSlots (f g : Fn) (s : State) : SameDeciders g s (takeSlots f s) where
  lockout := by rw [takeSlots_resolver]
  grant := by rw [(takeSlots_frame f s).grantOf (by decide)]
  present := (takeSlots_frame f s).present (by decide) (by decide)
  usable m := by
    have hmask := (takeSlots_frame f s).fnMask (by decide) m
    unfold usable
    rw [slotOf_takeSlots, hmask]
    split
    · rw [takenSlot_offers, takenSlot_confirmed]
    · rfl
  value m := by rw [slotOf_takeSlots]; split <;> simp
  profile := takeSlots_profile f s

/-! ### Resolution: what it writes -/

@[simp] theorem handOn_resolver (f : Fn) (s : State) : (handOn f s).resolver = s.resolver :=
  handOn_frame f s .resolver (by decide)

@[simp] theorem handUnderlying_resolver (z : Int) (s : State) : (handUnderlying z s).resolver = s.resolver :=
  handUnderlying_frame z s .resolver (by decide)

@[simp] theorem commitEff_resolver (f : Fn) (e : Eff) (s : State) :
    (commitEff f e s).resolver = (setEff s f e).resolver := by
  unfold commitEff
  dsimp only
  rw [handUnderlying_resolver]
  split
  · rfl
  · exact handOn_resolver f _

theorem resolve_of_busy {f : Fn} {s : State} (h : consumerBusy s f = true) (byMark : Bool) : resolve f byMark s = s :=
  if_pos h

theorem resolve_of_free {f : Fn} {s : State} (h : consumerBusy s f = false) (byMark : Bool) :
    resolve f byMark s = commitEff f (entryFrom s f (effOf s f) byMark) (takeSlots f s) := by
  have heff : effOf (takeSlots f s) f = effOf s f := (takeSlots_frame f s).effOf (by decide) f
  rw [resolve, if_neg (by simp [h])]
  dsimp only
  rw [resolvedEntry_eq, heff, (sameDeciders_takeSlots f f s).entryFrom]

theorem consumerBusy_of_ne {f : Fn} (h : f ≠ .steermode) (s : State) : consumerBusy s f = false := by
  simp [consumerBusy, h]

theorem consumerBusy_iff (s : State) (f : Fn) : consumerBusy s f = true ↔ f = .steermode ∧ s.steering.state = .slewing := by
  simp [consumerBusy, busy]

theorem consumerBusy_eq_false_iff (s : State) (f : Fn) : consumerBusy s f = false ↔ Resolvable s f := by
  rw [Bool.eq_false_iff, ne_eq, consumerBusy_iff, Resolvable, not_and_or]

@[simp] theorem lockout_resolve (f : Fn) (byMark : Bool) (s : State) :
    (resolve f byMark s).resolver.lockout = s.resolver.lockout := by
  unfold resolve
  dsimp only
  split
  · rfl
  · simp

@[simp] theorem grantOf_resolve (f : Fn) (byMark : Bool) (s : State) (g : Fn) :
    grantOf (resolve f byMark s) g = grantOf s g := by
  unfold resolve grantOf
  dsimp only
  split
  · rfl
  · simp [setEff]

theorem effOf_resolve_ne {f g : Fn} (h : g ≠ f) (byMark : Bool) (s : State) :
    effOf (resolve f byMark s) g = effOf s g := by
  unfold resolve effOf
  dsimp only
  split
  · rfl
  · simp [setEff, PerFn.get_set_ne _ h]

theorem effOf_resolve_of_free {f : Fn} {s : State} (h : consumerBusy s f = false) (byMark : Bool) :
    effOf (resolve f byMark s) f = entryFrom s f (effOf s f) byMark := by
  rw [resolve_of_free h, effOf, commitEff_resolver]
  exact effOf_setEff_same ..

@[simp] theorem commitEff_slots (f : Fn) (e : Eff) (s : State) : (commitEff f e s).slots = s.slots :=
  commitEff_frame f e s .slots (by decide)

theorem slotOf_resolve_ne {f g : Fn} (h : g ≠ f) (byMark : Bool) (s : State) (m : Master) :
    slotOf (resolve f byMark s) m g = slotOf s m g := by
  cases hbusy : consumerBusy s f with
  | true => rw [resolve_of_busy hbusy]
  | false =>
    rw [resolve_of_free hbusy, (commitEff_frame f _ _).slotOf (by decide), slotOf_takeSlots, if_neg h]

theorem slotOf_resolve_of_free {f : Fn} {s : State} (h : consumerBusy s f = false) (byMark : Bool) (m : Master) :
    slotOf (resolve f byMark s) m f = takenSlot (slotOf s m f) := by
  rw [resolve_of_free h, (commitEff_frame f _ _).slotOf (by decide), slotOf_takeSlots, if_pos rfl]

theorem sameDeciders_resolve (f g : Fn) (byMark : Bool) (s : State) : SameDeciders g s (resolve f byMark s) where
  lockout := lockout_resolve ..
  grant := by rw [grantOf_resolve]
  present := (resolve_frame f byMark s).present (by decide) (by decide)
  usable m := by
    have hmask := (resolve_frame f byMark s).fnMask (by decide) m
    cases hbusy : consumerBusy s f with
    | true => rw [resolve_of_busy hbusy]
    | false =>
      unfold usable
      by_cases hg : g = f
      · rw [hmask, hg, slotOf_resolve_of_free hbusy, takenSlot_offers, takenSlot_confirmed]
      · rw [hmask, slotOf_resolve_ne hg]
  value m := by
    cases hbusy : consumerBusy s f with
    | true => rw [resolve_of_busy hbusy]
    | false =>
      by_cases hg : g = f
      · rw [hg, slotOf_resolve_of_free hbusy, takenSlot_value]
      · rw [slotOf_resolve_ne hg]
  profile := resolve_frame f byMark s .profile (by decide)

end Sys2Proof.Machine
end

section
/-! PROOFS. What a step can do, said once: every command is a chain of events, or a start-up. An invariant that every event
keeps and that every start-up establishes is kept by every step. -/
namespace Sys2Proof.Machine

/-! ### Properties that read some records alone -/

/-- A property depends on the records named alone. -/
def Reads (l : List Block) (P : State → Prop) : Prop := ∀ s t, (∀ b ∈ l, b.Same s t) → P s → P t

theorem Reads.keep {l touched : List Block} {P : State → Prop} {s t : State} (hP : Reads l P)
    (hframe : SameExcept touched s t) (hdisjoint : ∀ b ∈ l, b ∉ touched) (hs : P s) : P t :=
  hP s t (fun b hb => hframe b (hdisjoint b hb)) hs

/-! ### Events -/

/-- The records that no invariant but that of the link cells reads. -/
def quietBlocks : List Block := [.lamps, .notices, .radioPort, .budget, .compPort, .store, .sense, .clock, .queue]

/-- The events of the source contexts, the demand table and the resolver. -/
inductive ContextEvent : State → State → Prop
  | radioCounts {s : State} (v : RadioCtx) (hstate : v.state = s.radio.state) : ContextEvent s (s.setRadio v)
  | compCounts {s : State} (v : CompCtx) (hstate : v.state = s.comp.state) (hbarred : v.barred = s.comp.barred) :
      ContextEvent s (s.setComp v)
  | endGrant (why : EndReason) (f : Fn) (s : State) : ContextEvent s (endGrant why f s)
  | beginGrant {s : State} {n : Nat} {f : Fn} (d : Nat) (hchecks : checkGrant s n = .ok f)
      (hlive : s.comp.state = .live) : ContextEvent s (beginGrant f d s)
  | breakaway {s : State} {f : Fn} {h : HeldGrant} (n : Nat) (hheld : (grantOf s f).held = some h) :
      ContextEvent s (setGrant s f { grantOf s f with held := some { h with breakaway := n } })
  | blendStep (f : Fn) (s : State) : ContextEvent s (blendStep f s)
  | writeSlot {f : Fn} {v : Int} (m : Master) (s : State) (hrange : InRange f (rangedValue f v)) :
      ContextEvent s (writeSlot m f v s)
  | slotStale (m : Master) (f : Fn) (s : State) : ContextEvent s (slotStale m f s)
  | makeLive (m : Master) (s : State) : ContextEvent s (makeLive m s)
  | lapse (m : Master) (s : State) : ContextEvent s (lapse m s)
  | writeBar (b : Bool) (s : State) : ContextEvent s (writeBar b s)

/-- The events of the wheel channels. -/
inductive WheelEvent : State → State → Prop
  | hallEdge (w : Wheel) (micros : Nat) (s : State) : WheelEvent s (hallEdge w micros s)
  | speedExpires (w : Wheel) (s : State) : WheelEvent s (speedExpires w s)
  | wheelUpdate (w : Wheel) (s : State) : WheelEvent s (wheelUpdate w s)
  | sampleWheel (w : Wheel) (current : Nat) (s : State) : WheelEvent s (sampleWheel w current s)
  | retryExpires (w : Wheel) (s : State) : WheelEvent s (retryExpires w s)
  | lockoutClears (w : Wheel) (s : State) : WheelEvent s (lockoutClears w s)
  | stillExpires (s : State) : WheelEvent s (stillExpires s)

/-- The events of the winch. -/
inductive WinchEvent : State → State → Prop
  | encoderEdge (a b : Bool) (s : State) : WinchEvent s (encoderEdge a b s)
  | hookCloses (s : State) : WinchEvent s (hookCloses s)
  | hookOpens (s : State) : WinchEvent s (hookOpens s)
  | winchUpdate (s : State) : WinchEvent s (winchUpdate s)
  | stallExpires (s : State) : WinchEvent s (stallExpires s)
  | stallClears (s : State) : WinchEvent s (stallClears s)
  | homeBraked (s : State) : WinchEvent s (homeBraked s)
  | sampled (current : Nat) (s : State) : WinchEvent s (s.setWinch { s.winch with current := current })

/-- The events of Pack Protection. -/
inductive PackEvent : State → State → Prop
  | currentHanded (ip : Int) (s : State) : PackEvent s (packCurrentHanded ip s)
  | cellsHanded (n : Nat) (nopack : Bool) (s : State) : PackEvent s (cellsHanded n nopack s)
  | openSetHanded (s : State) : PackEvent s (openSetHanded s)
  | dwellExpires (s : State) : PackEvent s (dwellExpires s)
  | recoveryExpires (s : State) : PackEvent s (recoveryExpires s)

/-- An accepted PROFILE_WRITE as its blocks take it: its body passed the checks while the part was parked. -/
inductive WriteEvent : State → State → Prop
  | accepted {s : State} {k : Sect} {body : List Byte} {d : SectionData} (hparked : parked s = true)
      (hbody : checkBody k body = .ok d) : WriteEvent s (sectionActs s.profile d (writeLive d s))

/-- What commands are made of. -/
inductive Event : State → State → Prop
  | quiet {s t : State} (h : SameExcept quietBlocks s t) : Event s t
  | context {s t : State} (h : ContextEvent s t) : Event s t
  | wheel {s t : State} (h : WheelEvent s t) : Event s t
  | winch {s t : State} (h : WinchEvent s t) : Event s t
  | pack {s t : State} (h : PackEvent s t) : Event s t
  | write {s t : State} (h : WriteEvent s t) : Event s t
  | steering (s : State) : Event s (steeringUpdate s)
  | apportion (s : State) : Event s (apportion s)
  | tick (s : State) : Event s (tick s)

theorem ContextEvent.frame {s t : State} (h : ContextEvent s t) : SameExcept contextTouches s t := by
  cases h with
  | radioCounts v => exact setRadio_frame s v
  | compCounts v => exact setComp_frame s v
  | endGrant why f => exact (endGrant_frame why f s).mono (by decide)
  | beginGrant d => exact (beginGrant_frame _ d s).mono (by decide)
  | breakaway => exact (setGrant_frame s _ _).mono (by decide)
  | blendStep f => exact (blendStep_frame f s).mono (by decide)
  | writeSlot m => exact (writeSlot_frame m _ _ s).mono (by decide)
  | slotStale m f => exact (slotStale_frame m f s).mono (by decide)
  | makeLive m => exact makeLive_frame m s
  | lapse m => exact lapse_frame m s
  | writeBar b => exact writeBar_frame b s

theorem WheelEvent.frame {s t : State} (h : WheelEvent s t) : SameExcept [.drive, .lamps, .notices] s t := by
  cases h with
  | hallEdge w micros => exact (hallEdge_frame w micros s).mono (by decide)
  | speedExpires w => exact (setDrive_frame s _).mono (by decide)
  | wheelUpdate w => exact (wheelUpdate_frame w s).mono (by decide)
  | sampleWheel w current => exact (sampleWheel_frame w current s).mono (by decide)
  | retryExpires w => exact (retryExpires_frame w s).mono (by decide)
  | lockoutClears w => exact (lockoutClears_frame w s).mono (by decide)
  | stillExpires => exact (stillExpires_frame s).mono (by decide)

theorem WinchEvent.frame {s t : State} (h : WinchEvent s t) : SameExcept winchTouches s t := by
  cases h with
  | encoderEdge a b => exact encoderEdge_frame a b s
  | hookCloses => exact hookCloses_frame s
  | hookOpens => exact setWinch_frame s _
  | winchUpdate => exact winchUpdate_frame s
  | stallExpires => exact stallExpires_frame s
  | stallClears => exact stallClears_frame s
  | homeBraked => exact homeBraked_frame s
  | sampled current => exact setWinch_frame s _

theorem PackEvent.frame {s t : State} (h : PackEvent s t) : SameExcept packTouches s t := by
  cases h with
  | currentHanded ip => exact (packCurrentHanded_frame ip s).mono (by decide)
  | cellsHanded n nopack => exact cellsHanded_frame n nopack s
  | openSetHanded => exact openSetHanded_frame s
  | dwellExpires => exact dwellExpires_frame s
  | recoveryExpires => exact recoveryExpires_frame s

/-! ### Chains of events -/

/-- A finite chain of events. -/
abbrev Events : State → State → Prop := Relation.ReflTransGen Event

theorem Event.events {s t : State} (h : Event s t) : Events s t := .single h

theorem Events.quiet {l : List Block} {s t : State} (h : SameExcept l s t) (hl : ∀ b ∈ l, b ∈ quietBlocks) :
    Events s t := (Event.quiet (h.mono hl)).events

theorem ContextEvent.events {s t : State} (h : ContextEvent s t) : Events s t := (Event.context h).events

theorem WheelEvent.events {s t : State} (h : WheelEvent s t) : Events s t := (Event.wheel h).events

theorem WinchEvent.events {s t : State} (h : WinchEvent s t) : Events s t := (Event.winch h).events

theorem PackEvent.events {s t : State} (h : PackEvent s t) : Events s t := (Event.pack h).events

theorem Events.foldl {α : Type} {g : State → α → State} (h : ∀ s a, Events s (g s a)) :
    ∀ (xs : List α) (s : State), Events s (xs.foldl g s)
  | [], _ => .refl
  | x :: xs, s => (h s x).trans (Events.foldl h xs (g s x))

theorem Events.keep {P : State → Prop} (hP : ∀ s t, P s → Event s t → P t) {s t : State} (h : Events s t)
    (hs : P s) : P t := by
  induction h with
  | refl => exact hs
  | tail _ hevent ih => exact hP _ _ ih hevent

/-! ### Values that are written lie in range -/

theorem clampI_inRange {lo hi : Int} (h : lo ≤ hi) (z : Int) : lo ≤ clampI lo hi z ∧ clampI lo hi z ≤ hi := by
  unfold clampI
  omega

theorem fnLow_le_fnHigh (f : Fn) : fnLow f ≤ fnHigh f := by cases f <;> decide

theorem inRange_zero (f : Fn) : InRange f 0 := by cases f <;> simp [InRange, fnLow, fnHigh]

theorem inRange_rangedValue_of_numeric {f : Fn} (h : isNumeric f = true) (v : Int) : InRange f (rangedValue f v) := by
  rw [rangedValue, if_pos h]
  exact clampI_inRange (fnLow_le_fnHigh f) v

theorem inRange_rangedValue {f : Fn} {v : Int} (h : isNumeric f = true ∨ InRange f v) : InRange f (rangedValue f v) := by
  cases hnum : isNumeric f with
  | true => exact inRange_rangedValue_of_numeric hnum v
  | false => simpa [rangedValue, hnum] using h.resolve_left (by simp [hnum])

theorem itemRaw_lt (x : RadioItem) : itemRaw x < 4096 := by
  have hlow := x.low.isLt
  unfold itemRaw
  omega

theorem inRange_demandOf (e : MapEntry) (f : Fn) {raw : Nat} (hraw : raw < 4096) :
    InRange f (rangedValue f (demandOf e f raw)) := by
  refine inRange_rangedValue ?_
  cases hnum : isNumeric f with
  | true => exact .inl rfl
  | false =>
    have hlt := discreteIndex_lt e f hraw
    rw [demandOf_of_discrete hnum]
    refine .inr ?_
    cases f <;> simp_all [InRange, isNumeric, fnLow, fnHigh, valueCount] <;> omega

/-! ### Commands of the radio link -/

theorem deliverItem_events (s : State) (x : RadioItem) : Events s (deliverItem s x) := by
  have hunmatched : Events s (countUnmatched s) := (ContextEvent.radioCounts _ (by rfl)).events
  unfold deliverItem
  split
  next e _ =>
    unfold deliverTo
    split
    next f _ =>
      split
      · exact (ContextEvent.writeSlot .radio s (inRange_demandOf e f (itemRaw_lt x))).events
      · exact hunmatched
    · exact (ContextEvent.radioCounts _ (by rfl)).events
    · exact (ContextEvent.writeBar _ s).events
    · exact hunmatched
  · exact hunmatched

theorem breakawayTest_events (before : State) (items : List RadioItem) (s : State) (f : Fn) :
    Events s (breakawayTest before items s f) := by
  unfold breakawayTest
  split
  · exact .refl
  next h hheld =>
    split
    · split
      · unfold numericBreakaway
        split
        · split
          · exact (ContextEvent.endGrant _ f s).events
          · exact (ContextEvent.breakaway _ hheld).events
        · exact (ContextEvent.breakaway 0 hheld).events
      · split
        · exact .refl
        · exact (ContextEvent.endGrant _ f s).events
    · exact .refl

theorem deliverFrame_events (items : List RadioItem) (s : State) : Events s (deliverFrame items s) :=
  (Events.foldl deliverItem_events items s).trans (Events.foldl (breakawayTest_events s items) Fn.all _)

theorem validFrame_events (f : RadioFrame) (s : State) : Events s (validFrame f s) := by
  have hcount : Events s (countFrame (frameSeq f) s) := (ContextEvent.radioCounts _ (by rfl)).events
  have hbelieved : ∀ t, Events t (if frameFailsafe f then t else deliverFrame f.items (makeLive .radio t)) := by
    intro t
    split
    · exact .refl
    · exact (ContextEvent.makeLive .radio t).events.trans (deliverFrame_events _ _)
  exact (hcount.trans (hbelieved _)).trans (Events.quiet (finishFrame_frame_scan f _) (by decide))

theorem receiveFrame_events (f : RadioFrame) (s : State) : Events s (receiveFrame f s) := by
  have hassembler : Events s (setAssembler .hunting s) := Events.quiet (setRadioPort_frame_only s _) (by decide)
  unfold receiveFrame
  split
  · exact .refl
  · dsimp only
    split
    · exact hassembler.trans (ContextEvent.radioCounts _ (by rfl)).events
    · split
      · exact hassembler.trans (validFrame_events f _)
      · exact hassembler.trans (ContextEvent.radioCounts _ (by rfl)).events

theorem byteGap_events (b : Byte) (s : State) : Events s (byteGap b s) := by
  unfold byteGap
  split
  · exact .refl
  · exact (Events.quiet (setRadioPort_frame_only s _) (by decide)).trans (ContextEvent.radioCounts _ (by rfl)).events

theorem lengthByte_events (l : Byte) (s : State) : Events s (lengthByte l s) := by
  unfold lengthByte
  split
  · exact (Events.quiet (setRadioPort_frame_only s _) (by decide)).trans (ContextEvent.radioCounts _ (by rfl)).events
  · exact .refl

theorem replyStarts_frame_only (s : State) : SameExcept [.radioPort] s (replyStarts s) := by
  unfold replyStarts
  split
  · exact setRadioPort_frame_only s _
  · exact .refl _ s
  · exact .refl _ s

theorem replyEnds_frame_only (s : State) : SameExcept [.radioPort] s (replyEnds s) := by
  unfold replyEnds
  split
  · exact setRadioPort_frame_only s _
  · exact .refl _ s
  · exact .refl _ s

/-! ### Commands of the Sense Unit -/

theorem currentsComplete_events (codes : CurrentCodes) (s : State) : Events s (currentsComplete codes s) := by
  have hsense : ∀ v, Events s (s.setSense v) := fun v => Events.quiet (setSense_frame_only s v) (by decide)
  have hwheels : ∀ r t, Events t (sampleWheels r t) := fun r t =>
    Events.foldl (fun u w => (WheelEvent.sampleWheel w _ u).events) _ t
  exact ((((hsense _).trans (hwheels _ _)).trans (WinchEvent.sampled _ _).events).trans
    (PackEvent.currentHanded _ _).events).trans (Events.quiet (lampsIfRest_frame _ _) (by decide))

theorem slotStarts_frame_only (s : State) : SameExcept [.sense] s (slotStarts s) := by
  unfold slotStarts
  split <;> exact setSense_frame_only s _

theorem cellsComplete_events (codes : Vector Code 6) (s : State) : Events s (cellsComplete codes s) :=
  (Events.quiet (setSense_frame_only s _) (by decide)).trans (PackEvent.cellsHanded _ _ _).events

theorem placeAnswer_frame (bytes : List Byte) (s : State) : SameExcept [.compPort] s (placeAnswer bytes s) :=
  setCompPort_frame_only s _

theorem answer_events (k : Kind) (payload : List Byte) (s : State) : Events s (answer k payload s) :=
  (Events.quiet (placeAnswer_frame _ s) (by decide)).trans (ContextEvent.compCounts _ (by rfl) (by rfl)).events

theorem addCause_events (c : Cause) (s : State) : Events s (addCause c s) := (ContextEvent.compCounts _ (by rfl) (by rfl)).events

theorem countRefused_events (c : Cause) (s : State) : Events s (countRefused c s) :=
  (ContextEvent.compCounts _ (by rfl) (by rfl)).events.trans (addCause_events c _)

theorem refuseByte_events (c : Cause) (kind : Byte) (s : State) : Events s (refuseByte c kind s) :=
  (Events.quiet (placeAnswer_frame _ s) (by decide)).trans (countRefused_events c _)

theorem answerLeads_events (n : Nat) (s : State) : Events s (answerLeads n s) := by
  unfold answerLeads
  split
  · exact (Events.quiet (setSense_frame_only s _) (by decide)).trans (answer_events _ _ _)
  · exact .refl

theorem raiseLeadOpen_frame_only (v : BitVec 7) (s : State) : SameExcept [.notices] s (raiseLeadOpen v s) := by
  unfold raiseLeadOpen
  split
  · exact raise_frame _ s
  · exact .refl _ s

theorem leadsComplete_events (codes : Vector LeadCodes 6) (s : State) : Events s (leadsComplete codes s) :=
  (((Events.quiet (setSense_frame_only s _) (by decide)).trans
    (Events.quiet (raiseLeadOpen_frame_only _ _) (by decide))).trans (PackEvent.openSetHanded _).events).trans
    (answerLeads_events _ _)

/-! ### Requests -/

theorem inRange_of_checkPairOf {s : State} {x : DemandPair} {f : Fn} (h : checkPairOf s x = .ok f) :
    InRange f (rangedValue f (pairValue x)) := by
  unfold checkPairOf at h
  split at h
  · cases h
  next g _ =>
    split at h
    · cases h
    · split at h
      · cases h
      next hrange =>
        cases h
        refine inRange_rangedValue ?_
        cases hnum : isNumeric f with
        | true => exact .inl rfl
        | false =>
          simp only [hnum, Bool.not_false, Bool.true_and, Bool.or_eq_true, decide_eq_true_eq, not_or, not_lt] at hrange
          exact .inr hrange

theorem takePair_events (r : PairRun) (x : DemandPair) : Events r.state (takePair r x).state := by
  unfold takePair
  split
  next f hchecks => exact (ContextEvent.writeSlot .companion _ (inRange_of_checkPairOf hchecks)).events
  · exact addCause_events _ _

theorem takePairs_events (pairs : List DemandPair) (s : State) : Events s (takePairs pairs s).state := by
  have h : ∀ (ps : List DemandPair) (r : PairRun), Events r.state (ps.foldl takePair r).state := by
    intro ps
    induction ps with
    | nil => intro r; exact .refl
    | cons x xs ih => intro r; exact (takePair_events r x).trans (ih _)
  exact h pairs ⟨s, []⟩

/-- A PROFILE_WRITE that passes its checks was made while the part was parked, with a body that its rule accepts (R172). -/
theorem checkWrite_ok {s : State} {sect : Byte} {body : List Byte} {k : Sect} {d : SectionData}
    (h : checkWrite s sect body = .ok (k, d)) : parked s = true ∧ checkBody k body = .ok d := by
  unfold checkWrite at h
  split at h
  · cases h
  next k' _ =>
    split at h
    · cases h
    · split at h
      · cases h
      next hparked =>
        cases hbody : checkBody k' body with
        | error c => rw [hbody] at h; cases h
        | ok d' =>
          rw [hbody] at h
          cases h
          exact ⟨by simpa using hparked, hbody⟩

theorem writeProfile_events (sect : Byte) (body : List Byte) (s : State) : Events s (writeProfile sect body s) := by
  unfold writeProfile
  split
  · exact refuseByte_events _ _ s
  next k d hchecks =>
    obtain ⟨hparked, hbody⟩ := checkWrite_ok hchecks
    exact (((Event.write (.accepted hparked hbody)).events.trans
      (Events.quiet (setStore_frame_only _ _) (by decide))).trans (Events.quiet (setCompPort_frame_only _ _) (by decide)))

theorem readProfile_events (sect : Byte) (scene : Option Byte) (s : State) : Events s (readProfile sect scene s) := by
  unfold readProfile
  split
  · exact answer_events _ _ s
  · exact refuseByte_events _ _ s

theorem runRequest_events (q : Request) {s : State} (hlive : s.comp.state = .live) : Events s (runRequest q s) := by
  have hrefuse : ∀ c k, Events s (refuse c k s) := fun c k => refuseByte_events c _ s
  cases q with
  | demand pairs =>
    simp only [runRequest, runDemand]
    split
    · exact hrefuse _ _
    · exact (takePairs_events pairs s).trans (answer_events _ _ _)
  | grant fn d =>
    simp only [runRequest, runGrant]
    split
    · exact hrefuse _ _
    next hchecks => exact (ContextEvent.beginGrant _ hchecks hlive).events.trans (answer_events _ _ _)
  | release fn =>
    simp only [runRequest, runRelease]
    split
    · exact hrefuse _ _
    · exact (ContextEvent.endGrant _ _ s).events.trans (answer_events _ _ _)
  | statusRead page =>
    simp only [runRequest, runStatus]
    split
    · exact answer_events _ _ s
    · exact hrefuse _ _
  | telemetryRead page =>
    simp only [runRequest, runTelemetry]
    split
    · exact answer_events _ _ s
    · exact hrefuse _ _
  | noticeTake => exact (Events.quiet (setNotices_frame_only s _) (by decide)).trans (answer_events _ _ _)
  | causeTake => exact (ContextEvent.compCounts _ (by rfl) (by rfl)).events.trans (answer_events _ _ _)
  | flagsSet flags => exact (ContextEvent.compCounts _ (by rfl) (by rfl)).events.trans (answer_events _ _ _)
  | profileWrite sect body => exact writeProfile_events sect body s
  | profileRead sect scene => exact readProfile_events sect scene s
  | patternWrite bank first steps =>
    simp only [runRequest, runPattern]
    split
    · exact hrefuse _ _
    · exact (Events.quiet (writePattern_frame _ _ _ s) (by decide)).trans (answer_events _ _ _)
  | bankSwitch => exact (Events.quiet (requestSwitch_frame s) (by decide)).trans (answer_events _ _ _)
  | winchZero =>
    simp only [runRequest, runWinchZero]
    split
    · exact hrefuse _ _
    · exact (WinchEvent.homeBraked s).events.trans (answer_events _ _ _)
  | checkLeads =>
    exact (Events.quiet (setSense_frame_only s _) (by decide)).trans (Events.quiet (setCompPort_frame_only _ _) (by decide))
  | restart =>
    simp only [runRequest, runRestart]
    split
    · exact (answer_events _ _ s).trans (Events.quiet (setCompPort_frame_only _ _) (by decide))
    · exact hrefuse _ _

theorem loadTimer_state (m : Master) (s : State) : ctxState (loadTimer m s) m = .live := by cases m <;> rfl

/-- A live-making event leaves its context LIVE (R3, R7). -/
theorem makeLive_companion_state (s : State) : (makeLive .companion s).comp.state = .live := by
  have hmarks : (clearMarks .companion (loadTimer .companion s)).comp.state = .live :=
    congrArg CompCtx.state (clearMarks_frame .companion (loadTimer .companion s) .comp (by decide))
  unfold makeLive
  split
  · rfl
  · unfold masterReturns
    dsimp only
    have hne : ¬(Master.companion = Master.radio) := by decide
    rw [if_neg hne]
    split
    · exact (congrArg CompCtx.state (presenceChanged_frame _ _ _ .comp (by decide))).trans hmarks
    · exact (congrArg CompCtx.state (resolveMarks_frame _ _ .comp (by decide))).trans hmarks

theorem takeRequest_events (kind : Byte) (r : Except Cause Request) (s : State) : Events s (takeRequest kind r s) := by
  unfold takeRequest
  split
  · unfold refuseBusy
    split
    · exact (ContextEvent.makeLive _ s).events.trans (countRefused_events _ _)
    · exact countRefused_events _ s
  · split
    · exact refuseByte_events _ _ s
    · exact (ContextEvent.makeLive _ s).events.trans (runRequest_events _ (makeLive_companion_state s))

/-! ### Transfers and resets -/

theorem takeClocked_events (mosi : List Byte) (s : State) : Events s (takeClocked mosi s) := by
  unfold takeClocked
  split
  · exact .refl
  · split
    · exact .refl
    · exact takeRequest_events _ _ s

theorem selRises_events (mosi : List Byte) (pins : Pins) (s : State) :
    Events s (selRises mosi pins s) ∨ ∃ r, selRises mosi pins s = startUp pins r := by
  have hend : ∀ b, Events s (endTransfer b s) := fun b => .quiet (setCompPort_frame_only s _) (by decide)
  unfold selRises
  dsimp only
  split
  · exact .inl (hend _)
  · split
    · exact .inr ⟨_, rfl⟩
    · exact .inl ((hend _).trans (takeClocked_events mosi _))

theorem storeCompletes_events (matched : Bool) (s : State) : Events s (storeCompletes matched s) := by
  unfold storeCompletes
  dsimp only
  split
  · exact .refl
  · exact ((Events.quiet (setStore_frame_only s _) (by decide)).trans (Events.quiet (raise_frame _ _) (by decide))).trans
      (answer_events _ _ _)

/-! ### Every command -/

/-- Every command answers next, after a chain of events or a start-up. -/
theorem exec_events (c : Instr) (s : State) :
    ∃ t, exec c s = .next t ∧ (Events s t ∨ ∃ pins r, t = startUp pins r) := by
  cases c with
  | radioFrame f => exact ⟨_, rfl, .inl (receiveFrame_events f s)⟩
  | interByteGap b => exact ⟨_, rfl, .inl (byteGap_events b s)⟩
  | badLengthByte b => exact ⟨_, rfl, .inl (lengthByte_events b s)⟩
  | replyDelayExpiry => exact ⟨_, rfl, .inl (Events.quiet (replyStarts_frame_only s) (by decide))⟩
  | replyEnd => exact ⟨_, rfl, .inl (Events.quiet (replyEnds_frame_only s) (by decide))⟩
  | silenceTimerExpiry m => exact ⟨_, rfl, .inl (ContextEvent.lapse m s).events⟩
  | companionTransfer mosi pins =>
    refine ⟨_, rfl, (selRises_events mosi pins s).imp_right ?_⟩
    exact fun ⟨r, hr⟩ => ⟨pins, r, hr⟩
  | selFall => exact ⟨_, rfl, .inl (Events.quiet (setCompPort_frame_only s _) (by decide))⟩
  | demand | grant | release | statusRead | telemetryRead | noticeTake | causeTake | flagsSet | profileWrite | profileRead
  | patternWrite | bankSwitch | winchZero | checkLeads | restart =>
    exact ⟨_, rfl, .inl (takeRequest_events _ _ s)⟩
  | storeComplete matched => exact ⟨_, rfl, .inl (storeCompletes_events matched s)⟩
  | powerOn pins => exact ⟨_, rfl, .inr ⟨pins, _, rfl⟩⟩
  | supplyDip pins => exact ⟨_, rfl, .inr ⟨pins, _, rfl⟩⟩
  | slotStale m f => exact ⟨_, rfl, .inl (ContextEvent.slotStale m f s).events⟩
  | grantExpiry f => exact ⟨_, rfl, .inl (ContextEvent.endGrant .expiry f s).events⟩
  | blendStep f => exact ⟨_, rfl, .inl (ContextEvent.blendStep f s).events⟩
  | steeringUpdate => exact ⟨_, rfl, .inl (Event.steering s).events⟩
  | hallEdge w micros => exact ⟨_, rfl, .inl (WheelEvent.hallEdge w micros s).events⟩
  | speedTimeout w => exact ⟨_, rfl, .inl (WheelEvent.speedExpires w s).events⟩
  | wheelUpdate w => exact ⟨_, rfl, .inl (WheelEvent.wheelUpdate w s).events⟩
  | tripRetryExpiry w => exact ⟨_, rfl, .inl (WheelEvent.retryExpires w s).events⟩
  | lockoutClearExpiry w => exact ⟨_, rfl, .inl (WheelEvent.lockoutClears w s).events⟩
  | stillTimerExpiry => exact ⟨_, rfl, .inl (WheelEvent.stillExpires s).events⟩
  | encoderEdge a b => exact ⟨_, rfl, .inl (WinchEvent.encoderEdge a b s).events⟩
  | hookClosing => exact ⟨_, rfl, .inl (WinchEvent.hookCloses s).events⟩
  | hookOpening => exact ⟨_, rfl, .inl (WinchEvent.hookOpens s).events⟩
  | winchUpdate => exact ⟨_, rfl, .inl (WinchEvent.winchUpdate s).events⟩
  | stallTimerExpiry => exact ⟨_, rfl, .inl (WinchEvent.stallExpires s).events⟩
  | stallClearExpiry => exact ⟨_, rfl, .inl (WinchEvent.stallClears s).events⟩
  | currentSweepStart => exact ⟨_, rfl, .inl (Events.quiet (setSense_frame_only s _) (by decide))⟩
  | currentSweepComplete codes => exact ⟨_, rfl, .inl (currentsComplete_events codes s)⟩
  | cellSweepSlotStart => exact ⟨_, rfl, .inl (Events.quiet (slotStarts_frame_only s) (by decide))⟩
  | cellSweepComplete codes => exact ⟨_, rfl, .inl (cellsComplete_events codes s)⟩
  | leadCheckComplete codes => exact ⟨_, rfl, .inl (leadsComplete_events codes s)⟩
  | cutoffDwellExpiry => exact ⟨_, rfl, .inl (PackEvent.dwellExpires s).events⟩
  | recoveryDwellExpiry => exact ⟨_, rfl, .inl (PackEvent.recoveryExpires s).events⟩
  | apportionment => exact ⟨_, rfl, .inl (Event.apportion s).events⟩
  | blinkToggle => exact ⟨_, rfl, .inl (Events.quiet (blinkExpires_frame s) (by decide))⟩
  | stepTimerExpiry => exact ⟨_, rfl, .inl (Events.quiet (stepExpires_frame s) (by decide))⟩

/-- A property that every event keeps and every start-up establishes is kept by every step. -/
theorem step_keeps {P : State → Prop} (hevent : ∀ s t, P s → Event s t → P t) (hstart : ∀ pins s, P (startUp pins s))
    {s t : State} (hs : P s) (hstep : step s = .next t) : P t := by
  have hexec : ∀ c u, P u → exec c u = .next t → P t := by
    intro c u hu h
    obtain ⟨v, hv, hevents | ⟨pins, r, rfl⟩⟩ := exec_events c u
    · cases h.symm.trans hv
      exact hevents.keep hevent hu
    · cases h.symm.trans hv
      exact hstart pins r
  unfold step at hstep
  split at hstep
  next c rest _ => exact hexec c _ (hevent _ _ hs (.quiet ((setPending_frame_only s rest).mono (by decide)))) hstep
  · unfold idleStep at hstep
    split at hstep
    next c _ => exact hexec c s hs hstep
    · cases hstep
      exact hevent _ _ hs (.tick s)

end Sys2Proof.Machine
end

section
/-! PROOFS. Properties that resolutions keep: what is kept by a resolution, a blend step, and the replacement of a slot, a
grant or a context is kept by every event of the contexts, the demand table and the resolver. -/
namespace Sys2Proof.Machine

/-- A property kept by the operations that the resolver and the demand table are built of. A slot's new value is one it had
or lies within the range of its function. -/
structure ResolverKept (P : State → Prop) : Prop where
  beside : ∀ {s t : State}, SameExcept [.radio, .comp, .lamps, .notices] s t → P s → P t
  slot : ∀ {s : State} (m : Master) (f : Fn) (x : Slot),
    (∀ v, x.value = some v → (slotOf s m f).value = some v ∨ InRange f v) → P s → P (setSlot s m f x)
  grant : ∀ {s : State} (f : Fn) (g : Grant), P s → P (setGrant s f g)
  resolve : ∀ {s : State} (f : Fn) (byMark : Bool), P s → P (resolve f byMark s)
  blendStep : ∀ {s : State} (f : Fn), P s → P (blendStep f s)

theorem foldl_keeps {σ α : Type} {P : σ → Prop} {g : σ → α → σ} (h : ∀ s a, P s → P (g s a)) :
    ∀ (xs : List α) (s : σ), P s → P (xs.foldl g s)
  | [], _, hs => hs
  | x :: xs, s, hs => foldl_keeps h xs (g s x) (h s x hs)

/-- A write leaves a slot with the value it had or the value written (R21, R23). -/
theorem writtenSlot_value (s : State) (f : Fn) (v : Int) (x : Slot) :
    (writtenSlot s f v x).value = x.value ∨ (writtenSlot s f v x).value = some v := by
  have hwaiting : ∀ keep, (writeWaiting keep v x).value = x.value ∨ (writeWaiting keep v x).value = some v := by
    intro keep
    unfold writeWaiting
    split
    · exact .inl rfl
    · split
      · exact .inl rfl
      · exact .inr rfl
  have hplain : (writePlain v x).value = x.value ∨ (writePlain v x).value = some v := by
    unfold writePlain
    split
    · exact .inl rfl
    · exact .inr rfl
  unfold writtenSlot
  dsimp only
  split
  · exact hwaiting _
  · exact hplain

namespace ResolverKept
variable {P : State → Prop} (hP : ResolverKept P)
include hP

theorem lamps {s t : State} (h : SameExcept [.lamps] s t) : P s → P t := hP.beside (h.mono (by decide))

theorem raise (k : Notice) {s : State} : P s → P (raise k s) := hP.beside ((raise_frame k s).mono (by decide))

theorem resolveList (fs : List Fn) (marks : Fn → Bool) {s : State} : P s → P (resolveList fs marks s) :=
  foldl_keeps (fun _ f => hP.resolve f (marks f)) fs s

theorem resolveAll {s : State} : P s → P (resolveAll s) := hP.resolveList _ _

theorem endGrant (why : EndReason) (f : Fn) {s : State} (hs : P s) : P (endGrant why f s) := by
  unfold Machine.endGrant
  split
  · exact hP.lamps (lampsIfHeld_frame _ _) (hP.resolve f false (hP.raise .grantEnded (hP.grant f _ hs)))
  · exact hs

theorem endGrants (why : EndReason) (which : Fn → Bool) {s : State} : P s → P (endGrants why which s) :=
  foldl_keeps (fun _ f => hP.endGrant why f) _ s

theorem beginGrant (f : Fn) (d : Nat) {s : State} (hs : P s) : P (beginGrant f d s) :=
  hP.lamps (lampsIfHeld_frame _ _) (hP.resolve f false (hP.grant f _ hs))

theorem presenceChanged (m : Master) (marks : Fn → Bool) {s : State} (hs : P s) : P (presenceChanged m marks s) := by
  unfold Machine.presenceChanged
  refine hP.resolveList _ _ ?_
  split
  · exact hs
  · cases m with
    | radio => exact hP.endGrants _ _ hs
    | companion => exact hP.endGrants _ _ hs

theorem writeSlot (m : Master) {f : Fn} {v : Int} (hrange : InRange f (rangedValue f v)) {s : State} (hs : P s) :
    P (writeSlot m f v s) := by
  have hset : P (setSlot s m f (writtenSlot s f (rangedValue f v) (slotOf s m f))) := by
    refine hP.slot m f _ (fun u hu => ?_) hs
    obtain hold | hnew := writtenSlot_value s f (rangedValue f v) (slotOf s m f)
    · exact .inl (hold ▸ hu)
    · cases hnew.symm.trans hu
      exact .inr hrange
  unfold Machine.writeSlot
  dsimp only
  split
  · exact hP.resolve f _ hset
  · exact hset

theorem slotStale (m : Master) (f : Fn) {s : State} (hs : P s) : P (slotStale m f s) := by
  unfold Machine.slotStale
  dsimp only
  split
  · refine hP.resolve f false ?_
    split
    · exact hP.endGrant .stale f (hP.slot m f _ (fun v hv => .inl hv) hs)
    · exact hP.slot m f _ (fun v hv => .inl hv) hs
  · exact hs

theorem staleByHold {s : State} (hs : P s) : P (staleByHold s) := by
  have hstep : ∀ m u f, P u → P (if (authOf u f).hold < (slotOf u m f).age then Machine.slotStale m f u else u) := by
    intro m u f hu
    split
    · exact hP.slotStale m f hu
    · exact hu
  exact foldl_keeps (hstep .companion) _ _ (foldl_keeps (hstep .radio) _ s hs)

theorem clearMark (m : Master) (f : Fn) {s : State} : P s → P (clearMark m f s) :=
  hP.slot m f _ (fun _ hv => .inl hv)

theorem clearMarks (m : Master) {s : State} (hs : P s) : P (clearMarks m s) :=
  hP.clearMark m .winch (hP.clearMark m .drive hs)

theorem resolveMarks (marks : Fn → Bool) {s : State} : P s → P (resolveMarks marks s) := hP.resolveList _ _

theorem loadTimer (m : Master) {s : State} : P s → P (loadTimer m s) := by
  cases m with
  | radio => exact hP.beside ((setRadio_frame_only s _).mono (by decide))
  | companion => exact hP.beside ((setComp_frame_only s _).mono (by decide))

theorem makeLive (m : Master) {s : State} (hs : P s) : P (makeLive m s) := by
  have hraised : ∀ t, P t → P (if m = .radio then Machine.raise .radioLive t else t) := by
    intro t ht
    split
    · exact hP.raise _ ht
    · exact ht
  have hhanded : ∀ marks u, P u →
      P (if present u m then Machine.presenceChanged m marks u else Machine.resolveMarks marks u) := by
    intro marks u hu
    split
    · exact hP.presenceChanged m _ hu
    · exact hP.resolveMarks _ hu
  unfold Machine.makeLive
  split
  · exact hP.loadTimer m hs
  · exact hhanded _ _ (hraised _ (hP.clearMarks m (hP.loadTimer m hs)))

theorem lapse (m : Master) {s : State} (hs : P s) : P (lapse m s) := by
  unfold Machine.lapse
  split
  · split
    · exact hP.presenceChanged _ _ (hP.raise _ (hP.beside ((setRadio_frame_only s _).mono (by decide)) hs))
    · exact hs
  · have hlapsed : ∀ v, P (s.setComp v) := fun v => hP.beside ((setComp_frame_only s v).mono (by decide)) hs
    split
    · dsimp only
      split
      · exact hlapsed _
      · exact hP.presenceChanged _ _ (hlapsed _)
    · exact hs

theorem writeBar (b : Bool) {s : State} (hs : P s) : P (writeBar b s) := by
  have hbarred : P (Machine.raise .barChanged (s.setComp { s.comp with barred := b })) :=
    hP.raise _ (hP.beside ((setComp_frame_only s _).mono (by decide)) hs)
  have hmarks : P (if b then Machine.raise .barChanged (s.setComp { s.comp with barred := b })
      else Machine.clearMarks .companion (Machine.raise .barChanged (s.setComp { s.comp with barred := b }))) := by
    split
    · exact hbarred
    · exact hP.clearMarks _ hbarred
  unfold Machine.writeBar
  split
  · exact hs
  · dsimp only
    split
    · exact hP.presenceChanged _ _ hmarks
    · exact hP.resolveMarks _ hmarks

theorem context {s t : State} (hs : P s) (h : ContextEvent s t) : P t := by
  cases h with
  | radioCounts v => exact hP.beside ((setRadio_frame_only s v).mono (by decide)) hs
  | compCounts v => exact hP.beside ((setComp_frame_only s v).mono (by decide)) hs
  | endGrant why f => exact hP.endGrant why f hs
  | beginGrant d => exact hP.beginGrant _ d hs
  | breakaway => exact hP.grant _ _ hs
  | blendStep f => exact hP.blendStep f hs
  | writeSlot m _ hrange => exact hP.writeSlot m hrange hs
  | slotStale m f => exact hP.slotStale m f hs
  | makeLive m => exact hP.makeLive m hs
  | lapse m => exact hP.lapse m hs
  | writeBar b => exact hP.writeBar b hs

/-! ### The lockout set and the writes that act in the resolver -/

theorem fillLockout (hlock : ∀ {s : State} (b : Bool), P s → P (s.setResolver { s.resolver with lockout := b })) {s : State}
    (hs : P s) : P (fillLockout s) :=
  hP.resolveList _ _ (hP.endGrants _ _ (hlock true hs))

theorem emptyLockout (hlock : ∀ {s : State} (b : Bool), P s → P (s.setResolver { s.resolver with lockout := b }))
    {s : State} (hs : P s) : P (emptyLockout s) := hP.resolveList _ _ (hlock false hs)

theorem sourcesActs (old : Sources) {s : State} (hs : P s) : P (sourcesActs old s) := by
  unfold Machine.sourcesActs
  split
  · exact hs
  · exact hP.resolveAll (hP.endGrants _ _ hs)

theorem authorityActs {s : State} (hs : P s) : P (authorityActs s) :=
  hP.resolveAll (hP.staleByHold (hP.endGrants _ _ hs))

theorem failsafeActs (old : PerFn (Option Int)) {s : State} (hs : P s) : P (failsafeActs old s) :=
  hP.resolveList _ _ hs

theorem cutoffDragHanded (old : Pack) {s : State} (hs : P s) : P (cutoffDragHanded old s) := by
  unfold Machine.cutoffDragHanded
  split
  · exact hP.resolve _ _ hs
  · exact hs

end ResolverKept

/-! ### Frames of the small operations of Pack Protection -/

/-- BLIND follows the open set, and a change of it recomputes the target (R131, R140). -/
def blindTaken (b : Bool) (s : State) : State :=
  if s.protection.blind = b then s.setProtection { s.protection with blind := b }
  else retarget (s.setProtection { s.protection with blind := b })

theorem openSetHanded_eq (s : State) : openSetHanded s = endPrecheck (blindTaken (s.sense.openSet != 0) s) := rfl

theorem setProtection_frame_only (s : State) (v : Protection) : SameExcept [.protection] s (s.setProtection v) := by
  intro b hb; cases b <;> first | exact (hb (by decide)).elim | rfl

theorem retarget_frame_only (s : State) : SameExcept [.protection] s (retarget s) := setProtection_frame_only s _

theorem recoveryTest_frame_only (s : State) : SameExcept [.protection] s (recoveryTest s) := by
  unfold recoveryTest
  split
  · exact setProtection_frame_only s _
  · exact .refl _ s

theorem recoveryDriveTest_frame_only (s : State) : SameExcept [.protection] s (recoveryDriveTest s) :=
  (setProtection_frame_only s _).trans (recoveryTest_frame_only _)

theorem recoveryCellTest_frame_only (s : State) : SameExcept [.protection] s (recoveryCellTest s) :=
  (setProtection_frame_only s _).trans (recoveryTest_frame_only _)

theorem recoveryCurrentTest_frame_only (s : State) : SameExcept [.protection] s (recoveryCurrentTest s) :=
  (setProtection_frame_only s _).trans (recoveryTest_frame_only _)

theorem setProtState_frame_only (st : ProtState) (s : State) :
    SameExcept [.protection, .lamps, .notices] s (setProtState st s) := by
  unfold setProtState
  split
  · exact .refl _ s
  · exact (((setProtection_frame_only s _).mono (by decide)).trans ((raise_frame _ _).mono (by decide))).trans
      ((lampResolve_frame _).mono (by decide))

theorem evaluateState_frame_only (s : State) : SameExcept [.protection, .lamps, .notices] s (evaluateState s) := by
  unfold evaluateState
  split
  · split
    · exact (setProtState_frame_only _ s).trans ((setProtection_frame_only _ _).mono (by decide))
    · exact .refl _ s
  · exact .refl _ s

theorem endPrecheck_frame_only (s : State) : SameExcept [.protection, .lamps, .notices] s (endPrecheck s) := by
  unfold endPrecheck
  split
  · split
    · exact ((setProtState_frame_only _ s).trans ((setProtection_frame_only _ _).mono (by decide))).trans
        ((retarget_frame_only _).mono (by decide))
    · exact .refl _ s
  · exact .refl _ s

theorem blindTaken_frame_only (b : Bool) (s : State) : SameExcept [.protection] s (blindTaken b s) := by
  unfold blindTaken
  split
  · exact setProtection_frame_only s _
  · exact (setProtection_frame_only s _).trans (retarget_frame_only _)

theorem openSetHanded_frame_only (s : State) : SameExcept [.protection, .lamps, .notices] s (openSetHanded s) := by
  rw [openSetHanded_eq]
  exact ((blindTaken_frame_only _ s).mono (by decide)).trans (endPrecheck_frame_only _)

theorem packCurrentHanded_frame_only (ip : Int) (s : State) : SameExcept [.protection] s (packCurrentHanded ip s) :=
  (setProtection_frame_only s _).trans (recoveryCurrentTest_frame_only _)

/-- A property that resolutions, the lockout flag and the operations of Pack Protection keep: of its record it reads the
allowance, the target and the BLIND mark alone. -/
structure PackKept (P : State → Prop) : Prop extends ResolverKept P where
  lockout : ∀ {s : State} (b : Bool), P s → P (s.setResolver { s.resolver with lockout := b })
  retained : ∀ {s : State} (r : Retained), P s → P (s.setRetained r)
  protection : ∀ {s : State} (p : Protection), p.allowance = s.protection.allowance → p.target = s.protection.target →
    p.blind = s.protection.blind → P s → P (s.setProtection p)
  retarget : ∀ {s : State}, P s → P (retarget s)
  blind : ∀ {s : State} (b : Bool), P s → P (blindTaken b s)

/-- A property that resolutions and the lockout flag keep, and that reads neither Pack Protection nor the latch. -/
theorem ResolverKept.packKept {P : State → Prop} {l : List Block} (hP : ResolverKept P) (hreads : Reads l P)
    (hl : .protection ∉ l ∧ .retained ∉ l)
    (hlock : ∀ {s : State} (b : Bool), P s → P (s.setResolver { s.resolver with lockout := b })) : PackKept P where
  toResolverKept := hP
  lockout := hlock
  retained r := hreads.keep (setRetained_frame_only _ r) fun _ hb heq => hl.2 (List.mem_singleton.mp heq ▸ hb)
  protection p _ _ _ := hreads.keep (setProtection_frame_only _ p) fun _ hb heq => hl.1 (List.mem_singleton.mp heq ▸ hb)
  retarget := hreads.keep (retarget_frame_only _) fun _ hb heq => hl.1 (List.mem_singleton.mp heq ▸ hb)
  blind b := hreads.keep (blindTaken_frame_only b _) fun _ hb heq => hl.1 (List.mem_singleton.mp heq ▸ hb)

namespace PackKept
variable {P : State → Prop} (hP : PackKept P)
include hP

theorem recoveryTest {s : State} (hs : P s) : P (recoveryTest s) := by
  unfold Machine.recoveryTest
  split
  · exact hP.protection _ rfl rfl rfl hs
  · exact hs

theorem recoveryDriveTest {s : State} (hs : P s) : P (recoveryDriveTest s) :=
  hP.recoveryTest (hP.protection _ rfl rfl rfl hs)

theorem recoveryCellTest {s : State} (hs : P s) : P (recoveryCellTest s) :=
  hP.recoveryTest (hP.protection _ rfl rfl rfl hs)

theorem setProtState (st : ProtState) {s : State} (hs : P s) : P (setProtState st s) := by
  unfold Machine.setProtState
  split
  · exact hs
  · exact hP.lamps (lampResolve_frame _) (hP.raise _ (hP.protection _ rfl rfl rfl hs))

theorem evaluateState {s : State} (hs : P s) : P (evaluateState s) := by
  unfold Machine.evaluateState
  split
  · split
    · exact hP.protection _ rfl rfl rfl (hP.setProtState _ hs)
    · exact hs
  · exact hs

theorem endPrecheck {s : State} (hs : P s) : P (endPrecheck s) := by
  unfold Machine.endPrecheck
  split
  · split
    · exact hP.retarget (hP.protection _ rfl rfl rfl (hP.setProtState _ hs))
    · exact hs
  · exact hs

theorem ends {s : State} (hs : P s) : P (lampResolve (Machine.raise .packState (Machine.retarget s))) :=
  hP.lamps (lampResolve_frame _) (hP.raise _ (hP.retarget hs))

theorem enterCutoff (why : LatchReason) {s : State} (hs : P s) : P (enterCutoff why s) :=
  hP.recoveryDriveTest (hP.ends (hP.fillLockout hP.lockout (hP.protection _ rfl rfl rfl (hP.retained _ hs))))

theorem leaveCutoff {s : State} (hs : P s) : P (leaveCutoff s) :=
  hP.ends (hP.emptyLockout hP.lockout (hP.protection _ rfl rfl rfl (hP.retained _ hs)))

theorem dwellExpires {s : State} (hs : P s) : P (dwellExpires s) := by
  unfold Machine.dwellExpires
  split
  · exact hP.enterCutoff _ hs
  · exact hs

theorem recoveryExpires {s : State} (hs : P s) : P (recoveryExpires s) := by
  unfold Machine.recoveryExpires
  split
  · exact hP.leaveCutoff hs
  · exact hs

theorem nopackHanded {s : State} (hs : P s) : P (nopackHanded s) := by
  unfold Machine.nopackHanded
  split
  · exact hP.protection _ rfl rfl rfl (hP.retained _ hs)
  · exact hP.enterCutoff _ hs

theorem cellsHanded (n : Nat) (nopack : Bool) {s : State} (hs : P s) : P (cellsHanded n nopack s) := by
  have hmin : P (takeMinimum n (takeThresholds s)) :=
    hP.protection _ rfl rfl rfl (hP.protection _ rfl rfl rfl hs)
  have hjudged : P (if nopack then Machine.nopackHanded (takeMinimum n (takeThresholds s))
      else takeMinimum n (takeThresholds s)) := by
    split
    · exact hP.nopackHanded hmin
    · exact hmin
  exact hP.recoveryCellTest (hP.retarget (hP.evaluateState hjudged))

theorem pack {s t : State} (hs : P s) (h : PackEvent s t) : P t := by
  cases h with
  | currentHanded ip => exact hP.recoveryTest (hP.protection _ rfl rfl rfl (hP.protection _ rfl rfl rfl hs))
  | cellsHanded n nopack => exact hP.cellsHanded n nopack hs
  | openSetHanded => exact hP.endPrecheck (hP.blind _ hs)
  | dwellExpires => exact hP.dwellExpires hs
  | recoveryExpires => exact hP.recoveryExpires hs

theorem dwellsByTime {s : State} (hs : P s) : P (dwellsByTime s) := by
  unfold Machine.dwellsByTime
  split
  · split
    · exact hP.dwellExpires hs
    · exact hs
  · split
    · exact hP.recoveryExpires hs
    · exact hs
  · exact hs

theorem packActs (hsense : ∀ {s : State} (v : Sense), P s → P (s.setSense v)) (old : Pack) {s : State} (hs : P s) :
    P (packActs old s) := by
  unfold Machine.packActs
  dsimp only
  refine hP.dwellsByTime (hP.retarget (hP.cutoffDragHanded old ?_))
  split
  · exact hsense _ hs
  · exact hP.recoveryCellTest (hsense _ hs)

end PackKept

end Sys2Proof.Machine
end

section
/-! PROOFS. What the checks of a section promise of its contents, and that the live sections keep it through every write and
every start-up. -/
namespace Sys2Proof.Machine

theorem clampN_bounds {lo hi : Nat} (h : lo ≤ hi) (n : Nat) : lo ≤ clampN lo hi n ∧ clampN lo hi n ≤ hi := by
  unfold clampN
  omega

/-- FAILSAFE contents lie within their functions' ranges. -/
def ContentsInRange (v : PerFn (Option Int)) : Prop := ∀ f z, v.get f = some z → InRange f z

/-- What the structural checks and clamps of FAILSAFE, WINCH and PACK promise (R30, R116, R145). -/
def SoundData : SectionData → Prop
  | .failsafe v => ContentsInRange v
  | .winch v => 0 < limitCount v
  | .pack v => v.cutoffDrag ≤ 1000 ∧ v.servoReserve ≤ v.amax
  | _ => True

theorem contentsInRange_of_check {bs : List Byte} {v : PerFn (Option Int)} (h : checkFailsafe bs = .ok v) :
    ContentsInRange v := by
  unfold checkFailsafe at h
  split at h
  next hok =>
    cases h
    intro f z hz
    have hf : contentOk f bs = true := List.all_eq_true.mp hok f (Fn.mem_all f)
    rw [PerFn.get_of] at hz
    unfold readContent at hz
    cases hnum : isNumeric f with
    | true =>
      rw [if_pos hnum] at hz
      dsimp only at hz
      split at hz
      · cases hz
      · cases hz
        exact clampI_inRange (fnLow_le_fnHigh f) _
    | false =>
      rw [if_neg (by simp [hnum])] at hz
      dsimp only at hz
      split at hz
      · cases hz
      next hbyte =>
        cases hz
        simp only [contentOk, hnum, Bool.false_or, Bool.or_eq_true, beq_iff_eq, decide_eq_true_eq] at hf
        have hlow : fnLow f = 0 := by cases f <;> first | rfl | cases hnum
        exact ⟨by omega, hf.resolve_left hbyte⟩
  · cases h

theorem limitCount_pos_of_check {bs : List Byte} {v : WinchSection} (h : checkWinch bs = .ok v) : 0 < limitCount v := by
  unfold checkWinch at h
  split at h
  · cases h
    have hedges := (clampN_bounds (lo := 16) (hi := 10000) (by decide) (u16 bs 0)).1
    have hpayout := (clampN_bounds (lo := 100) (hi := 10000) (by decide) (u16 bs 2)).1
    have hprod := Nat.mul_le_mul hpayout hedges
    simp only [limitCount]
    omega
  · cases h

theorem soundPack_of_check {bs : List Byte} {v : Pack} (h : checkPack bs = .ok v) :
    v.cutoffDrag ≤ 1000 ∧ v.servoReserve ≤ v.amax := by
  unfold checkPack at h
  dsimp only at h
  split at h
  · cases h
  · split at h
    next hrise =>
      cases h
      exact ⟨(clampN_bounds (by decide) _).2, hrise.2.2.2.le⟩
    · cases h

theorem checkBody_sound {k : Sect} {body : List Byte} {d : SectionData} (h : checkBody k body = .ok d) : SoundData d := by
  cases k <;> simp only [checkBody, Except.map] at h
  case failsafe =>
    cases hc : checkFailsafe body with
    | error c => rw [hc] at h; cases h
    | ok v => rw [hc] at h; cases h; exact contentsInRange_of_check hc
  case winch =>
    cases hc : checkWinch body with
    | error c => rw [hc] at h; cases h
    | ok v => rw [hc] at h; cases h; exact limitCount_pos_of_check hc
  case pack =>
    cases hc : checkPack body with
    | error c => rw [hc] at h; cases h
    | ok v => rw [hc] at h; cases h; exact soundPack_of_check hc
  case scenes => cases h; trivial
  all_goals
    split at h
    · cases h
    · cases h; trivial

/-- What the checks promise of the three sections, in the live copies. -/
structure SoundProfile (p : Profile) : Prop where
  contents : ContentsInRange p.failsafe
  limit : 0 < limitCount p.winch
  drag : p.pack.cutoffDrag ≤ 1000
  reserve : p.pack.servoReserve ≤ p.pack.amax

theorem soundProfile_default : SoundProfile defaultProfile where
  contents := by intro f z hz; cases f <;> cases hz <;> exact ⟨by decide, by decide⟩
  limit := by decide
  drag := by decide
  reserve := by decide

theorem SoundProfile.write {p : Profile} (h : SoundProfile p) {d : SectionData} (hd : SoundData d) :
    SoundProfile (p.write d) := by
  obtain ⟨hcontents, hlimit, hdrag, hreserve⟩ := h
  cases d with
  | failsafe v => exact ⟨hd, hlimit, hdrag, hreserve⟩
  | winch v => exact ⟨hcontents, hd, hdrag, hreserve⟩
  | pack v => exact ⟨hcontents, hlimit, hd.1, hd.2⟩
  | _ => exact ⟨hcontents, hlimit, hdrag, hreserve⟩

theorem SoundProfile.load {k : Sect} {c : FlashCopy} {p q : Profile} (h : SoundProfile p) (hload : loadCopy k c p = some q) :
    SoundProfile q := by
  unfold loadCopy at hload
  split at hload
  · split at hload
    · unfold loadBody at hload
      split at hload
      · cases hload
        exact ⟨h.contents, h.limit, h.drag, h.reserve⟩
      · split at hload
        next d hd =>
          cases hload
          exact h.write (checkBody_sound hd)
        · cases hload
    · cases hload
  · cases hload

/-- Start-up loads sound sections (R176). -/
theorem soundProfile_loadAll (flash : Vector FlashCopy 11) : SoundProfile (loadAll flash).profile := by
  refine foldl_keeps (P := fun l : Loaded => SoundProfile l.profile) (fun l k hl => ?_) _ _ soundProfile_default
  unfold loadSection
  split
  next hload => exact hl.load hload
  · exact hl

theorem startUp_profile (pins : Pins) (s : State) :
    (startUp pins s).profile = (loadAll (flashAfterReset s.store)).profile :=
  startUp_frame pins s .profile (by decide)

theorem soundProfile_startUp (pins : Pins) (s : State) : SoundProfile (startUp pins s).profile := by
  rw [startUp_profile]
  exact soundProfile_loadAll _

/-! ### Frames of the events that acceptance and the steering update use -/

theorem busyClamp_frame_only (s : State) : SameExcept [.drive] s (busyClamp s) := mapChans_frame s _

theorem geometryActs_frame_only (s : State) : SameExcept [.drive] s (geometryActs s) := by
  unfold geometryActs
  split
  · exact busyClamp_frame_only s
  · exact .refl _ s

/-- A DRIVE write beside its recovery test: the wheel channels and the winch (R98). -/
theorem driveActs_frame_from_test (old : DriveSection) (s : State) :
    SameExcept [.drive, .winch, .lamps, .notices] (recoveryDriveTest s) (driveActs old s) := by
  have hwinch : ∀ (p : Prop) [Decidable p] (t : State),
      SameExcept [.drive, .winch, .lamps, .notices] t (if p then t else winchActs t) := by
    intro p _ t
    split
    · exact .refl _ t
    · exact (winchActs_frame t).mono (by decide)
  exact ((((mapChans_frame _ _).mono (by decide)).trans (hwinch _ _)).trans ((rangeHanded_frame _).mono (by decide))).trans
    ((mapChans_frame _ _).mono (by decide))

theorem driveActs_keeps {P : State → Prop} {l : List Block} (htest : ∀ s, P s → P (recoveryDriveTest s))
    (hreads : Reads l P) (hl : ∀ b ∈ l, b ∉ [Block.drive, .winch, .lamps, .notices]) (old : DriveSection) {s : State}
    (hs : P s) : P (driveActs old s) :=
  hreads.keep (driveActs_frame_from_test old s) hl (htest s hs)

theorem startRecovery_keeps {P : State → Prop} (htest : ∀ s, P s → P (recoveryDriveTest s)) {s : State}
    (hs : P s) : P (startRecovery s) := by
  unfold startRecovery
  split
  · exact htest s hs
  · exact hs

theorem sceneActs_frame (i : Fin 16) (s : State) : SameExcept [.lamps] s (sceneActs i s) := by
  unfold sceneActs
  split
  · exact sceneHanded_frame s
  · exact .refl _ s

theorem cutoffDragHanded_frame (old : Pack) (s : State) : SameExcept resolveTouches s (cutoffDragHanded old s) := by
  unfold cutoffDragHanded
  split
  · exact resolve_frame _ _ s
  · exact .refl _ s

theorem targetStage_frame_only (s : State) : SameExcept [.steering] s (targetStage s) := setSteering_frame_only s _

theorem outputStage_frame_only (s : State) : SameExcept [.steering] s (outputStage s) := setSteering_frame_only s _

theorem beginFrame_frame_only (s : State) : SameExcept [.steering] s (beginFrame s) := setSteering_frame_only s _

theorem rearStage_cases {P : State → Prop} {s : State} (hsettled : ∀ v, P (settleMode (s.setSteering v)))
    (hset : ∀ v, P (s.setSteering v)) : P (rearStage s) := by
  have h : ∀ (p : Prop) [Decidable p] v, P (if p then settleMode (s.setSteering v) else s.setSteering v) := by
    intro p _ v
    split
    · exact hsettled v
    · exact hset v
  exact h _ _

section
variable {P : State → Prop} (hP : ResolverKept P) (hsteer : ∀ {s t : State}, SameExcept [.steering] s t → P s → P t)
  (hclamp : ∀ {s : State}, P s → P (busyClamp s))
include hP hsteer hclamp

theorem ResolverKept.steeringUpdate {s : State} (hs : P s) : P (steeringUpdate s) := by
  have hspeed : ∀ u, P u → P (speedTest u) := by
    intro u hu
    unfold speedTest
    split
    · split
      · exact hclamp (hsteer (setSteering_frame_only _ _) hu)
      · exact hu
    · exact hu
  have hrear : ∀ u, P u → P (rearStage u) := by
    intro u hu
    have hset : ∀ v, P (u.setSteering v) := fun v => hsteer (setSteering_frame_only u v) hu
    have hsettled : ∀ v, P (settleMode (u.setSteering v)) := fun v =>
      hP.resolve _ _ (hP.raise _ (hsteer (setSteering_frame_only _ _) (hset v)))
    exact rearStage_cases hsettled hset
  exact hsteer (outputStage_frame_only _)
    (hrear _ (hsteer (targetStage_frame_only _) (hspeed _ (hsteer (beginFrame_frame_only s) hs))))

end

end Sys2Proof.Machine
end

section
/-! PROOFS. Every value stays within its function's range. -/
namespace Sys2Proof.Machine

theorem reads_ranged : Reads [.resolver, .slots, .profile] Ranged := by
  intro s t hsame hs
  have hres : t.resolver = s.resolver := hsame .resolver (by decide)
  have hslots : t.slots = s.slots := hsame .slots (by decide)
  have hprofile : t.profile = s.profile := hsame .profile (by decide)
  refine ⟨fun f => ?_, fun m f v hv => ?_, ?_, ?_⟩
  · have heff := hs.eff f
    rwa [effOf, ← hres] at heff
  · have hslot : slotOf t m f = slotOf s m f := by simp only [slotOf, hslots]
    exact hs.slots m f v (hslot ▸ hv)
  · rw [hprofile]; exact hs.failsafe
  · rw [hprofile]; exact hs.cutoffDrag

/-! ### Resolution stays in range -/

theorem slotValue_inRange {s : State} (hs : Ranged s) (m : Master) (f : Fn) : InRange f (slotValue s m f) := by
  unfold slotValue
  cases hv : (slotOf s m f).value with
  | none => exact inRange_zero f
  | some v => exact hs.slots m f v hv

theorem decidedValue_inRange {s : State} (hs : Ranged s) (m : Master) (f : Fn) : InRange f (decidedValue s m f) := by
  unfold decidedValue
  split
  next htrim =>
    have hrange : fnLow f = -1000 ∧ fnHigh f = 1000 := by cases f <;> first | decide | cases htrim
    rw [InRange, hrange.1, hrange.2]
    exact clampI_inRange (by decide) _
  · exact slotValue_inRange hs m f

theorem decision_inRange {s : State} (hs : Ranged s) {f : Fn} {v : Int} (h : (decision s f).value = some v) :
    InRange f v := by
  unfold decision at h
  split at h
  · cases h
    exact slotValue_inRange hs _ f
  · split at h
    · cases h
      exact decidedValue_inRange hs _ f
    · split at h
      · cases h
        exact decidedValue_inRange hs _ f
      · exact hs.failsafe f v h

theorem resolvedValue_inRange {s : State} (hs : Ranged s) {f : Fn} {z : Int} (hz : InRange f z) :
    InRange f ((decision s f).value.getD z) := by
  cases hv : (decision s f).value with
  | none => exact hz
  | some v => exact decision_inRange hs hv

theorem lockValue_inRange {s : State} (hs : Ranged s) (f : Fn) : InRange f (lockValue s f) := by
  unfold lockValue
  split
  next hf =>
    rw [hf]
    exact ⟨Int.natCast_nonneg _, Int.ofNat_le.mpr hs.cutoffDrag⟩
  · exact inRange_zero f

theorem effInRange_of_blend {f : Fn} {old e : Eff} (hold : EffInRange f old) (hvalue : InRange f e.value)
    (htarget : InRange f e.target) (hunder : InRange f e.underlying)
    (hblend : ∀ b, e.blend = some b → b.start = old.value ∨ old.blend = some b) : EffInRange f e := by
  refine ⟨hvalue, htarget, hunder, fun b hb => ?_⟩
  obtain hnew | hgoes := hblend b hb
  · rw [hnew]; exact hold.1
  · exact hold.2.2.2 b hgoes

/-- A blended entry starts from the value as it stood, goes on with the blend that ran, or takes the resolved value. -/
theorem blendEntry_inRange {f : Fn} {old : Eff} (hold : EffInRange f old) (d : Decision) {r : Int} (hr : InRange f r)
    (handover : Nat) (byMark : Bool) : EffInRange f (blendEntry old d r handover byMark) := by
  have hplain : EffInRange f ⟨r, d.level, d.source, none, r, r⟩ := ⟨hr, hr, hr, by simp⟩
  have hstart : ∀ h n, EffInRange f ⟨old.value, d.level, d.source, some ⟨old.value, 0, h, n⟩, r, r⟩ := fun h n =>
    effInRange_of_blend hold hold.1 hr hr (fun b hb => by cases hb; exact .inl rfl)
  unfold blendEntry
  dsimp only
  split
  next b hb =>
    split
    · exact hplain
    · split
      · split
        · exact hplain
        · exact hstart _ _
      · exact effInRange_of_blend hold hold.1 hr hr (fun b' hb' => by cases hb'; exact .inr hb)
  · split
    · exact hstart _ _
    · exact hplain

theorem entryFrom_inRange {s : State} (hs : Ranged s) {f : Fn} {old : Eff} (hold : EffInRange f old) (byMark : Bool) :
    EffInRange f (entryFrom s f old byMark) := by
  have hlock := lockValue_inRange hs f
  have hr := resolvedValue_inRange hs hold.1
  unfold entryFrom
  dsimp only
  split
  · exact ⟨hlock, hlock, resolvedValue_inRange hs hold.2.2.1, by simp⟩
  · split
    · exact blendEntry_inRange hold _ hr _ _
    · exact ⟨hr, hr, hr, by simp⟩

/-- A value on the line from a start to a target lies between them (R49). -/
theorem blendValue_between (a b : Int) {elapsed time : Nat} (h : elapsed < time) :
    min a b ≤ blendValue a b elapsed time ∧ blendValue a b elapsed time ≤ max a b := by
  have htime : (0 : Int) < time := by omega
  unfold blendValue
  obtain hle | hlt := le_total a b
  · have hnonneg : 0 ≤ (b - a) * (elapsed : Int) := Int.mul_nonneg (by omega) (by omega)
    have hbound : (b - a) * (elapsed : Int) ≤ (b - a) * time := Int.mul_le_mul_of_nonneg_left (by omega) (by omega)
    have hlow := Int.tdiv_nonneg hnonneg htime.le
    have hhigh := Int.tdiv_le_tdiv htime hbound
    rw [Int.mul_tdiv_cancel _ htime.ne'] at hhigh
    omega
  · have hnonneg : 0 ≤ (a - b) * (elapsed : Int) := Int.mul_nonneg (by omega) (by omega)
    have hbound : (a - b) * (elapsed : Int) ≤ (a - b) * time := Int.mul_le_mul_of_nonneg_left (by omega) (by omega)
    have hlow := Int.tdiv_nonneg hnonneg htime.le
    have hhigh := Int.tdiv_le_tdiv htime hbound
    rw [Int.mul_tdiv_cancel _ htime.ne'] at hhigh
    have hneg : (b - a) * (elapsed : Int) = -((a - b) * elapsed) := by ring
    rw [hneg, Int.neg_tdiv]
    omega

theorem steppedEntry_inRange {f : Fn} {e : Eff} (he : EffInRange f e) : EffInRange f (steppedEntry e) := by
  obtain ⟨hvalue, htarget, hunder, hstart⟩ := he
  unfold steppedEntry
  split
  next b hb =>
    split
    · exact ⟨hvalue, htarget, hunder, hstart⟩
    · split
      next hshort =>
        obtain ⟨hlow, hhigh⟩ := blendValue_between b.start e.target hshort
        have hb := hstart b hb
        refine ⟨?_, htarget, hunder, hstart⟩
        unfold InRange at *
        dsimp only
        omega
      · exact ⟨htarget, htarget, hunder, by simp⟩
  · exact ⟨hvalue, htarget, hunder, hstart⟩

/-! ### The operations keep the ranges -/

theorem Ranged.setEff {s : State} (hs : Ranged s) {f : Fn} {e : Eff} (he : EffInRange f e) : Ranged (setEff s f e) := by
  refine ⟨fun g => ?_, hs.slots, hs.failsafe, hs.cutoffDrag⟩
  by_cases hg : g = f
  · rw [hg, effOf_setEff_same]; exact he
  · rw [effOf_setEff_ne _ hg]; exact hs.eff g

theorem Ranged.setSlot {s : State} (hs : Ranged s) (m : Master) (f : Fn) (x : Slot)
    (hx : ∀ v, x.value = some v → (slotOf s m f).value = some v ∨ InRange f v) : Ranged (setSlot s m f x) := by
  have hframe : SameExcept [.slots] s (Machine.setSlot s m f x) := setSlot_frame s m f x
  have hprofile : (Machine.setSlot s m f x).profile = s.profile := hframe .profile (by decide)
  refine ⟨fun g => ?_, fun m' g v hv => ?_, ?_, ?_⟩
  · rw [hframe.effOf (by decide)]; exact hs.eff g
  · rw [slotOf_setSlot] at hv
    split at hv
    next h =>
      obtain hold | hin := hx v hv
      · rw [h.2]; exact hs.slots m f v hold
      · rw [h.2]; exact hin
    · exact hs.slots m' g v hv
  · rw [hprofile]; exact hs.failsafe
  · rw [hprofile]; exact hs.cutoffDrag

theorem Ranged.takeSlots {s : State} (hs : Ranged s) (f : Fn) : Ranged (takeSlots f s) := by
  refine Ranged.setSlot (Ranged.setSlot hs .radio f _ fun v hv => .inl (by simpa using hv)) .companion f _ fun v hv => ?_
  rw [slotOf_setSlot_of_master_ne _ (by decide)]
  exact .inl (by simpa using hv)

theorem Ranged.commitEff {s : State} (hs : Ranged s) {f : Fn} {e : Eff} (he : EffInRange f e) :
    Ranged (commitEff f e s) := by
  have hframe : SameExcept commitTouches s (Machine.commitEff f e s) := commitEff_frame f e s
  refine reads_ranged (Machine.setEff s f e) _ (fun b hb => ?_) (hs.setEff he)
  simp only [List.mem_cons, List.not_mem_nil, or_false] at hb
  obtain rfl | rfl | rfl := hb
  · exact commitEff_resolver f e s
  · exact commitEff_slots f e s
  · exact hframe .profile (by decide)

theorem Ranged.resolve {s : State} (hs : Ranged s) (f : Fn) (byMark : Bool) : Ranged (resolve f byMark s) := by
  cases hbusy : consumerBusy s f with
  | true => rw [resolve_of_busy hbusy]; exact hs
  | false =>
    rw [resolve_of_free hbusy]
    exact (hs.takeSlots f).commitEff (entryFrom_inRange hs (hs.eff f) byMark)

theorem Ranged.blendStep {s : State} (hs : Ranged s) (f : Fn) : Ranged (blendStep f s) := by
  unfold Machine.blendStep
  split
  · exact hs
  next b hb =>
    obtain ⟨hvalue, htarget, hunder, hstart⟩ := hs.eff f
    have hadvanced : EffInRange f
        { effOf s f with blend := some { b with elapsed := b.elapsed + 10, next := Config.blendPeriod } } :=
      ⟨hvalue, htarget, hunder, fun b' hb' => by cases hb'; exact hstart b hb⟩
    have htaken := (hs.setEff hadvanced).takeSlots f
    exact htaken.commitEff (steppedEntry_inRange (entryFrom_inRange htaken (htaken.eff f) false))

theorem packKept_ranged : PackKept Ranged := by
  have hresolver : ResolverKept Ranged := {
    beside := fun h => reads_ranged.keep h (by decide)
    slot := fun m f x hx hs => hs.setSlot m f x hx
    grant := fun f g hs => ⟨fun f' => by simpa using hs.eff f', hs.slots, hs.failsafe, hs.cutoffDrag⟩
    resolve := fun f byMark hs => hs.resolve f byMark
    blendStep := fun f hs => hs.blendStep f }
  exact hresolver.packKept reads_ranged (by decide) fun _ hs => ⟨hs.eff, hs.slots, hs.failsafe, hs.cutoffDrag⟩

/-! ### Every step -/

theorem Ranged.writeLive {s : State} (hs : Ranged s) {d : SectionData} (hd : SoundData d) : Ranged (writeLive d s) := by
  obtain ⟨heff, hslots, hfail, hdrag⟩ := hs
  cases d with
  | failsafe v => exact ⟨heff, hslots, hd, hdrag⟩
  | pack v => exact ⟨heff, hslots, hfail, hd.1⟩
  | _ => exact ⟨heff, hslots, hfail, hdrag⟩

theorem Ranged.sectionActs {s : State} (hs : Ranged s) (old : Profile) (d : SectionData) :
    Ranged (sectionActs old d s) := by
  cases d with
  | sources v => exact packKept_ranged.sourcesActs _ hs
  | map v => exact hs
  | authority v => exact packKept_ranged.authorityActs hs
  | failsafe v => exact packKept_ranged.failsafeActs _ hs
  | geometry v => exact reads_ranged.keep (geometryActs_frame_only s) (by decide) hs
  | drive v => exact driveActs_keeps (P := Ranged) (fun _ => packKept_ranged.recoveryDriveTest) reads_ranged (by decide) _ hs
  | winch v => exact reads_ranged.keep (winchActsOn_frame _ s) (by decide) hs
  | pack v => exact packKept_ranged.packActs (fun v => reads_ranged.keep (setSense_frame_only _ v) (by decide)) _ hs
  | lamps v => exact reads_ranged.keep (lampResolve_frame s) (by decide) hs
  | scene i v => exact reads_ranged.keep (sceneActs_frame i s) (by decide) hs
  | reply v => exact hs

theorem Ranged.tick {s : State} (hs : Ranged s) : Ranged (tick s) := by
  refine ⟨fun f => ?_, fun m f v hv => ?_, hs.failsafe, hs.cutoffDrag⟩
  · have heff : effOf (Machine.tick s) f = tickEff (effOf s f) := PerFn.get_of _ f
    obtain ⟨hvalue, htarget, hunder, hstart⟩ := hs.eff f
    rw [heff]
    refine ⟨hvalue, htarget, hunder, fun b hb => ?_⟩
    obtain ⟨b', hb', rfl⟩ := Option.map_eq_some_iff.mp hb
    exact hstart b' hb'
  · have hslot : slotOf (Machine.tick s) m f = tickSlot (slotOf s m f) := by cases m <;> exact PerFn.get_of _ f
    rw [hslot] at hv
    unfold tickSlot at hv
    split at hv
    · exact hs.slots m f v hv
    · exact hs.slots m f v hv

theorem Ranged.event {s t : State} (hs : Ranged s) (h : Event s t) : Ranged t := by
  cases h with
  | quiet h => exact reads_ranged.keep h (by decide) hs
  | context h => exact packKept_ranged.context hs h
  | wheel h => exact reads_ranged.keep h.frame (by decide) hs
  | winch h => exact reads_ranged.keep h.frame (by decide) hs
  | pack h => exact packKept_ranged.pack hs h
  | write h =>
    cases h with
    | accepted _ hbody => exact (hs.writeLive (checkBody_sound hbody)).sectionActs _ _
  | steering =>
    exact packKept_ranged.toResolverKept.steeringUpdate (fun h => reads_ranged.keep h (by decide))
      (reads_ranged.keep (busyClamp_frame_only _) (by decide)) hs
  | apportion => exact reads_ranged.keep (apportion_frame_only s) (by decide) hs
  | tick => exact hs.tick

theorem ranged_startUp (pins : Pins) (s : State) : Ranged (startUp pins s) := by
  have hbase : ∀ r flash p pending, SoundProfile p → Ranged (resetBase r flash p pins pending) := by
    intro r flash p pending hp
    refine ⟨fun f => ?_, fun m f v hv => ?_, hp.contents, hp.drag⟩
    · have heff : effOf (resetBase r flash p pins pending) f = Eff.reset f := PerFn.get_of _ f
      rw [heff]
      have hvalue : InRange f (holdDefault f) := by cases f <;> exact ⟨by decide, by decide⟩
      exact ⟨hvalue, hvalue, hvalue, by simp [Eff.reset]⟩
    · have hslot : slotOf (resetBase r flash p pins pending) m f = Slot.reset := by cases m <;> exact PerFn.get_of _ f
      rw [hslot] at hv
      cases hv
  have hnotices := reads_ranged.keep (startNotices_frame (loadAll (flashAfterReset s.store)).defaulted _) (by decide)
    (hbase (settleReset s.retained) (flashAfterReset s.store) _ s.pending (soundProfile_loadAll (flashAfterReset s.store)))
  have hfirst : ∀ u, Ranged u → Ranged (firstResolution u) := fun u hu =>
    foldl_keeps (fun v f hv => hv.setEff (entryFrom_inRange hv (hv.eff f) false)) _ u hu
  have houtputs := reads_ranged.keep (startOutputs_frame pins _) (by decide) (hfirst _ hnotices)
  exact startRecovery_keeps (P := Ranged) (fun _ => packKept_ranged.recoveryDriveTest) houtputs

/-- Settles O7. -/
theorem valuesStayInRange : Obligations.ValuesStayInRange := by
  unfold Obligations.ValuesStayInRange
  exact fun s t hs hstep => step_keeps (fun _ _ hu h => hu.event h) ranged_startUp hs hstep

end Sys2Proof.Machine
end

section
/-! PROOFS. The allowance in force stays within its target, and the target within Amax and the cap of BLIND. -/
namespace Sys2Proof.Machine

theorem AllowanceBounded.of_same {s t : State} (hs : AllowanceBounded s) (hprofile : t.profile = s.profile)
    (hallowance : t.protection.allowance = s.protection.allowance) (htarget : t.protection.target = s.protection.target)
    (hblind : t.protection.blind = s.protection.blind) : AllowanceBounded t := by
  obtain ⟨hreserve, hwithin, hamax, hcap⟩ := hs
  exact ⟨hprofile ▸ hreserve, by omega, by rw [htarget, hprofile]; exact hamax,
    by rw [hblind, htarget, hprofile]; exact hcap⟩

theorem reads_allowanceBounded : Reads [.profile, .protection] AllowanceBounded := by
  intro s t hsame hs
  have hprot : t.protection = s.protection := hsame .protection (by decide)
  exact hs.of_same (hsame .profile (by decide)) (by rw [hprot]) (by rw [hprot]) (by rw [hprot])

/-- The recovery tests touch the recovery conditions and the recovery dwell alone (R137). -/
theorem recoveryDriveTest_protection (s : State) :
    ∃ r d, (recoveryDriveTest s).protection = { s.protection with recovery := r, driveOk := d } := by
  unfold recoveryDriveTest recoveryTest
  split
  · exact ⟨_, _, rfl⟩
  · exact ⟨s.protection.recovery, _, rfl⟩

theorem commitEff_protection (f : Fn) (e : Eff) (s : State) :
    ∃ r d, (commitEff f e s).protection = { s.protection with recovery := r, driveOk := d } := by
  have hhand : ∀ t : State, t.protection = s.protection → ∀ z,
      ∃ r d, (handUnderlying z t).protection = { s.protection with recovery := r, driveOk := d } := by
    intro t ht z
    unfold handUnderlying
    split
    · obtain ⟨r, d, h⟩ := recoveryDriveTest_protection t
      exact ⟨r, d, by rw [h, ht]⟩
    · exact ⟨s.protection.recovery, s.protection.driveOk, ht⟩
  unfold commitEff
  refine hhand _ ?_ _
  split
  · rfl
  · exact handOn_frame f _ .protection (by decide)

theorem AllowanceBounded.commitEff {s : State} (hs : AllowanceBounded s) (f : Fn) (e : Eff) :
    AllowanceBounded (commitEff f e s) := by
  obtain ⟨r, d, h⟩ := commitEff_protection f e s
  exact hs.of_same (commitEff_frame f e s .profile (by decide)) (by rw [h]) (by rw [h]) (by rw [h])

theorem resolverKept_allowanceBounded : ResolverKept AllowanceBounded where
  beside h := reads_allowanceBounded.keep h (by decide)
  slot m f x _ := reads_allowanceBounded.keep (setSlot_frame _ m f x) (by decide)
  grant f g := reads_allowanceBounded.keep (setGrant_frame _ f g) (by decide)
  resolve := by
    intro s f byMark hs
    cases hbusy : consumerBusy s f with
    | true => rw [resolve_of_busy hbusy]; exact hs
    | false =>
      rw [resolve_of_free hbusy]
      exact (reads_allowanceBounded.keep (takeSlots_frame f s) (by decide) hs).commitEff f _
  blendStep := by
    intro s f hs
    unfold blendStep
    split
    · exact hs
    · refine AllowanceBounded.commitEff (reads_allowanceBounded.keep (takeSlots_frame f _) (by decide) ?_) f _
      exact reads_allowanceBounded.keep (setEff_frame s f _) (by decide) hs

/-! ### The target -/

theorem interpolated_le {lo hi x span : Nat} (hlo : lo ≤ hi) (hx : x ≤ span) : lo + (hi - lo) * x / span ≤ hi := by
  have hshare : (hi - lo) * x / span ≤ hi - lo := Nat.div_le_of_le_mul (by
    rw [Nat.mul_comm span]
    exact Nat.mul_le_mul_left _ hx)
  omega

theorem baseTarget_le {p : Pack} (h : p.servoReserve ≤ p.amax) (k : Thresholds) (st : ProtState) (vmin : Option VMin) :
    baseTarget p k st vmin ≤ p.amax := by
  unfold baseTarget
  split
  · exact h
  · split
    · exact h
    · split
      · exact le_rfl
      · split
        · exact interpolated_le h (by omega)
        · exact h

/-- A recomputed target and the allowance under it meet the bounds, whatever they were (R140, R141). -/
theorem allowanceBounded_retarget {s : State} (h : s.profile.pack.servoReserve ≤ s.profile.pack.amax) :
    AllowanceBounded (retarget s) := by
  have hbase := baseTarget_le h s.protection.thresholds s.protection.state s.protection.vmin
  refine ⟨h, Nat.min_le_right _ _, ?_, fun hblind => ?_⟩
  · show targetOf s ≤ _
    unfold targetOf
    dsimp only
    split
    · exact (Nat.min_le_left _ _).trans hbase
    · exact hbase
  · show targetOf s ≤ _
    have hb : s.protection.blind = true := hblind
    unfold targetOf
    rw [if_pos hb]
    exact Nat.min_le_right _ _

theorem packKept_allowanceBounded : PackKept AllowanceBounded where
  toResolverKept := resolverKept_allowanceBounded
  lockout b := reads_allowanceBounded.keep (setResolver_frame _ _) (by decide)
  retained r := reads_allowanceBounded.keep (setRetained_frame_only _ r) (by decide)
  protection p ha ht hb hs := hs.of_same rfl ha ht hb
  retarget hs := allowanceBounded_retarget hs.reserve
  blind b hs := by
    unfold blindTaken
    split
    next h => exact hs.of_same rfl rfl rfl h.symm
    · exact allowanceBounded_retarget hs.reserve

/-! ### Every step -/

/-- The servo reserve lies within Amax: what a PACK write promises before the target is recomputed. -/
def ReserveWithin (s : State) : Prop := s.profile.pack.servoReserve ≤ s.profile.pack.amax

theorem reads_reserveWithin : Reads [.profile] ReserveWithin := by
  intro s t hsame hs
  have hprofile : t.profile = s.profile := hsame .profile (by decide)
  rwa [ReserveWithin, hprofile]

/-- A PACK write recomputes the target, so that its new Amax and servo reserve bound it (R145). -/
theorem allowanceBounded_packActs (old : Pack) {s : State} (h : ReserveWithin s) : AllowanceBounded (packActs old s) := by
  have hsensed : ∀ v, ReserveWithin (s.setSense v) := fun v => h
  have htested : ∀ (p : Prop) [Decidable p] v,
      ReserveWithin (cutoffDragHanded old (if p then s.setSense v else recoveryCellTest (s.setSense v))) := by
    intro p _ v
    refine reads_reserveWithin.keep (cutoffDragHanded_frame old _) (by decide) ?_
    split
    · exact hsensed v
    · exact reads_reserveWithin.keep (recoveryCellTest_frame_only _) (by decide) (hsensed v)
  exact packKept_allowanceBounded.dwellsByTime (allowanceBounded_retarget (htested _ _))

theorem allowanceBounded_write {s t : State} (hs : AllowanceBounded s) (h : WriteEvent s t) : AllowanceBounded t := by
  obtain ⟨_, hbody⟩ := h
  have hsound := checkBody_sound hbody
  have hlive : ∀ d, (∀ v, d ≠ .pack v) → AllowanceBounded (writeLive d s) := by
    intro d hd
    have hpack : (writeLive d s).profile.pack = s.profile.pack := by
      cases d <;> first | rfl | exact absurd rfl (hd _)
    obtain ⟨hreserve, hwithin, hamax, hcap⟩ := hs
    exact ⟨hpack ▸ hreserve, hwithin, hpack ▸ hamax, hpack ▸ hcap⟩
  have hP := packKept_allowanceBounded
  rename_i k body d _
  cases d with
  | sources v => exact hP.sourcesActs _ (hlive _ (by simp))
  | map v => exact hlive _ (by simp)
  | authority v => exact hP.authorityActs (hlive _ (by simp))
  | failsafe v => exact hP.failsafeActs _ (hlive _ (by simp))
  | geometry v => exact reads_allowanceBounded.keep (geometryActs_frame_only _) (by decide) (hlive _ (by simp))
  | drive v => exact driveActs_keeps (P := AllowanceBounded) (fun _ => hP.recoveryDriveTest) reads_allowanceBounded (by decide) _ (hlive _ (by simp))
  | winch v => exact reads_allowanceBounded.keep (winchActsOn_frame _ _) (by decide) (hlive _ (by simp))
  | pack v => exact allowanceBounded_packActs _ hsound.2
  | lamps v => exact reads_allowanceBounded.keep (lampResolve_frame _) (by decide) (hlive _ (by simp))
  | scene i v => exact reads_allowanceBounded.keep (sceneActs_frame i _) (by decide) (hlive _ (by simp))
  | reply v => exact hlive _ (by simp)

theorem AllowanceBounded.event {s t : State} (hs : AllowanceBounded s) (h : Event s t) : AllowanceBounded t := by
  cases h with
  | quiet h => exact reads_allowanceBounded.keep h (by decide) hs
  | context h => exact resolverKept_allowanceBounded.context hs h
  | wheel h => exact reads_allowanceBounded.keep h.frame (by decide) hs
  | winch h => exact reads_allowanceBounded.keep h.frame (by decide) hs
  | pack h => exact packKept_allowanceBounded.pack hs h
  | write h => exact allowanceBounded_write hs h
  | steering =>
    exact resolverKept_allowanceBounded.steeringUpdate (fun h => reads_allowanceBounded.keep h (by decide))
      (reads_allowanceBounded.keep (busyClamp_frame_only _) (by decide)) hs
  | apportion =>
    obtain ⟨hreserve, hwithin, hamax, hcap⟩ := hs
    refine ⟨hreserve, ?_, hamax, hcap⟩
    show risen s.protection.target s.protection.allowance ≤ s.protection.target
    unfold risen
    split <;> omega
  | tick => exact hs.of_same rfl rfl rfl rfl

theorem allowanceBounded_startUp (pins : Pins) (s : State) : AllowanceBounded (startUp pins s) := by
  have hsound := soundProfile_loadAll (flashAfterReset s.store)
  have hbase : AllowanceBounded (resetBase (settleReset s.retained) (flashAfterReset s.store)
      (loadAll (flashAfterReset s.store)).profile pins s.pending) :=
    ⟨hsound.reserve, le_rfl, hsound.reserve, by intro h; cases h⟩
  have hnotices := reads_allowanceBounded.keep (startNotices_frame (loadAll (flashAfterReset s.store)).defaulted _)
    (by decide) hbase
  have hfirst := reads_allowanceBounded.keep (firstResolution_frame _) (by decide) hnotices
  have houtputs := reads_allowanceBounded.keep (startOutputs_frame pins _) (by decide) hfirst
  exact startRecovery_keeps (P := AllowanceBounded) (fun _ => packKept_allowanceBounded.recoveryDriveTest) houtputs

/-- Settles O8. -/
theorem allowanceStaysBounded : Obligations.AllowanceStaysBounded := by
  unfold Obligations.AllowanceStaysBounded
  exact fun s t hs hstep => step_keeps (fun _ _ hu h => hu.event h) allowanceBounded_startUp hs hstep

end Sys2Proof.Machine
end

section
/-! PROOFS. The winch: what each change of its state leaves in its record. -/
namespace Sys2Proof.Machine

theorem lampsIfWinch_frame_only (st : WinchState) (s : State) : SameExcept [.lamps] s (lampsIfWinch st s) := by
  unfold lampsIfWinch
  split
  · exact .refl _ s
  · exact lampResolve_frame s

@[simp] theorem lampsIfWinch_winch (st : WinchState) (s : State) : (lampsIfWinch st s).winch = s.winch :=
  lampsIfWinch_frame_only st s .winch (by decide)

@[simp] theorem raise_winch (k : Notice) (s : State) : (raise k s).winch = s.winch :=
  raise_frame k s .winch (by decide)

@[simp] theorem goIdle_winch (s : State) : (goIdle s).winch = brakedIn .idle s.winch := by simp [goIdle]

@[simp] theorem goLimit_winch (st : WinchState) (s : State) : (goLimit st s).winch = brakedIn st s.winch := by
  simp [goLimit]

@[simp] theorem goStalled_winch (s : State) : (goStalled s).winch = brakedIn .stalled s.winch := by simp [goStalled]

@[simp] theorem goInward_winch (s : State) :
    (goInward s).winch = if atInStop s then brakedIn .limitIn s.winch else drivenIn .inward s.winch := by
  unfold goInward
  split <;> simp

@[simp] theorem goOutward_winch (s : State) :
    (goOutward s).winch = if atOutStop s then brakedIn .limitOut s.winch else drivenIn .outward s.winch := by
  unfold goOutward
  split <;> simp

@[simp] theorem payout_brakedIn (st : WinchState) (w : WinchUnit) : payout (brakedIn st w) = payout w := rfl

@[simp] theorem payout_drivenIn (st : WinchState) (w : WinchUnit) : payout (drivenIn st w) = payout w := rfl

theorem inBand_zero (s : State) : inBand s 0 = true := by simp [inBand]

theorem winchDriven_eq_false_iff (w : WinchUnit) : winchDriven w = false ↔ w.state ≠ .inward ∧ w.state ≠ .outward := by
  simp [winchDriven]

/-- A held WINCH acts in one of five ways (R104). -/
theorem winchActs_cases {P : State → Prop} {s : State} (hs : P s) (hidle : P (goIdle s)) (hin : P (goInward s))
    (hout : P (goOutward s)) (hclear : ∀ c, s.winch.state = .stalled → P (s.setWinch { s.winch with clear := c })) :
    P (winchActs s) := by
  have hpick : ∀ (p : Prop) [Decidable p] (t u : State), P t → P u → P (if p then t else u) := by
    intro p _ t u ht hu
    split
    · exact ht
    · exact hu
  unfold winchActs
  dsimp only
  split
  next => exact hpick _ _ _ hs (hpick _ _ _ hin hout)
  next => exact hpick _ _ _ hidle (hpick _ _ _ hs hout)
  next => exact hpick _ _ _ hidle (hpick _ _ _ hin hs)
  next => exact hpick _ _ _ hidle (hpick _ _ _ hs hout)
  next => exact hpick _ _ _ hidle (hpick _ _ _ hin hs)
  next hstate => exact hclear _ hstate

/-- A braked winch goes by the held WINCH in one of three ways (R104, R116). -/
theorem goByHeld_cases {P : State → Prop} {s : State} (hidle : P (goIdle s)) (hin : P (goInward s))
    (hout : P (goOutward s)) : P (goByHeld s) := by
  unfold goByHeld
  split
  · exact hidle
  · split
    · exact hin
    · exact hout

end Sys2Proof.Machine
end

section
/-! PROOFS. The winch is not driven past an end stop while home is KNOWN. -/
namespace Sys2Proof.Machine

theorem reads_endStopsHeld : Reads [.winch, .profile] EndStopsHeld := by
  intro s t hsame ⟨hlimit, hin, hout⟩
  have hwinch : t.winch = s.winch := hsame .winch (by decide)
  have hprofile : t.profile = s.profile := hsame .profile (by decide)
  exact ⟨hprofile ▸ hlimit, by rw [hwinch]; exact hin, by rw [hwinch, hprofile]; exact hout⟩

/-- The end stops bind the state, the home mark and the payout count alone. -/
theorem EndStopsHeld.of_same {s t : State} (hs : EndStopsHeld s) (hprofile : t.profile = s.profile)
    (hstate : t.winch.state = s.winch.state) (hknown : t.winch.known = s.winch.known)
    (hpayout : payout t.winch = payout s.winch) : EndStopsHeld t := by
  obtain ⟨hlimit, hin, hout⟩ := hs
  exact ⟨hprofile ▸ hlimit, by rw [hstate, hknown, hpayout]; exact hin,
    by rw [hstate, hknown, hpayout, hprofile]; exact hout⟩

theorem endStopsHeld_of_not_driven {s : State} (hlimit : 0 < limitCount s.profile.winch)
    (hstate : winchDriven s.winch = false) : EndStopsHeld s := by
  obtain ⟨hin, hout⟩ := (winchDriven_eq_false_iff _).mp hstate
  exact ⟨hlimit, fun _ h => absurd h hin, fun _ h => absurd h hout⟩

section
variable {s : State} (hlimit : 0 < limitCount s.profile.winch)
include hlimit

theorem endStopsHeld_goIdle : EndStopsHeld (goIdle s) :=
  endStopsHeld_of_not_driven ((goIdle_frame s .profile (by decide) : (goIdle s).profile = _) ▸ hlimit) (by simp [winchDriven, brakedIn])

theorem endStopsHeld_goLimit {st : WinchState} (hst : st = .limitIn ∨ st = .limitOut) : EndStopsHeld (goLimit st s) := by
  refine endStopsHeld_of_not_driven ((goLimit_frame st s .profile (by decide) : (goLimit st s).profile = _) ▸ hlimit) ?_
  obtain rfl | rfl := hst <;> simp [winchDriven, brakedIn]

theorem endStopsHeld_goStalled : EndStopsHeld (goStalled s) :=
  endStopsHeld_of_not_driven ((goStalled_frame s .profile (by decide) : (goStalled s).profile = _) ▸ hlimit)
    (by simp [winchDriven, brakedIn])

/-- IN is entered short of the inward stop alone (R104). -/
theorem endStopsHeld_goInward : EndStopsHeld (goInward s) := by
  cases hstop : atInStop s with
  | true =>
    rw [goInward, if_pos hstop]
    exact endStopsHeld_goLimit hlimit (.inl rfl)
  | false =>
    have hprofile : (goInward s).profile = s.profile := goInward_frame s .profile (by decide)
    have hwinch : (goInward s).winch = drivenIn .inward s.winch := by simp [hstop]
    refine ⟨hprofile ▸ hlimit, fun hknown _ => ?_, fun _ hstate => ?_⟩
    · rw [hwinch] at hknown ⊢
      have hknown' : s.winch.known = true := hknown
      simpa [atInStop, hknown'] using hstop
    · rw [hwinch] at hstate
      cases hstate

/-- OUT is entered short of the outward stop alone (R104). -/
theorem endStopsHeld_goOutward : EndStopsHeld (goOutward s) := by
  cases hstop : atOutStop s with
  | true =>
    rw [goOutward, if_pos hstop]
    exact endStopsHeld_goLimit hlimit (.inr rfl)
  | false =>
    have hprofile : (goOutward s).profile = s.profile := goOutward_frame s .profile (by decide)
    have hwinch : (goOutward s).winch = drivenIn .outward s.winch := by simp [hstop]
    refine ⟨hprofile ▸ hlimit, fun _ hstate => ?_, fun hknown _ => ?_⟩
    · rw [hwinch] at hstate
      cases hstate
    · rw [hwinch] at hknown ⊢
      rw [hprofile]
      have hknown' : s.winch.known = true := hknown
      simpa [atOutStop, hknown'] using hstop

theorem endStopsHeld_goByHeld : EndStopsHeld (goByHeld s) :=
  goByHeld_cases (endStopsHeld_goIdle hlimit) (endStopsHeld_goInward hlimit) (endStopsHeld_goOutward hlimit)

/-- A change of the payout count is tested at once, so that it leaves no driven winch past a stop (R105). -/
theorem endStopsHeld_testStops : EndStopsHeld (testStops s) := by
  have hkeep : (s.winch.known = true → s.winch.state = .inward → 0 < payout s.winch) →
      (s.winch.known = true → s.winch.state = .outward → payout s.winch < limitCount s.profile.winch) →
      EndStopsHeld s := fun hin hout => ⟨hlimit, hin, hout⟩
  cases hstate : s.winch.state <;> simp only [testStops, hstate]
  case inward =>
    split
    · exact endStopsHeld_goLimit hlimit (.inl rfl)
    next hstop =>
      refine hkeep (fun hknown _ => ?_) (fun _ h => by simp [hstate] at h)
      simpa [atInStop, hknown] using hstop
  case outward =>
    split
    · exact endStopsHeld_goLimit hlimit (.inr rfl)
    next hstop =>
      refine hkeep (fun _ h => by simp [hstate] at h) (fun hknown _ => ?_)
      simpa [atOutStop, hknown] using hstop
  all_goals exact hkeep (fun _ h => by simp [hstate] at h) (fun _ h => by simp [hstate] at h)

end

theorem EndStopsHeld.winchActs {s : State} (hs : EndStopsHeld s) : EndStopsHeld (winchActs s) :=
  winchActs_cases hs (endStopsHeld_goIdle hs.limit) (endStopsHeld_goInward hs.limit) (endStopsHeld_goOutward hs.limit)
    fun _ _ => hs.of_same rfl rfl rfl rfl

theorem EndStopsHeld.winchHanded {s : State} (hs : EndStopsHeld s) : EndStopsHeld (winchHanded s) :=
  EndStopsHeld.winchActs (hs.of_same rfl rfl rfl rfl)

/-! ### Resolutions -/

theorem handOn_winch_of_ne {f : Fn} (h : f ≠ .winch) (s : State) : (handOn f s).winch = s.winch := by
  cases f with
  | drive => exact (lampResolve_frame _ .winch (by decide)).trans (driveHanded_frame s .winch (by decide))
  | steer => exact steerHanded_frame s .winch (by decide)
  | steermode => exact modeHanded_frame s .winch (by decide)
  | winch => exact absurd rfl h
  | drag => exact (lampResolve_frame _ .winch (by decide)).trans (dragHanded_frame s .winch (by decide))
  | range => exact rangeHanded_frame s .winch (by decide)
  | scene => exact sceneHanded_frame s .winch (by decide)

theorem EndStopsHeld.commitEff {s : State} (hs : EndStopsHeld s) (f : Fn) (e : Eff) : EndStopsHeld (commitEff f e s) := by
  have hset : EndStopsHeld (setEff s f e) := hs.of_same rfl rfl rfl rfl
  have hhand : EndStopsHeld (handOn f (setEff s f e)) := by
    by_cases hf : f = .winch
    · subst hf
      exact hset.winchHanded
    · have hwinch := handOn_winch_of_ne hf (setEff s f e)
      exact hset.of_same (handOn_frame f _ .profile (by decide)) (by rw [hwinch]) (by rw [hwinch]) (by rw [hwinch])
  unfold Machine.commitEff
  refine reads_endStopsHeld.keep (handUnderlying_frame _ _) (by decide) ?_
  split
  · exact hset
  · exact hhand

theorem packKept_endStopsHeld : PackKept EndStopsHeld := by
  have hresolver : ResolverKept EndStopsHeld := {
    beside := fun h => reads_endStopsHeld.keep h (by decide)
    slot := fun m f x _ => reads_endStopsHeld.keep (setSlot_frame _ m f x) (by decide)
    grant := fun f g => reads_endStopsHeld.keep (setGrant_frame _ f g) (by decide)
    resolve := by
      intro s f byMark hs
      cases hbusy : consumerBusy s f with
      | true => rw [resolve_of_busy hbusy]; exact hs
      | false =>
        rw [resolve_of_free hbusy]
        exact (reads_endStopsHeld.keep (takeSlots_frame f s) (by decide) hs).commitEff f _
    blendStep := by
      intro s f hs
      unfold blendStep
      split
      · exact hs
      · refine EndStopsHeld.commitEff (reads_endStopsHeld.keep (takeSlots_frame f _) (by decide) ?_) f _
        exact reads_endStopsHeld.keep (setEff_frame s f _) (by decide) hs }
  exact hresolver.packKept reads_endStopsHeld (by decide) fun _ hs => hs.of_same rfl rfl rfl rfl

/-! ### Winch events -/

theorem EndStopsHeld.lineStage {s : State} (hs : EndStopsHeld s) : EndStopsHeld (lineStage s) :=
  hs.of_same rfl rfl rfl rfl

theorem EndStopsHeld.stallStage {s : State} (hs : EndStopsHeld s) (delta : Int) : EndStopsHeld (stallStage delta s) := by
  have hset : ∀ v, EndStopsHeld (s.setWinch { s.winch with stall := v }) := fun v => hs.of_same rfl rfl rfl rfl
  unfold Machine.stallStage
  split
  · dsimp only
    split
    · split
      · exact endStopsHeld_goStalled (hset _).limit
      · exact hset _
    · exact hset _
  · exact hs

theorem dutyStages_state (p : WinchSection) (w : WinchUnit) : (dutyStages p w).state = w.state := by
  unfold dutyStages drivenStages
  split <;> rfl

theorem dutyStages_known (p : WinchSection) (w : WinchUnit) : (dutyStages p w).known = w.known := by
  unfold dutyStages drivenStages
  split <;> rfl

theorem payout_dutyStages (p : WinchSection) (w : WinchUnit) : payout (dutyStages p w) = payout w := by
  unfold dutyStages drivenStages
  split <;> rfl

theorem EndStopsHeld.winchUpdate {s : State} (hs : EndStopsHeld s) : EndStopsHeld (winchUpdate s) := by
  have hbegun : EndStopsHeld (s.setWinch { s.winch with timer := Config.winchPeriod }) := hs.of_same rfl rfl rfl rfl
  have hstalled := hbegun.lineStage.stallStage (payoutDelta s.winch)
  exact hstalled.of_same rfl (dutyStages_state _ _) (dutyStages_known _ _) (payout_dutyStages _ _)

theorem endStopsHeld_homeBraked {s : State} (hlimit : 0 < limitCount s.profile.winch) : EndStopsHeld (homeBraked s) :=
  endStopsHeld_goLimit (s := s.setWinch (atHome s.winch)) hlimit (.inl rfl)

/-- Home at a driven winch leaves it below the outward stop, since the limit count lies above 0 (R102). -/
theorem EndStopsHeld.hookCloses {s : State} (hs : EndStopsHeld s) : EndStopsHeld (hookCloses s) := by
  have hzero : payout (atHome s.winch) = 0 := rfl
  have hhome : s.winch.state ≠ .inward → EndStopsHeld
      (raise .winchLimit ((s.setWinch { s.winch with hookClosed := true }).setWinch
        (atHome { s.winch with hookClosed := true }))) := fun hne =>
    ⟨hs.limit, fun _ h => absurd h hne, fun _ _ => Int.natCast_pos.mpr hs.limit⟩
  unfold Machine.hookCloses
  split
  · exact hs
  · cases hstate : s.winch.state <;> dsimp only
    case outward => exact hhome (by simp [hstate])
    case stalled => exact hhome (by simp [hstate])
    all_goals exact endStopsHeld_homeBraked hs.limit

theorem EndStopsHeld.encoderEdge {s : State} (hs : EndStopsHeld s) (a b : Bool) : EndStopsHeld (encoderEdge a b s) := by
  have hcount : ∀ up t, 0 < limitCount (State.profile t).winch → EndStopsHeld (countEdge up t) := fun up t h =>
    endStopsHeld_testStops (s := t.setWinch _) h
  unfold Machine.encoderEdge
  dsimp only
  split
  · exact hs.of_same rfl rfl rfl rfl
  · exact hcount _ _ hs.limit
  · exact hcount _ _ hs.limit
  · exact hs.of_same rfl rfl rfl rfl

theorem EndStopsHeld.winch {s t : State} (hs : EndStopsHeld s) (h : WinchEvent s t) : EndStopsHeld t := by
  cases h with
  | encoderEdge a b => exact hs.encoderEdge a b
  | hookCloses => exact hs.hookCloses
  | hookOpens => exact hs.of_same rfl rfl rfl rfl
  | winchUpdate => exact hs.winchUpdate
  | stallExpires =>
    unfold stallExpires
    split
    · exact endStopsHeld_goStalled hs.limit
    · exact hs
  | stallClears =>
    unfold stallClears
    split
    · exact endStopsHeld_goIdle hs.limit
    · exact hs
  | homeBraked => exact endStopsHeld_homeBraked hs.limit
  | sampled current => exact hs.of_same rfl rfl rfl rfl

/-! ### Writes -/

theorem EndStopsHeld.driveActs {s : State} (hs : EndStopsHeld s) (old : DriveSection) : EndStopsHeld (driveActs old s) := by
  have hacts : ∀ (p : Prop) [Decidable p] t, EndStopsHeld t → EndStopsHeld (if p then t else Machine.winchActs t) := by
    intro p _ t ht
    split
    · exact ht
    · exact ht.winchActs
  have hmap : ∀ t g, EndStopsHeld t → EndStopsHeld (mapChans t g) := fun t g => reads_endStopsHeld.keep (mapChans_frame t g) (by decide)
  exact hmap _ _ (hmap _ _ (hacts _ _ (hmap _ _ (packKept_endStopsHeld.recoveryDriveTest hs))))

/-- A WINCH write reaches a winch that is not driven, and every state it goes to is tested (R116). -/
theorem EndStopsHeld.winchActsOn {s : State} (hs : EndStopsHeld s) (hrest : winchDriven s.winch = false)
    (old : WinchSection) : EndStopsHeld (winchActsOn old s) := by
  have hreverse : EndStopsHeld (reverseChanged old s) := by
    unfold reverseChanged
    split
    · exact hs
    · exact endStopsHeld_of_not_driven hs.limit hrest
  have hclamp : ∀ t, EndStopsHeld t → EndStopsHeld (slowInClamp t) := by
    intro t ht
    unfold slowInClamp
    split
    · exact ht
    · exact ht.of_same rfl rfl rfl rfl
  have hstall : ∀ t, EndStopsHeld t → EndStopsHeld (stallByTime t) := by
    intro t ht
    unfold stallByTime
    split
    · split
      · exact endStopsHeld_goIdle ht.limit
      · exact ht
    · exact ht
  have hretest : ∀ t, EndStopsHeld t → EndStopsHeld (retestLimit t) := by
    intro t ht
    have hpick : ∀ (p : Prop) [Decidable p], EndStopsHeld (if p then t else goByHeld t) := by
      intro p _
      split
      · exact ht
      · exact endStopsHeld_goByHeld ht.limit
    unfold retestLimit
    split <;> first | exact hpick _ | exact ht
  exact hretest _ (hstall _ (hclamp _ hreverse))

theorem winchDriven_eq_false_of_parked {s : State} (h : parked s = true) : winchDriven s.winch = false := by
  simp only [parked, Bool.and_eq_true, Bool.not_eq_true'] at h
  exact h.2

theorem EndStopsHeld.write {s t : State} (hs : EndStopsHeld s) (h : WriteEvent s t) : EndStopsHeld t := by
  obtain ⟨hparked, hbody⟩ := h
  rename_i k body d
  have hrest := winchDriven_eq_false_of_parked hparked
  have hsound := checkBody_sound hbody
  have hlive : EndStopsHeld (writeLive d s) := by
    refine endStopsHeld_of_not_driven ?_ hrest
    cases d with
    | winch v => exact hsound
    | _ => exact hs.limit
  have hP := packKept_endStopsHeld
  cases d with
  | sources v => exact hP.sourcesActs _ hlive
  | map v => exact hlive
  | authority v => exact hP.authorityActs hlive
  | failsafe v => exact hP.failsafeActs _ hlive
  | geometry v => exact reads_endStopsHeld.keep (geometryActs_frame_only _) (by decide) hlive
  | drive v => exact hlive.driveActs _
  | winch v => exact hlive.winchActsOn hrest _
  | pack v => exact hP.packActs (fun v => reads_endStopsHeld.keep (setSense_frame_only _ v) (by decide)) _ hlive
  | lamps v => exact reads_endStopsHeld.keep (lampResolve_frame _) (by decide) hlive
  | scene i v => exact reads_endStopsHeld.keep (sceneActs_frame i _) (by decide) hlive
  | reply v => exact hlive

theorem apportion_winch (s : State) : ∃ n, (apportion s).winch = { s.winch with limit := n } := ⟨_, rfl⟩

theorem EndStopsHeld.event {s t : State} (hs : EndStopsHeld s) (h : Event s t) : EndStopsHeld t := by
  cases h with
  | quiet h => exact reads_endStopsHeld.keep h (by decide) hs
  | context h => exact packKept_endStopsHeld.context hs h
  | wheel h => exact reads_endStopsHeld.keep h.frame (by decide) hs
  | winch h => exact hs.winch h
  | pack h => exact packKept_endStopsHeld.pack hs h
  | write h => exact hs.write h
  | steering =>
    exact packKept_endStopsHeld.steeringUpdate (fun h => reads_endStopsHeld.keep h (by decide))
      (reads_endStopsHeld.keep (busyClamp_frame_only _) (by decide)) hs
  | apportion =>
    obtain ⟨n, hwinch⟩ := apportion_winch s
    exact hs.of_same (apportion_frame_only s .profile (by decide)) (by rw [hwinch]) (by rw [hwinch])
      (by rw [hwinch]; rfl)
  | tick => exact hs.of_same rfl rfl rfl rfl

theorem startOutputs_winch (pins : Pins) (s : State) :
    (startOutputs pins s).winch = WinchUnit.reset (effective s .winch) pins := by
  have hhook : ∀ t, (startHook pins t).winch = t.winch := fun t => startHook_frame pins t .winch (by decide)
  have hlamps : ∀ t, (lampResolve t).winch = t.winch := fun t => lampResolve_frame t .winch (by decide)
  unfold startOutputs
  dsimp only
  rw [hlamps, State.setLamps_winch, hhook, State.setWinch_winch]

theorem startUp_winch (pins : Pins) (s : State) : ∃ held, (startUp pins s).winch = WinchUnit.reset held pins :=
  ⟨_, (startRecovery_frame _ .winch (by decide)).trans (startOutputs_winch pins _)⟩

theorem winchDriven_reset (held : Int) (pins : Pins) : winchDriven (WinchUnit.reset held pins) = false := by
  unfold WinchUnit.reset winchDriven
  cases pins.hookClosed <;> rfl

theorem endStopsHeld_startUp (pins : Pins) (s : State) : EndStopsHeld (startUp pins s) := by
  obtain ⟨held, hwinch⟩ := startUp_winch pins s
  exact endStopsHeld_of_not_driven (soundProfile_startUp pins s).limit (by rw [hwinch]; exact winchDriven_reset held pins)

/-- Settles O10. -/
theorem winchEndStopsHold : Obligations.WinchEndStopsHold := by
  unfold Obligations.WinchEndStopsHold
  exact fun s t hs hstep => step_keeps (fun _ _ hu h => hu.event h) endStopsHeld_startUp hs hstep

end Sys2Proof.Machine
end

section
/-! PROOFS. The steering mode follows the effective STEERMODE. -/
namespace Sys2Proof.Machine

theorem ModeFollows.of_same {s t : State} (hs : ModeFollows s) (hstate : t.steering.state = s.steering.state)
    (hmode : t.steering.mode = s.steering.mode) (hnext : t.steering.next = s.steering.next)
    (heff : effOf t .steermode = effOf s .steermode) : ModeFollows t := by
  obtain ⟨hmatched, hblend⟩ := hs
  refine ⟨?_, heff ▸ hblend⟩
  rw [effective, heff]
  unfold ModeMatches at hmatched ⊢
  rw [hstate, hmode, hnext]
  exact hmatched

theorem reads_modeFollows : Reads [.steering, .resolver] ModeFollows := by
  intro s t hsame hs
  have hsteer : t.steering = s.steering := hsame .steering (by decide)
  have hres : t.resolver = s.resolver := hsame .resolver (by decide)
  exact hs.of_same (by rw [hsteer]) (by rw [hsteer]) (by rw [hsteer]) (by simp only [effOf, hres])

/-! ### Hand-over -/

@[simp] theorem busyClamp_steering (s : State) : (busyClamp s).steering = s.steering := rfl

theorem effOf_modeHanded (s : State) (f : Fn) : effOf (modeHanded s) f = effOf s f :=
  (modeHanded_frame s).effOf (by decide) f

/-- A STEERMODE handed over while not SLEWING leaves the steering on it, or moving to it (R62, R63). -/
theorem modeMatches_modeHanded {s : State} (h : s.steering.state ≠ .slewing) :
    ModeMatches (modeHanded s).steering (modeOfIndex (effective s .steermode)) := by
  unfold modeHanded
  dsimp only
  split
  · split <;> exact rfl
  next hwaiting =>
    split
    next hm => exact hm.symm
    · simp [ModeMatches, hwaiting]
  next hslew => exact absurd hslew h

/-- Only a STEER or a STEERMODE handed over touches the steering; a STEER touches its held STEER alone. -/
theorem handOn_steering_of_ne {f : Fn} (h : f ≠ .steermode) (s : State) :
    ∃ v, (handOn f s).steering = { s.steering with heldSteer := v } := by
  have hlamps : ∀ t, (lampResolve t).steering = t.steering := fun t => lampResolve_frame t .steering (by decide)
  have hstands : ∀ t : State, t.steering = s.steering → ∃ v, t.steering = { s.steering with heldSteer := v } :=
    fun t ht => ⟨s.steering.heldSteer, ht⟩
  cases f with
  | drive => exact hstands _ ((hlamps _).trans (driveHanded_frame s .steering (by decide)))
  | steer => exact ⟨effective s .steer, hlamps _⟩
  | steermode => exact absurd rfl h
  | winch => exact hstands _ (winchHanded_frame s .steering (by decide))
  | drag => exact hstands _ ((hlamps _).trans (dragHanded_frame s .steering (by decide)))
  | range => exact hstands _ (rangeHanded_frame s .steering (by decide))
  | scene => exact hstands _ (sceneHanded_frame s .steering (by decide))

theorem entryFrom_steermode_blend (s : State) (old : Eff) (byMark : Bool) :
    (entryFrom s .steermode old byMark).blend = none := by
  simp [entryFrom, locked, lockable, isNumeric]

theorem ModeFollows.commitEff {s : State} (hs : ModeFollows s) {f : Fn} {e : Eff}
    (hfree : f = .steermode → s.steering.state ≠ .slewing ∧ e.blend = none) : ModeFollows (commitEff f e s) := by
  unfold Machine.commitEff
  refine reads_modeFollows.keep (handUnderlying_frame _ _) (by decide) ?_
  by_cases hf : f = .steermode
  · subst hf
    obtain ⟨hslew, hblend⟩ := hfree rfl
    split
    next hsame =>
      refine ⟨?_, by simpa using hblend⟩
      rw [effective, effOf_setEff_same, hsame]
      exact hs.matched
    · have hmatches := modeMatches_modeHanded (s := setEff s .steermode e) hslew
      refine ⟨?_, ?_⟩
      · rw [effective, handOn, effOf_modeHanded]
        exact hmatches
      · rw [handOn, effOf_modeHanded]
        simpa using hblend
  · have hset : ModeFollows (setEff s f e) := hs.of_same rfl rfl rfl (effOf_setEff_ne s (Ne.symm hf) e)
    split
    · exact hset
    · obtain ⟨v, hsteer⟩ := handOn_steering_of_ne hf (setEff s f e)
      exact hset.of_same (by rw [hsteer]) (by rw [hsteer]) (by rw [hsteer]) ((handOn_frame f _).effOf (by decide) _)

theorem consumerBusy_steermode_false {s : State} (h : consumerBusy s .steermode = false) :
    s.steering.state ≠ .slewing := by
  rw [consumerBusy_eq_false_iff] at h
  exact h.resolve_left (by simp)

theorem ModeFollows.resolve {s : State} (hs : ModeFollows s) (f : Fn) (byMark : Bool) : ModeFollows (resolve f byMark s) := by
  cases hbusy : consumerBusy s f with
  | true => rw [resolve_of_busy hbusy]; exact hs
  | false =>
    rw [resolve_of_free hbusy]
    refine ModeFollows.commitEff (reads_modeFollows.keep (takeSlots_frame f s) (by decide) hs) fun hf => ?_
    subst hf
    have hsteer : (takeSlots .steermode s).steering = s.steering := takeSlots_frame _ s .steering (by decide)
    exact ⟨hsteer ▸ consumerBusy_steermode_false hbusy, entryFrom_steermode_blend _ _ _⟩

/-- The effective STEERMODE never blends, so that a blend step is another function's (R48). -/
theorem ModeFollows.blendStep {s : State} (hs : ModeFollows s) (f : Fn) : ModeFollows (blendStep f s) := by
  unfold Machine.blendStep
  split
  · exact hs
  next b hb =>
    have hf : f ≠ .steermode := by
      rintro rfl
      rw [hs.noBlend] at hb
      cases hb
    have hadvanced : ∀ e, ModeFollows (setEff s f e) := fun e =>
      hs.of_same rfl rfl rfl (effOf_setEff_ne s (Ne.symm hf) _)
    exact ModeFollows.commitEff (reads_modeFollows.keep (takeSlots_frame f _) (by decide) (hadvanced _))
      fun h => absurd h hf

theorem packKept_modeFollows : PackKept ModeFollows := by
  have hresolver : ResolverKept ModeFollows := {
    beside := fun h => reads_modeFollows.keep h (by decide)
    slot := fun m f x _ => reads_modeFollows.keep (setSlot_frame _ m f x) (by decide)
    grant := fun f g hs => hs.of_same rfl rfl rfl rfl
    resolve := fun f byMark hs => hs.resolve f byMark
    blendStep := fun f hs => hs.blendStep f }
  exact hresolver.packKept reads_modeFollows (by decide) fun _ hs => hs.of_same rfl rfl rfl rfl

/-! ### The steering update -/

theorem ModeFollows.speedTest {s : State} (hs : ModeFollows s) : ModeFollows (speedTest s) := by
  unfold Machine.speedTest
  split
  next m hstate hnext =>
    split
    · have hmatched := hs.matched
      rw [ModeMatches, hstate, hnext] at hmatched
      exact ⟨hmatched, hs.noBlend⟩
    · exact hs
  · exact hs

/-- At the end of a slew the mode becomes the next mode, which is the effective STEERMODE (R65). -/
theorem ModeFollows.settleMode {s : State} (hs : ModeFollows s) (hslew : s.steering.state = .slewing) :
    ModeFollows (settleMode s) := by
  have hnext : s.steering.next = some (modeOfIndex (effective s .steermode)) := by
    have hmatched := hs.matched
    rwa [ModeMatches, hslew] at hmatched
  have hsettled : ModeFollows (s.setSteering
      { s.steering with mode := s.steering.next.getD s.steering.mode, next := none, state := .settled }) :=
    ⟨by rw [hnext]; exact rfl, hs.noBlend⟩
  exact (packKept_modeFollows.raise .modeSettled hsettled).resolve .steermode false

theorem ModeFollows.rearStage {s : State} (hs : ModeFollows s) : ModeFollows (rearStage s) := by
  have hset : ∀ v, ModeFollows (s.setSteering { s.steering with rearOut := v }) := fun v => hs.of_same rfl rfl rfl rfl
  have h : ∀ (p : Prop) [Decidable p] v, (p → s.steering.state = .slewing) →
      ModeFollows (if p then Machine.settleMode (s.setSteering { s.steering with rearOut := v })
        else s.setSteering { s.steering with rearOut := v }) := by
    intro p _ v hp
    split
    next hend => exact (hset v).settleMode (hp hend)
    · exact hset v
  exact h _ _ And.left

theorem ModeFollows.steeringUpdate {s : State} (hs : ModeFollows s) : ModeFollows (steeringUpdate s) := by
  have hbegun : ModeFollows (beginFrame s) := hs.of_same rfl rfl rfl rfl
  have htargets : ModeFollows (targetStage (Machine.speedTest (beginFrame s))) :=
    hbegun.speedTest.of_same rfl rfl rfl rfl
  exact htargets.rearStage.of_same rfl rfl rfl rfl

/-! ### Every step -/

theorem ModeFollows.sectionActs {s : State} (hs : ModeFollows s) (old : Profile) (d : SectionData) :
    ModeFollows (sectionActs old d s) := by
  have hP := packKept_modeFollows
  cases d with
  | sources v => exact hP.sourcesActs _ hs
  | map v => exact hs
  | authority v => exact hP.authorityActs hs
  | failsafe v => exact hP.failsafeActs _ hs
  | geometry v => exact reads_modeFollows.keep (geometryActs_frame_only _) (by decide) hs
  | drive v => exact driveActs_keeps (P := ModeFollows) (fun _ => hP.recoveryDriveTest) reads_modeFollows (by decide) _ hs
  | winch v => exact reads_modeFollows.keep (winchActsOn_frame _ _) (by decide) hs
  | pack v => exact hP.packActs (fun v => reads_modeFollows.keep (setSense_frame_only _ v) (by decide)) _ hs
  | lamps v => exact reads_modeFollows.keep (lampResolve_frame _) (by decide) hs
  | scene i v => exact reads_modeFollows.keep (sceneActs_frame i _) (by decide) hs
  | reply v => exact hs

theorem effOf_tick (s : State) (f : Fn) : effOf (tick s) f = tickEff (effOf s f) := PerFn.get_of _ f

theorem ModeFollows.event {s t : State} (hs : ModeFollows s) (h : Event s t) : ModeFollows t := by
  cases h with
  | quiet h => exact reads_modeFollows.keep h (by decide) hs
  | context h => exact packKept_modeFollows.context hs h
  | wheel h => exact reads_modeFollows.keep h.frame (by decide) hs
  | winch h => exact reads_modeFollows.keep h.frame (by decide) hs
  | pack h => exact packKept_modeFollows.pack hs h
  | write h =>
    obtain ⟨_, _⟩ := h
    exact ModeFollows.sectionActs (s := writeLive _ s) (hs.of_same rfl rfl rfl rfl) _ _
  | steering => exact hs.steeringUpdate
  | apportion => exact reads_modeFollows.keep (apportion_frame_only s) (by decide) hs
  | tick =>
    obtain ⟨hmatched, hblend⟩ := hs
    refine ⟨?_, ?_⟩
    · rw [effective, effOf_tick]
      exact hmatched
    · rw [effOf_tick, tickEff, hblend]
      rfl

theorem startOutputs_steering (pins : Pins) (s : State) : (startOutputs pins s).steering =
    Steering.reset (modeOfIndex (effective s .steermode)) (effective s .steer) s.profile.geometry := by
  have hhook : ∀ t, (startHook pins t).steering = t.steering := fun t => startHook_frame pins t .steering (by decide)
  have hlamps : ∀ t, (lampResolve t).steering = t.steering := fun t => lampResolve_frame t .steering (by decide)
  unfold startOutputs
  dsimp only
  rw [hlamps, State.setLamps_steering, hhook, State.setWinch_steering, State.setDrive_steering, State.setSteering_steering]

theorem firstResolution_steermode_blend {s : State} (hs : (effOf s .steermode).blend = none) :
    (effOf (firstResolution s) .steermode).blend = none := by
  refine foldl_keeps (P := fun t => (effOf t .steermode).blend = none) (fun t f ht => ?_) _ s hs
  unfold firstEntry
  by_cases hf : f = .steermode
  · subst hf
    rw [effOf_setEff_same]
    exact entryFrom_steermode_blend _ _ _
  · rwa [effOf_setEff_ne _ (Ne.symm hf)]

theorem startOutputs_frame_resolver (pins : Pins) (s : State) : (startOutputs pins s).resolver = s.resolver :=
  startOutputs_frame pins s .resolver (by decide)

theorem modeFollows_startUp (pins : Pins) (s : State) : ModeFollows (startUp pins s) := by
  have houtputs : ∀ u, (effOf u .steermode).blend = none → ModeFollows (startOutputs pins (firstResolution u)) := by
    intro u hu
    have heff := (startOutputs_frame pins (firstResolution u)).effOf (by decide) .steermode
    refine ⟨?_, by rw [heff]; exact firstResolution_steermode_blend hu⟩
    rw [effective, heff, startOutputs_steering]
    exact rfl
  have hbase := (startNotices_frame (loadAll (flashAfterReset s.store)).defaulted
    (resetBase (settleReset s.retained) (flashAfterReset s.store) (loadAll (flashAfterReset s.store)).profile pins
      s.pending)).effOf (by decide) .steermode
  exact startRecovery_keeps (P := ModeFollows) (fun _ => packKept_modeFollows.recoveryDriveTest)
    (houtputs _ (by rw [hbase]; rfl))

/-- Settles O9. -/
theorem steeringModeKeepsFollowing : Obligations.SteeringModeKeepsFollowing := by
  unfold Obligations.SteeringModeKeepsFollowing
  exact fun s t hs hstep => step_keeps (fun _ _ hu h => hu.event h) modeFollows_startUp hs hstep

end Sys2Proof.Machine
end

section
/-! PROOFS. The wheel channels: what one event makes of one channel. -/
namespace Sys2Proof.Machine

/-- What an event of the wheel channels makes of one channel. -/
inductive ChannelChange (s : State) (c : Channel) : Channel → Prop
  | same : ChannelChange s c c
  | edge (micros : Nat) : ChannelChange s c (edgeAtChannel s.profile.drive micros c)
  | stopped : ChannelChange s c { c with speed := 0, timing := false, carry := 0, edgeIdle := Config.speedTimeout }
  | updated (w : Wheel) : ChannelChange s c { updatedChannel s w c with timer := Config.wheelPeriod }
  | sampled (current : Nat) : ChannelChange s c (sampledChannel s current c)
  | retried : ChannelChange s c (if inBand s (effective s .drive) then toDrag (effective s .drag) c else toRun c)
  | cleared : ChannelChange s c (clearedChannel (effective s .drag) c)

theorem channelChange_setChan {s : State} {w : Wheel} {c : Channel} (h : ChannelChange s (chan s w) c) (v : Wheel) :
    ChannelChange s (chan s v) (chan (setChan s w c) v) := by
  by_cases hv : v = w
  · rw [hv, chan_setChan_same]; exact h
  · rw [chan_setChan_ne s hv]; exact .same

theorem chan_holdStill (s : State) (w : Wheel) : chan (holdStill s) w = chan s w := by
  unfold holdStill
  split <;> rfl

theorem WheelEvent.channel {s t : State} (h : WheelEvent s t) (v : Wheel) : ChannelChange s (chan s v) (chan t v) := by
  have hlamps : ∀ b u, chan (lampsIfRest b u) v = chan u v := fun b u => (lampsIfRest_frame b u).chan (by decide) v
  cases h with
  | hallEdge w micros => rw [Machine.hallEdge, chan_holdStill]; exact channelChange_setChan (.edge micros) v
  | speedExpires w => exact channelChange_setChan .stopped v
  | wheelUpdate w => rw [Machine.wheelUpdate, hlamps]; exact channelChange_setChan (.updated w) v
  | sampleWheel w current =>
    rw [Machine.sampleWheel, (tripNotices_frame _ _ _).chan (by decide)]
    exact channelChange_setChan (.sampled current) v
  | retryExpires w =>
    rw [Machine.retryExpires]
    split
    · rw [hlamps]; exact channelChange_setChan .retried v
    · exact .same
  | lockoutClears w =>
    rw [Machine.lockoutClears]
    split
    · exact channelChange_setChan .cleared v
    · exact .same
  | stillExpires =>
    rw [Machine.stillExpires]
    split <;> exact .same

end Sys2Proof.Machine
end

section
/-! PROOFS. The wheel channels' outputs stay within their bounds. -/
namespace Sys2Proof.Machine

/-- The bounds of one channel: the top duty, and the transition limit where one rules. -/
structure ChannelBounded (top : Nat) (limit : Option Nat) (c : Channel) : Prop where
  rest : RestsAtZero c
  slip : c.slip ≤ 600
  limiter : c.limiter ≤ 1000
  duty : c.duty.natAbs ≤ top
  target : ∀ l, limit = some l → c.target.natAbs ≤ l

/-- The transition limit rules while the busy mark is set (R66, R84). -/
def transitionLimit (s : State) : Option Nat := if busy s then some s.profile.geometry.transition else none

theorem transitionLimit_eq_some_iff (s : State) (l : Nat) :
    transitionLimit s = some l ↔ busy s = true ∧ s.profile.geometry.transition = l := by
  unfold transitionLimit
  split <;> simp_all

theorem wheelsBounded_iff (s : State) :
    WheelsBounded s ↔ ∀ w, ChannelBounded (topDuty s) (transitionLimit s) (chan s w) := by
  constructor
  · rintro ⟨hrest, htrims, htop, htransition⟩ w
    refine ⟨hrest w, (htrims w).1, (htrims w).2, htop w, fun l hl => ?_⟩
    obtain ⟨hbusy, rfl⟩ := (transitionLimit_eq_some_iff s l).mp hl
    exact htransition hbusy w
  · intro h
    refine ⟨fun w => (h w).rest, fun w => ⟨(h w).slip, (h w).limiter⟩, fun w => (h w).duty, fun hbusy w => ?_⟩
    exact (h w).target _ ((transitionLimit_eq_some_iff s _).mpr ⟨hbusy, rfl⟩)

/-! ### One channel -/

theorem natAbs_clampI_le (n : Nat) (z : Int) : (clampI (-(n : Int)) n z).natAbs ≤ n := by
  unfold clampI
  omega

theorem natAbs_clampI_le_natAbs (n : Nat) (z : Int) : (clampI (-(n : Int)) n z).natAbs ≤ z.natAbs := by
  unfold clampI
  omega

/-- A trim in permille brings a command no further from 0 (R85, R86). -/
theorem natAbs_trimmed_le (c : Int) {trim : Nat} (h : trim ≤ 1000) : (trimmed c trim).natAbs ≤ c.natAbs := by
  have hfactor : (1000 - (trim : Int)).natAbs ≤ 1000 := by omega
  unfold trimmed
  rw [Int.natAbs_tdiv, Int.natAbs_mul]
  exact Nat.div_le_of_le_mul (by rw [Nat.mul_comm]; exact Nat.mul_le_mul_right _ hfactor)

theorem slipAfter_le (slipping : Bool) {trim : Nat} (h : trim ≤ 600) : slipAfter slipping trim ≤ 600 := by
  unfold slipAfter
  split <;> omega

theorem limiterAfter_le (current limit : Nat) {trim : Nat} (h : trim ≤ 1000) : limiterAfter current limit trim ≤ 1000 := by
  unfold limiterAfter
  split
  · omega
  · split <;> omega

namespace ChannelBounded
variable {top : Nat} {limit : Option Nat} {c : Channel} (hc : ChannelBounded top limit c)
include hc

theorem of_same {d : Channel} (hstate : d.state = c.state) (hcommand : d.command = c.command)
    (htarget : d.target = c.target) (hduty : d.duty = c.duty) (hclaim : d.claim = c.claim) (hslip : d.slip ≤ 600)
    (hlimiter : d.limiter ≤ 1000) : ChannelBounded top limit d := by
  refine ⟨?_, hslip, hlimiter, hduty ▸ hc.duty, htarget ▸ hc.target⟩
  rw [RestsAtZero, hstate, hcommand, htarget, hduty, hclaim]
  exact hc.rest

theorem stopAs (st : ChanState) : ChannelBounded top limit (stopAs st c) :=
  ⟨fun _ => ⟨rfl, rfl, rfl, rfl⟩, hc.slip, hc.limiter, Nat.zero_le _, fun _ _ => Nat.zero_le _⟩

theorem toDrag (drag : Int) : ChannelBounded top limit (toDrag drag c) :=
  (hc.stopAs .drag).of_same rfl rfl rfl rfl rfl hc.slip hc.limiter

theorem toRun : ChannelBounded top limit (toRun c) := (hc.stopAs .run).of_same rfl rfl rfl rfl rfl hc.slip hc.limiter

theorem clearedChannel (drag : Int) : ChannelBounded top limit (clearedChannel drag c) :=
  (hc.toDrag drag).of_same rfl rfl rfl rfl rfl hc.slip hc.limiter

theorem decayTrims : ChannelBounded top limit (decayTrims c) :=
  hc.of_same rfl rfl rfl rfl rfl ((Nat.sub_le _ _).trans hc.slip) ((Nat.sub_le _ _).trans hc.limiter)

theorem edgeAtChannel (p : DriveSection) (micros : Nat) : ChannelBounded top limit (edgeAtChannel p micros c) := by
  unfold Machine.edgeAtChannel
  split
  · dsimp only
    split <;> exact hc.of_same rfl rfl rfl rfl rfl hc.slip hc.limiter
  · exact hc.of_same rfl rfl rfl rfl rfl hc.slip hc.limiter

theorem sampledChannel (s : State) (current : Nat) : ChannelBounded top limit (sampledChannel s current c) := by
  have hstop : ∀ st, ChannelBounded top limit (Machine.stopAs st { c with current := current }) := fun st =>
    (hc.of_same rfl rfl rfl rfl rfl hc.slip hc.limiter : ChannelBounded top limit { c with current := current }).stopAs st
  unfold Machine.sampledChannel
  dsimp only
  split
  · split
    · exact hc.of_same rfl rfl rfl rfl rfl hc.slip hc.limiter
    · split
      · exact (hstop .tripped).of_same rfl rfl rfl rfl rfl hc.slip hc.limiter
      · exact (hstop .lockedOut).of_same rfl rfl rfl rfl rfl hc.slip hc.limiter
  · exact hc.of_same rfl rfl rfl rfl rfl hc.slip hc.limiter

/-- A new top brings every duty within it (R87). -/
theorem clampDuty (newTop : Nat) :
    ChannelBounded newTop limit { c with duty := clampI (-(newTop : Int)) newTop c.duty } := by
  refine ⟨fun hrun => ?_, hc.slip, hc.limiter, natAbs_clampI_le _ _, hc.target⟩
  obtain ⟨hcommand, htarget, hduty, hclaim⟩ := hc.rest hrun
  refine ⟨hcommand, htarget, ?_, hclaim⟩
  show clampI _ _ c.duty = 0
  rw [hduty, clampI]
  omega

theorem driveAtChannel (band : Bool) (drag : Int) : ChannelBounded top limit (driveAtChannel band drag c) := by
  unfold Machine.driveAtChannel
  split
  · split
    · exact hc.toDrag drag
    · exact hc
  · exact hc.of_same rfl rfl rfl rfl rfl hc.slip hc.limiter
  · exact hc
  · exact hc

theorem bandAtLockout (moved band : Bool) : ChannelBounded top limit (bandAtLockout moved band c) := by
  unfold Machine.bandAtLockout
  split
  · exact hc.of_same rfl rfl rfl rfl rfl hc.slip hc.limiter
  · exact hc

theorem clearByTime (time : Nat) (drag : Int) : ChannelBounded top limit (clearByTime time drag c) := by
  unfold Machine.clearByTime
  split
  · split
    · exact hc.clearedChannel drag
    · exact hc
  · exact hc

/-- The transition limit put on a channel: a channel in RUN is clamped, and another has target 0 (R84). -/
theorem clampTarget (l : Nat) : ChannelBounded top (some l)
    (if c.state = .run then
      { c with command := clampI (-(l : Int)) l c.command, target := clampI (-(l : Int)) l c.target }
    else c) := by
  split
  next hrun =>
    exact ⟨fun h => absurd hrun h, hc.slip, hc.limiter, hc.duty, fun l' hl' => by
      cases hl'
      exact natAbs_clampI_le _ _⟩
  next hrun =>
    obtain ⟨_, htarget, _, _⟩ := hc.rest hrun
    exact ⟨hc.rest, hc.slip, hc.limiter, hc.duty, fun l' _ => by simp [htarget]⟩

end ChannelBounded

theorem natAbs_wheelCommand_le {s : State} {l : Nat} (h : transitionLimit s = some l) (w : Wheel) :
    (wheelCommand s w).natAbs ≤ l := by
  obtain ⟨hbusy, rfl⟩ := (transitionLimit_eq_some_iff s l).mp h
  unfold wheelCommand transitionClamp
  rw [if_pos hbusy]
  exact natAbs_clampI_le _ _

/-- The drive chain leaves a channel in RUN within its bounds (R84 to R87). -/
theorem channelBounded_chainStages {s : State} {c : Channel} (w : Wheel) (hrun : c.state = .run) (hslip : c.slip ≤ 600)
    (hlimiter : c.limiter ≤ 1000) : ChannelBounded (topDuty s) (transitionLimit s) (chainStages s w c) := by
  have hslip' := slipAfter_le
    (slips s w { c with command := wheelCommand s w, ratio := s.steering.geometry.ratios.get w }) hslip
  have hlimiter' := limiterAfter_le c.current c.limit hlimiter
  refine ⟨fun h => absurd hrun h, hslip', hlimiter', natAbs_clampI_le _ _, fun l hl => ?_⟩
  exact ((natAbs_trimmed_le _ hlimiter').trans (natAbs_trimmed_le _ (hslip'.trans (by decide)))).trans
    (natAbs_wheelCommand_le hl w)

theorem ChannelBounded.updatedChannel {s : State} {c : Channel}
    (hc : ChannelBounded (topDuty s) (transitionLimit s) c) (w : Wheel) :
    ChannelBounded (topDuty s) (transitionLimit s) (updatedChannel s w c) := by
  unfold Machine.updatedChannel
  split
  next hrun =>
    split
    · exact (hc.toDrag _).decayTrims
    · exact channelBounded_chainStages w hrun hc.slip hc.limiter
  · split
    · exact hc.decayTrims
    · exact channelBounded_chainStages w rfl hc.slip hc.limiter
  · exact hc.decayTrims
  · exact hc.decayTrims

theorem ChannelBounded.change {s : State} {c d : Channel} (hc : ChannelBounded (topDuty s) (transitionLimit s) c)
    (h : ChannelChange s c d) : ChannelBounded (topDuty s) (transitionLimit s) d := by
  cases h with
  | same => exact hc
  | edge micros => exact hc.edgeAtChannel _ micros
  | stopped => exact hc.of_same rfl rfl rfl rfl rfl hc.slip hc.limiter
  | updated w =>
    have hupdated := hc.updatedChannel w
    exact hupdated.of_same rfl rfl rfl rfl rfl hupdated.slip hupdated.limiter
  | sampled current => exact hc.sampledChannel s current
  | retried =>
    split
    · exact hc.toDrag _
    · exact hc.toRun
  | cleared => exact hc.clearedChannel _

/-! ### The operations keep the bounds -/

theorem topDuty_congr {s t : State} (heff : effOf t .range = effOf s .range) (hdrive : t.profile.drive = s.profile.drive) :
    topDuty t = topDuty s := by
  unfold topDuty effective
  rw [heff, hdrive]

theorem transitionLimit_congr {s t : State} (hstate : t.steering.state = s.steering.state)
    (hgeometry : t.profile.geometry = s.profile.geometry) : transitionLimit t = transitionLimit s := by
  unfold transitionLimit busy
  rw [hstate, hgeometry]

theorem WheelsBounded.of_channels {s t : State} (hs : WheelsBounded s) (hrange : effOf t .range = effOf s .range)
    (hsteer : t.steering.state = s.steering.state) (hprofile : t.profile = s.profile)
    (hchan : ∀ w, ChannelBounded (topDuty s) (transitionLimit s) (chan s w) →
      ChannelBounded (topDuty s) (transitionLimit s) (chan t w)) : WheelsBounded t := by
  rw [wheelsBounded_iff] at hs ⊢
  rw [topDuty_congr hrange (by rw [hprofile]), transitionLimit_congr hsteer (by rw [hprofile])]
  exact fun w => hchan w (hs w)

theorem reads_wheelsBounded : Reads [.drive, .resolver, .steering, .profile] WheelsBounded := by
  intro s t hsame hs
  have hdrive : t.drive = s.drive := hsame .drive (by decide)
  have hres : t.resolver = s.resolver := hsame .resolver (by decide)
  have hsteer : t.steering = s.steering := hsame .steering (by decide)
  refine hs.of_channels (by simp only [effOf, hres]) (by rw [hsteer]) (hsame .profile (by decide)) fun w h => ?_
  rwa [chan, hdrive]

theorem WheelsBounded.mapChans {s : State} (hs : WheelsBounded s) {g : Channel → Channel}
    (hg : ∀ c, ChannelBounded (topDuty s) (transitionLimit s) c → ChannelBounded (topDuty s) (transitionLimit s) (g c)) :
    WheelsBounded (mapChans s g) :=
  hs.of_channels rfl rfl rfl fun w h => by rw [chan_mapChans]; exact hg _ h

/-- A new RANGE, or new tops, brings every duty within the top in force (R87). -/
theorem wheelsBounded_rangeHanded {s : State} {top : Nat}
    (h : ∀ w, ChannelBounded top (transitionLimit s) (chan s w)) : WheelsBounded (rangeHanded s) := by
  rw [wheelsBounded_iff]
  intro w
  rw [rangeHanded, chan_mapChans]
  exact (h w).clampDuty (topDuty s)

/-- The busy clamp brings every duty target within the transition limit (R84). -/
theorem wheelsBounded_busyClamp {s : State} {limit : Option Nat}
    (h : ∀ w, ChannelBounded (topDuty s) limit (chan s w)) : WheelsBounded (busyClamp s) := by
  rw [wheelsBounded_iff]
  intro w
  have hclamped : ChannelBounded (topDuty s) (some s.profile.geometry.transition) (chan (busyClamp s) w) := by
    rw [busyClamp, chan_mapChans]
    exact (h w).clampTarget s.profile.geometry.transition
  refine ⟨hclamped.rest, hclamped.slip, hclamped.limiter, hclamped.duty, fun l hl => ?_⟩
  obtain ⟨_, rfl⟩ := (transitionLimit_eq_some_iff _ l).mp hl
  exact hclamped.target _ rfl

theorem wheelsBounded_of_not_busy {s t : State} (hs : WheelsBounded s) (hframe : SameExcept [.steering] s t)
    (hfree : busy t = false) : WheelsBounded t := by
  have hrange := hframe.effOf (by decide) .range
  have hprofile : t.profile = s.profile := hframe .profile (by decide)
  obtain ⟨hrest, htrims, htop, _⟩ := hs
  have hchan : ∀ w, chan t w = chan s w := hframe.chan (by decide)
  refine ⟨fun w => hchan w ▸ hrest w, fun w => hchan w ▸ htrims w, fun w => ?_, fun h => by simp [hfree] at h⟩
  rw [hchan, topDuty_congr hrange (by rw [hprofile])]
  exact htop w

theorem WheelsBounded.enterSlew {s : State} (hs : WheelsBounded s) (m : SteerMode) : WheelsBounded (enterSlew m s) :=
  wheelsBounded_busyClamp (s := s.setSteering _) (limit := transitionLimit s) ((wheelsBounded_iff s).mp hs)

theorem WheelsBounded.modeHanded {s : State} (hs : WheelsBounded s) : WheelsBounded (modeHanded s) := by
  unfold Machine.modeHanded
  dsimp only
  split
  · split
    · exact wheelsBounded_of_not_busy hs (setSteering_frame_only s _) rfl
    · exact hs.enterSlew _
  next hwaiting =>
    split
    · exact wheelsBounded_of_not_busy hs (setSteering_frame_only s _) rfl
    · exact wheelsBounded_of_not_busy hs (setSteering_frame_only s _) (by simp [busy, hwaiting])
  · exact hs

theorem WheelsBounded.lampResolve {s : State} : WheelsBounded s → WheelsBounded (lampResolve s) :=
  reads_wheelsBounded.keep (lampResolve_frame s) (by decide)

theorem WheelsBounded.handOn {s : State} (hs : WheelsBounded s) {f : Fn} (hf : f ≠ .range) : WheelsBounded (handOn f s) := by
  cases f with
  | drive => exact WheelsBounded.lampResolve (hs.mapChans fun _ hc => hc.driveAtChannel _ _)
  | steer => exact WheelsBounded.lampResolve (hs.of_channels rfl rfl rfl fun _ hc => hc)
  | steermode => exact hs.modeHanded
  | winch => exact reads_wheelsBounded.keep (winchHanded_frame s) (by decide) hs
  | drag =>
    refine WheelsBounded.lampResolve (hs.mapChans fun c hc => ?_)
    split
    · exact hc.of_same rfl rfl rfl rfl rfl hc.slip hc.limiter
    · exact hc
  | range => exact absurd rfl hf
  | scene => exact reads_wheelsBounded.keep (sceneHanded_frame s) (by decide) hs

theorem WheelsBounded.setEff_of_value {s : State} (hs : WheelsBounded s) {f : Fn} {e : Eff}
    (he : e.value = effective s f) : WheelsBounded (setEff s f e) := by
  have htop : topDuty (setEff s f e) = topDuty s := by
    by_cases hf : f = .range
    · subst hf
      have heff : effective (setEff s .range e) .range = effective s .range := by
        rw [effective, effOf_setEff_same, he]
      unfold topDuty
      rw [heff]
      rfl
    · exact topDuty_congr (effOf_setEff_ne s (Ne.symm hf) e) rfl
  rw [wheelsBounded_iff] at hs ⊢
  rw [htop]
  exact hs

theorem WheelsBounded.commitEff {s : State} (hs : WheelsBounded s) (f : Fn) (e : Eff) : WheelsBounded (commitEff f e s) := by
  unfold Machine.commitEff
  refine reads_wheelsBounded.keep (handUnderlying_frame _ _) (by decide) ?_
  by_cases hf : f = .range
  · subst hf
    split
    next hsame => exact hs.setEff_of_value hsame
    · exact wheelsBounded_rangeHanded (s := setEff s .range e) ((wheelsBounded_iff s).mp hs)
  · have hset : WheelsBounded (setEff s f e) := hs.of_channels (effOf_setEff_ne s (Ne.symm hf) e) rfl rfl fun _ hc => hc
    split
    · exact hset
    · exact hset.handOn hf

theorem packKept_wheelsBounded : PackKept WheelsBounded := by
  have hresolver : ResolverKept WheelsBounded := {
    beside := fun h => reads_wheelsBounded.keep h (by decide)
    slot := fun m f x _ => reads_wheelsBounded.keep (setSlot_frame _ m f x) (by decide)
    grant := fun f g hs => hs.of_channels rfl rfl rfl fun _ hc => hc
    resolve := by
      intro s f byMark hs
      cases hbusy : consumerBusy s f with
      | true => rw [resolve_of_busy hbusy]; exact hs
      | false =>
        rw [resolve_of_free hbusy]
        exact (reads_wheelsBounded.keep (takeSlots_frame f s) (by decide) hs).commitEff f _
    blendStep := by
      intro s f hs
      unfold blendStep
      split
      · exact hs
      · refine WheelsBounded.commitEff (reads_wheelsBounded.keep (takeSlots_frame f _) (by decide) ?_) f _
        exact hs.setEff_of_value rfl }
  exact hresolver.packKept reads_wheelsBounded (by decide) fun _ hs => hs.of_channels rfl rfl rfl fun _ hc => hc

/-! ### Every step -/

/-- A DRIVE write brings every duty within the new top (R98). -/
theorem wheelsBounded_driveActs {s : State} {top : Nat} (h : ∀ w, ChannelBounded top (transitionLimit s) (chan s w))
    (old : DriveSection) : WheelsBounded (driveActs old s) := by
  have hacts : ∀ (p : Prop) [Decidable p] t, SameExcept winchTouches t (if p then t else winchActs t) := by
    intro p _ t
    split
    · exact .refl _ t
    · exact winchActs_frame t
  have htest := recoveryDriveTest_frame_only s
  have hacted := fun (p : Prop) [Decidable p] g => hacts p (mapChans (recoveryDriveTest s) g)
  refine (wheelsBounded_rangeHanded (top := top) fun w => ?_).mapChans fun _ hc => hc.clearByTime _ _
  rw [(hacted _ _).chan (by decide), chan_mapChans, htest.chan (by decide)]
  have hlimit : ∀ t, SameExcept (.protection :: .drive :: winchTouches) s t → transitionLimit t = transitionLimit s :=
    fun t ht => transitionLimit_congr (congrArg Steering.state (ht .steering (by decide)))
      (congrArg Profile.geometry (ht .profile (by decide)))
  rw [hlimit _ (((htest.mono (by decide)).trans ((mapChans_frame _ _).mono (by decide))).trans
    ((hacted _ _).mono (by decide)))]
  exact (h w).bandAtLockout _ _

theorem WheelsBounded.write {s t : State} (hs : WheelsBounded s) (h : WriteEvent s t) : WheelsBounded t := by
  obtain ⟨hparked, hbody⟩ := h
  rename_i k body d
  clear hparked hbody
  have hchans := (wheelsBounded_iff s).mp hs
  have hlive : ∀ p : Profile, p.drive = s.profile.drive → p.geometry = s.profile.geometry →
      WheelsBounded (s.setProfile p) := by
    intro p hdrive hgeometry
    rw [wheelsBounded_iff, topDuty_congr (s := s) (t := s.setProfile p) rfl hdrive,
      transitionLimit_congr (s := s) (t := s.setProfile p) rfl hgeometry]
    exact hchans
  have hP := packKept_wheelsBounded
  cases d with
  | sources v => exact hP.sourcesActs _ (hlive _ rfl rfl)
  | map v => exact hlive _ rfl rfl
  | authority v => exact hP.authorityActs (hlive _ rfl rfl)
  | failsafe v => exact hP.failsafeActs _ (hlive _ rfl rfl)
  | geometry v =>
    show WheelsBounded (geometryActs (s.setProfile { s.profile with geometry := v }))
    have htop : ∀ w, ChannelBounded (topDuty (s.setProfile { s.profile with geometry := v })) (transitionLimit s)
        (chan s w) := hchans
    unfold geometryActs
    split
    · exact wheelsBounded_busyClamp htop
    next hfree =>
      obtain ⟨hrest, htrims, htop, _⟩ := hs
      exact ⟨hrest, htrims, htop, fun hbusy => absurd hbusy hfree⟩
  | drive v => exact wheelsBounded_driveActs (s := s.setProfile { s.profile with drive := v }) hchans _
  | winch v => exact reads_wheelsBounded.keep (winchActsOn_frame _ _) (by decide) (hlive _ rfl rfl)
  | pack v => exact hP.packActs (fun v => reads_wheelsBounded.keep (setSense_frame_only _ v) (by decide)) _ (hlive _ rfl rfl)
  | lamps v => exact WheelsBounded.lampResolve (hlive _ rfl rfl)
  | scene i v => exact reads_wheelsBounded.keep (sceneActs_frame i _) (by decide) (hlive _ rfl rfl)
  | reply v => exact hlive _ rfl rfl

theorem WheelsBounded.steeringUpdate {s : State} (hs : WheelsBounded s) : WheelsBounded (steeringUpdate s) := by
  have hkeep : ∀ t v, WheelsBounded t → Steering.state v = t.steering.state → WheelsBounded (t.setSteering v) :=
    fun t v ht hv => ht.of_channels rfl hv rfl fun _ hc => hc
  have hbegun : WheelsBounded (beginFrame s) := hkeep _ _ hs rfl
  have hspeed : WheelsBounded (speedTest (beginFrame s)) := by
    unfold speedTest
    split
    · split
      · exact hbegun.enterSlew _
      · exact hbegun
    · exact hbegun
  have htargets : WheelsBounded (targetStage (speedTest (beginFrame s))) := hkeep _ _ hspeed rfl
  have hrear : WheelsBounded (rearStage (targetStage (speedTest (beginFrame s)))) := by
    have hset : ∀ v, WheelsBounded ((targetStage (speedTest (beginFrame s))).setSteering
        { (targetStage (speedTest (beginFrame s))).steering with rearOut := v }) := fun v => hkeep _ _ htargets rfl
    have hpick : ∀ (p : Prop) [Decidable p] t, WheelsBounded t → WheelsBounded (if p then settleMode t else t) := by
      intro p _ t ht
      split
      · refine packKept_wheelsBounded.resolve _ _ (packKept_wheelsBounded.raise _ ?_)
        exact wheelsBounded_of_not_busy ht (setSteering_frame_only t _) rfl
      · exact ht
    exact hpick _ _ (hset _)
  exact hkeep _ _ hrear rfl

theorem chan_tick (s : State) (w : Wheel) : chan (tick s) w = tickChannel (chan s w) := PerWheel.get_map ..

theorem WheelsBounded.event {s t : State} (hs : WheelsBounded s) (h : Event s t) : WheelsBounded t := by
  cases h with
  | quiet h => exact reads_wheelsBounded.keep h (by decide) hs
  | context h => exact packKept_wheelsBounded.context hs h
  | wheel h =>
    exact hs.of_channels (h.frame.effOf (by decide) _) (congrArg Steering.state (h.frame .steering (by decide)))
      (h.frame .profile (by decide)) fun w hc => hc.change (h.channel w)
  | winch h => exact reads_wheelsBounded.keep h.frame (by decide) hs
  | pack h => exact packKept_wheelsBounded.pack hs h
  | write h => exact hs.write h
  | steering => exact hs.steeringUpdate
  | apportion =>
    have hframe := apportion_frame_only s
    refine hs.of_channels (hframe.effOf (by decide) _) (congrArg Steering.state (hframe .steering (by decide)))
      (hframe .profile (by decide)) fun w hc => ?_
    rw [chan_apportion]
    exact hc.of_same rfl rfl rfl rfl rfl hc.slip hc.limiter
  | tick =>
    have hrange : effOf (tick s) .range = tickEff (effOf s .range) := effOf_tick s .range
    have htop : topDuty (tick s) = topDuty s := by
      simp only [topDuty, effective, hrange, tickEff]
      rfl
    rw [wheelsBounded_iff] at hs ⊢
    intro w
    rw [htop, chan_tick]
    exact (hs w).of_same rfl rfl rfl rfl rfl (hs w).slip (hs w).limiter

theorem startOutputs_drive (pins : Pins) (s : State) :
    (startOutputs pins s).drive = DriveUnit.reset (effective s .drag) := by
  have hhook : ∀ t, (startHook pins t).drive = t.drive := fun t => startHook_frame pins t .drive (by decide)
  have hlamps : ∀ t, (lampResolve t).drive = t.drive := fun t => lampResolve_frame t .drive (by decide)
  unfold startOutputs
  dsimp only
  rw [hlamps, State.setLamps_drive, hhook, State.setWinch_drive, State.setDrive_drive]

theorem startUp_chan (pins : Pins) (s : State) : ∃ drag, ∀ w, chan (startUp pins s) w = Channel.reset drag := by
  have hdrive : ∃ drag, (startUp pins s).drive = DriveUnit.reset drag :=
    ⟨_, (startRecovery_frame _ .drive (by decide)).trans (startOutputs_drive pins _)⟩
  obtain ⟨drag, hdrive⟩ := hdrive
  exact ⟨drag, fun w => by rw [chan, hdrive]; exact PerWheel.get_of _ w⟩

theorem wheelsBounded_startUp (pins : Pins) (s : State) : WheelsBounded (startUp pins s) := by
  obtain ⟨drag, hchan⟩ := startUp_chan pins s
  rw [wheelsBounded_iff]
  intro w
  rw [hchan]
  exact ⟨fun _ => ⟨rfl, rfl, rfl, rfl⟩, Nat.zero_le _, Nat.zero_le _, Nat.zero_le _, fun _ _ => Nat.zero_le _⟩

/-- Settles O11. -/
theorem wheelOutputsStayBounded : Obligations.WheelOutputsStayBounded := by
  unfold Obligations.WheelOutputsStayBounded
  exact fun s t hs hstep => step_keeps (fun _ _ hu h => hu.event h) wheelsBounded_startUp hs hstep

end Sys2Proof.Machine
end

section
/-! PROOFS. The vehicle stands under CUTOFF: an effective DRIVE and WINCH of 0 stop the wheels and the winch, whatever the
protection state. -/
namespace Sys2Proof.Machine

/-! ### The wheels -/

/-- No wheel channel is in RUN. -/
def NoneRunning (s : State) : Prop := ∀ w, (chan s w).state ≠ .run

theorem driveAtChannel_state_ne_run {band : Bool} (hband : band = true) (drag : Int) (c : Channel) :
    (driveAtChannel band drag c).state ≠ .run := by
  unfold driveAtChannel
  split
  · rw [if_pos hband]
    exact fun h => by cases h
  all_goals simp_all

/-- With the effective DRIVE within the neutral band no event takes a channel to RUN (R82, R93). -/
theorem ChannelChange.state_ne_run {s : State} {c d : Channel} (h : ChannelChange s c d)
    (hband : inBand s (effective s .drive) = true) (hc : c.state ≠ .run) : d.state ≠ .run := by
  cases h with
  | same => exact hc
  | edge micros =>
    unfold edgeAtChannel
    split
    · dsimp only
      split <;> exact hc
    · exact hc
  | stopped => exact hc
  | updated w =>
    show (updatedChannel s w c).state ≠ .run
    unfold updatedChannel
    split
    next hrun => exact absurd hrun hc
    next hdrag =>
      rw [if_pos hband]
      exact hc
    · exact hc
    · exact hc
  | sampled current =>
    unfold sampledChannel
    dsimp only
    split
    · split
      · exact hc
      · split <;> exact fun h => by cases h
    · exact hc
  | retried =>
    rw [if_pos hband]
    exact fun h => by cases h
  | cleared => exact fun h => by cases h

/-! ### The winch -/

/-- A winch that is not driven has duty 0. -/
def DutyRests (w : WinchUnit) : Prop := winchDriven w = false → w.duty = 0

theorem dutyRests_brakedIn (st : WinchState) (w : WinchUnit) : DutyRests (brakedIn st w) := fun _ => rfl

theorem dutyRests_of_driven {w : WinchUnit} (h : winchDriven w = true) : DutyRests w := fun h' => by simp [h] at h'

theorem dutyRests_dutyStages (p : WinchSection) (w : WinchUnit) : DutyRests (dutyStages p w) := by
  unfold dutyStages
  split
  next h => exact dutyRests_of_driven h
  · exact fun _ => rfl

/-- What the changes of winch state keep: the held WINCH, and a duty of 0 where the winch is not driven. -/
structure WinchMoved (s t : State) : Prop where
  held : t.winch.held = s.winch.held
  duty : DutyRests t.winch

theorem WinchMoved.braked {s t : State} {st : WinchState} (h : t.winch = brakedIn st s.winch) : WinchMoved s t :=
  ⟨by rw [h]; rfl, h ▸ dutyRests_brakedIn st _⟩

theorem winchMoved_goIdle (s : State) : WinchMoved s (goIdle s) := .braked (goIdle_winch s)

theorem winchMoved_goInward (s : State) : WinchMoved s (goInward s) := by
  have h := goInward_winch s
  split at h
  · exact .braked h
  · exact ⟨by rw [h]; rfl, h ▸ dutyRests_of_driven rfl⟩

theorem winchMoved_goOutward (s : State) : WinchMoved s (goOutward s) := by
  have h := goOutward_winch s
  split at h
  · exact .braked h
  · exact ⟨by rw [h]; rfl, h ▸ dutyRests_of_driven rfl⟩

theorem winchMoved_winchActs {s : State} (h : DutyRests s.winch) : WinchMoved s (winchActs s) :=
  winchActs_cases ⟨rfl, h⟩ (winchMoved_goIdle s) (winchMoved_goInward s) (winchMoved_goOutward s) fun _ _ => ⟨rfl, h⟩

/-- A held WINCH within the neutral band leaves the winch undriven (R104). -/
theorem winchActs_of_inBand {s : State} (h : inBand s s.winch.held = true) : winchDriven (winchActs s).winch = false := by
  unfold winchActs
  dsimp only
  split <;> simp [winchDriven, brakedIn, *]

theorem goByHeld_of_inBand {s : State} (h : inBand s s.winch.held = true) : winchDriven (goByHeld s).winch = false := by
  simp [goByHeld, h, winchDriven, brakedIn]

/-- What the winch's own record keeps: a held WINCH of 0 is not driven, and an undriven winch has duty 0. -/
structure WinchRests (w : WinchUnit) : Prop where
  zero : w.held = 0 → winchDriven w = false
  duty : DutyRests w

theorem WinchRests.of_same {v w : WinchUnit} (h : WinchRests w) (hheld : v.held = w.held) (hstate : v.state = w.state)
    (hduty : v.duty = w.duty) : WinchRests v := by
  have hdriven : winchDriven v = winchDriven w := by simp only [winchDriven, hstate]
  exact ⟨by rw [hheld, hdriven]; exact h.zero, by rw [DutyRests, hdriven, hduty]; exact h.duty⟩

theorem winchRests_brakedIn {st : WinchState} (h : st ≠ .inward ∧ st ≠ .outward) (w : WinchUnit) :
    WinchRests (brakedIn st w) := by
  refine ⟨fun _ => ?_, dutyRests_brakedIn st w⟩
  exact (winchDriven_eq_false_iff _).mpr h

theorem winchRests_winchActs {s : State} (h : DutyRests s.winch) : WinchRests (winchActs s).winch := by
  obtain ⟨hheld, hduty⟩ := winchMoved_winchActs h
  refine ⟨fun hzero => winchActs_of_inBand ?_, hduty⟩
  rw [← hheld, hzero]
  exact inBand_zero s

theorem winchRests_goByHeld (s : State) : WinchRests (goByHeld s).winch := by
  have hmoved : WinchMoved s (goByHeld s) :=
    goByHeld_cases (winchMoved_goIdle s) (winchMoved_goInward s) (winchMoved_goOutward s)
  refine ⟨fun hzero => goByHeld_of_inBand ?_, hmoved.duty⟩
  rw [← hmoved.held, hzero]
  exact inBand_zero s

/-! ### Both -/

theorem stopping_iff (s : State) : Stopping s ↔
    (effective s .drive = 0 → NoneRunning s) ∧ s.winch.held = effective s .winch ∧ WinchRests s.winch :=
  ⟨fun ⟨hdrive, hheld, hzero, hduty⟩ => ⟨hdrive, hheld, hzero, hduty⟩,
    fun ⟨hdrive, hheld, hzero, hduty⟩ => ⟨hdrive, hheld, hzero, hduty⟩⟩

theorem Stopping.rests {s : State} (hs : Stopping s) : WinchRests s.winch := ⟨hs.winch, hs.duty⟩

theorem Stopping.of_parts {s t : State} (hs : Stopping s) (hdrive : effective t .drive = effective s .drive)
    (hwinch : effective t .winch = effective s .winch) (hheld : t.winch.held = s.winch.held) (hrests : WinchRests t.winch)
    (hchan : effective s .drive = 0 → NoneRunning s → NoneRunning t) : Stopping t := by
  rw [stopping_iff] at hs ⊢
  exact ⟨fun h => hchan (hdrive ▸ h) (hs.1 (hdrive ▸ h)), by rw [hheld, hwinch]; exact hs.2.1, hrests⟩

theorem reads_stopping : Reads [.drive, .winch, .resolver] Stopping := by
  intro s t hsame hs
  have hdrive : t.drive = s.drive := hsame .drive (by decide)
  have hwinch : t.winch = s.winch := hsame .winch (by decide)
  have hres : t.resolver = s.resolver := hsame .resolver (by decide)
  have heff : ∀ f, effective t f = effective s f := fun f => by simp only [effective, effOf, hres]
  exact hs.of_parts (heff _) (heff _) (by rw [hwinch]) (by rw [hwinch]; exact hs.rests)
    fun _ h w => by rw [chan, hdrive]; exact h w

theorem Stopping.mapChans {s : State} (hs : Stopping s) {g : Channel → Channel}
    (hg : ∀ c, c.state ≠ .run → (g c).state ≠ .run) : Stopping (mapChans s g) :=
  hs.of_parts rfl rfl rfl hs.rests fun _ h w => by rw [chan_mapChans]; exact hg _ (h w)

theorem Stopping.busyClamp {s : State} (hs : Stopping s) : Stopping (busyClamp s) :=
  hs.mapChans fun c hc => by rw [if_neg hc]; exact hc

theorem Stopping.lampResolve {s : State} : Stopping s → Stopping (lampResolve s) :=
  reads_stopping.keep (lampResolve_frame s) (by decide)

/-! ### Resolutions -/

theorem Stopping.modeHanded {s : State} (hs : Stopping s) : Stopping (modeHanded s) := by
  have hset : ∀ v, Stopping (s.setSteering v) := fun v => reads_stopping.keep (setSteering_frame_only s v) (by decide) hs
  unfold Machine.modeHanded
  dsimp only
  split
  · split
    · exact hset _
    · exact (hset _).busyClamp
  · split <;> exact hset _
  · exact hs

theorem Stopping.handOn {s : State} (hs : Stopping s) {f : Fn} (hdrive : f ≠ .drive) (hwinch : f ≠ .winch) :
    Stopping (handOn f s) := by
  cases f with
  | drive => exact absurd rfl hdrive
  | steer => exact reads_stopping.keep (steerHanded_frame s) (by decide) hs
  | steermode => exact hs.modeHanded
  | winch => exact absurd rfl hwinch
  | drag => exact Stopping.lampResolve (hs.mapChans fun c hc => by split <;> exact hc)
  | range => exact hs.mapChans fun c hc => hc
  | scene => exact reads_stopping.keep (sceneHanded_frame s) (by decide) hs

/-- A changed effective DRIVE of 0 stops every running channel (R82). -/
theorem Stopping.commitDrive {s : State} (hs : Stopping s) (e : Eff) :
    Stopping (Machine.lampResolve (driveHanded (setEff s .drive e))) := by
  refine Stopping.lampResolve ((stopping_iff _).mpr ⟨fun hzero w => ?_, hs.held, hs.rests⟩)
  have heff : effective (setEff s .drive e) .drive = 0 := hzero
  rw [driveHanded, chan_mapChans, heff]
  exact driveAtChannel_state_ne_run (inBand_zero _) _ _

/-- A changed effective WINCH is held, and one of 0 stops the winch (R104). -/
theorem Stopping.commitWinch {s : State} (hs : Stopping s) (e : Eff) : Stopping (winchHanded (setEff s .winch e)) := by
  have hframe := winchHanded_frame (setEff s .winch e)
  have hduty : DutyRests { s.winch with held := effective (setEff s .winch e) .winch } := hs.duty
  have hmoved := winchMoved_winchActs (s := (setEff s .winch e).setWinch
    { s.winch with held := effective (setEff s .winch e) .winch }) hduty
  refine (stopping_iff _).mpr ⟨fun hzero w => ?_, ?_, winchRests_winchActs hduty⟩
  · rw [hframe.effective (by decide)] at hzero
    rw [hframe.chan (by decide)]
    exact hs.drive hzero w
  · rw [hframe.effective (by decide)]
    exact hmoved.held

theorem Stopping.commitEff {s : State} (hs : Stopping s) (f : Fn) (e : Eff) : Stopping (commitEff f e s) := by
  unfold Machine.commitEff
  refine reads_stopping.keep (handUnderlying_frame _ _) (by decide) ?_
  have heff : ∀ g, e.value = effective s f ∨ g ≠ f → effective (setEff s f e) g = effective s g := by
    intro g h
    by_cases hg : g = f
    · rw [hg, effective, effOf_setEff_same]
      exact h.resolve_right (by simp [hg])
    · rw [effective, effOf_setEff_ne _ hg]
      rfl
  split
  next hsame =>
    exact hs.of_parts (heff _ (.inl hsame)) (heff _ (.inl hsame)) rfl hs.rests fun _ h => h
  · by_cases hdrive : f = .drive
    · subst hdrive
      exact hs.commitDrive e
    · by_cases hwinch : f = .winch
      · subst hwinch
        exact hs.commitWinch e
      · have hset : Stopping (setEff s f e) :=
          hs.of_parts (heff _ (.inr (Ne.symm hdrive))) (heff _ (.inr (Ne.symm hwinch))) rfl hs.rests fun _ h => h
        exact hset.handOn hdrive hwinch

theorem Stopping.setEff_of_value {s : State} (hs : Stopping s) {f : Fn} {e : Eff} (he : e.value = effective s f) :
    Stopping (setEff s f e) := by
  have heff : ∀ g, effective (setEff s f e) g = effective s g := by
    intro g
    by_cases hg : g = f
    · rw [hg, effective, effOf_setEff_same, he]
    · rw [effective, effOf_setEff_ne _ hg]
      rfl
  exact hs.of_parts (heff _) (heff _) rfl hs.rests fun _ h => h

theorem packKept_stopping : PackKept Stopping := by
  have hresolver : ResolverKept Stopping := {
    beside := fun h => reads_stopping.keep h (by decide)
    slot := fun m f x _ => reads_stopping.keep (setSlot_frame _ m f x) (by decide)
    grant := fun f g hs => hs.of_parts rfl rfl rfl hs.rests fun _ h => h
    resolve := by
      intro s f byMark hs
      cases hbusy : consumerBusy s f with
      | true => rw [resolve_of_busy hbusy]; exact hs
      | false =>
        rw [resolve_of_free hbusy]
        exact (reads_stopping.keep (takeSlots_frame f s) (by decide) hs).commitEff f _
    blendStep := by
      intro s f hs
      unfold blendStep
      split
      · exact hs
      · refine Stopping.commitEff (reads_stopping.keep (takeSlots_frame f _) (by decide) ?_) f _
        exact hs.setEff_of_value rfl }
  exact hresolver.packKept reads_stopping (by decide) fun _ hs => hs.of_parts rfl rfl rfl hs.rests fun _ h => h

/-! ### Winch events -/

/-- A change of the winch's record alone. -/
theorem Stopping.of_winch {s t : State} (hs : Stopping s) (hframe : SameExcept winchTouches s t)
    (hheld : t.winch.held = s.winch.held) (hrests : WinchRests t.winch) : Stopping t :=
  hs.of_parts (hframe.effective (by decide) _) (hframe.effective (by decide) _) hheld hrests fun _ h w => by
    rw [hframe.chan (by decide)]; exact h w

theorem Stopping.goLimit {s : State} (hs : Stopping s) {st : WinchState} (hst : st ≠ .inward ∧ st ≠ .outward) :
    Stopping (goLimit st s) :=
  hs.of_winch (goLimit_frame st s) (by simp [brakedIn]) (by rw [goLimit_winch]; exact winchRests_brakedIn hst _)

theorem Stopping.goIdle {s : State} (hs : Stopping s) : Stopping (goIdle s) :=
  hs.of_winch (goIdle_frame s) (by simp [brakedIn])
    (by rw [goIdle_winch]; exact winchRests_brakedIn ⟨by decide, by decide⟩ _)

theorem Stopping.goStalled {s : State} (hs : Stopping s) : Stopping (goStalled s) :=
  hs.of_winch (goStalled_frame s) (by simp [brakedIn])
    (by rw [goStalled_winch]; exact winchRests_brakedIn ⟨by decide, by decide⟩ _)

theorem Stopping.setWinch {s : State} (hs : Stopping s) {v : WinchUnit} (hheld : v.held = s.winch.held)
    (hstate : v.state = s.winch.state) (hduty : v.duty = s.winch.duty) : Stopping (s.setWinch v) :=
  hs.of_parts rfl rfl hheld (hs.rests.of_same hheld hstate hduty) fun _ h => h

theorem Stopping.testStops {s : State} (hs : Stopping s) : Stopping (testStops s) := by
  unfold Machine.testStops
  split
  · split
    · exact hs.goLimit ⟨by decide, by decide⟩
    · exact hs
  · split
    · exact hs.goLimit ⟨by decide, by decide⟩
    · exact hs
  all_goals exact hs

theorem Stopping.countEdge {s : State} (hs : Stopping s) (up : Bool) : Stopping (countEdge up s) := by
  refine Stopping.testStops ?_
  split
  · unfold countUp
    split <;> exact hs.setWinch rfl rfl rfl
  · unfold countDown
    split <;> exact hs.setWinch rfl rfl rfl

theorem Stopping.encoderEdge {s : State} (hs : Stopping s) (a b : Bool) : Stopping (encoderEdge a b s) := by
  have hset : Stopping (s.setWinch { s.winch with encA := a, encB := b }) := hs.setWinch rfl rfl rfl
  unfold Machine.encoderEdge
  dsimp only
  split
  · exact hset
  · exact hset.countEdge _
  · exact hset.countEdge _
  · exact hset.setWinch rfl rfl rfl

theorem Stopping.homeBraked {s : State} (hs : Stopping s) : Stopping (homeBraked s) :=
  (hs.setWinch rfl rfl rfl : Stopping (s.setWinch (atHome s.winch))).goLimit (st := .limitIn) ⟨by decide, by decide⟩

theorem Stopping.hookCloses {s : State} (hs : Stopping s) : Stopping (hookCloses s) := by
  have hset : Stopping (s.setWinch { s.winch with hookClosed := true }) := hs.setWinch rfl rfl rfl
  unfold Machine.hookCloses
  split
  · exact hs
  · dsimp only
    split
    · exact packKept_stopping.raise _ (hset.setWinch rfl rfl rfl)
    · exact packKept_stopping.raise _ (hset.setWinch rfl rfl rfl)
    all_goals exact hset.homeBraked

theorem Stopping.stallStage {s : State} (hs : Stopping s) (delta : Int) : Stopping (stallStage delta s) := by
  have hset : ∀ v, Stopping (s.setWinch { s.winch with stall := v }) := fun v => hs.setWinch rfl rfl rfl
  unfold Machine.stallStage
  split
  · dsimp only
    split
    · split
      · exact (hset _).goStalled
      · exact hset _
    · exact hset _
  · exact hs

theorem dutyStages_held (p : WinchSection) (w : WinchUnit) : (dutyStages p w).held = w.held := by
  unfold dutyStages drivenStages
  split <;> rfl

theorem Stopping.winchUpdate {s : State} (hs : Stopping s) : Stopping (winchUpdate s) := by
  have hbegun : Stopping (s.setWinch { s.winch with timer := Config.winchPeriod }) := hs.setWinch rfl rfl rfl
  have hline : Stopping (lineStage (s.setWinch { s.winch with timer := Config.winchPeriod })) := hbegun.setWinch rfl rfl rfl
  have hstall := hline.stallStage (payoutDelta s.winch)
  have hduty : ∀ u, Stopping u → Stopping (u.setWinch (dutyStages u.profile.winch u.winch)) := by
    intro u hu
    refine hu.of_parts rfl rfl (dutyStages_held _ _) ⟨fun hzero => ?_, dutyRests_dutyStages _ _⟩ fun _ h => h
    have hrest := hu.winch ((dutyStages_held _ _).symm.trans hzero)
    simpa [winchDriven, dutyStages_state] using hrest
  exact (hduty _ hstall).setWinch rfl rfl rfl

theorem Stopping.winchEvent {s t : State} (hs : Stopping s) (h : WinchEvent s t) : Stopping t := by
  cases h with
  | encoderEdge a b => exact hs.encoderEdge a b
  | hookCloses => exact hs.hookCloses
  | hookOpens => exact hs.setWinch rfl rfl rfl
  | winchUpdate => exact hs.winchUpdate
  | stallExpires =>
    unfold stallExpires
    split
    · exact hs.goStalled
    · exact hs
  | stallClears =>
    unfold stallClears
    split
    · exact hs.goIdle
    · exact hs
  | homeBraked => exact hs.homeBraked
  | sampled current => exact hs.setWinch rfl rfl rfl

/-! ### Writes -/

theorem Stopping.winchActs {s : State} (hs : Stopping s) : Stopping (winchActs s) :=
  hs.of_winch (winchActs_frame s) (winchMoved_winchActs hs.duty).held (winchRests_winchActs hs.duty)

theorem Stopping.goByHeld {s : State} (hs : Stopping s) : Stopping (goByHeld s) :=
  hs.of_winch (goByHeld_frame s)
    (goByHeld_cases (P := WinchMoved s) (winchMoved_goIdle s) (winchMoved_goInward s) (winchMoved_goOutward s)).held
    (winchRests_goByHeld s)

theorem Stopping.driveActs {s : State} (hs : Stopping s) (old : DriveSection) : Stopping (driveActs old s) := by
  have hpick : ∀ (p : Prop) [Decidable p] t, Stopping t → Stopping (if p then t else Machine.winchActs t) := by
    intro p _ t ht
    split
    · exact ht
    · exact ht.winchActs
  have hbands : ∀ moved band t, Stopping t → Stopping (Machine.mapChans t (bandAtLockout moved band)) :=
    fun moved band t ht => ht.mapChans fun c hc => by
      unfold bandAtLockout
      split <;> exact hc
  have hrange : ∀ t, Stopping t → Stopping (rangeHanded t) := fun t ht => ht.mapChans fun c hc => hc
  have hcleared : ∀ time drag t, Stopping t → Stopping (Machine.mapChans t (clearByTime time drag)) :=
    fun time drag t ht => ht.mapChans fun c hc => by
      unfold clearByTime
      split
      · split
        · exact fun h => by cases h
        · exact hc
      · exact hc
  exact hcleared _ _ _ (hrange _ (hpick _ _ (hbands _ _ _ (packKept_stopping.recoveryDriveTest hs))))

theorem Stopping.winchActsOn {s : State} (hs : Stopping s) (old : WinchSection) : Stopping (winchActsOn old s) := by
  have hreverse : Stopping (reverseChanged old s) := by
    unfold reverseChanged
    split
    · exact hs
    · exact hs.setWinch rfl rfl rfl
  have hclamp : ∀ t, Stopping t → Stopping (slowInClamp t) := by
    intro t ht
    unfold slowInClamp
    split
    · exact ht
    · refine ht.of_parts rfl rfl rfl ⟨ht.winch, fun hrest => ?_⟩ fun _ h => h
      show min t.winch.duty _ = 0
      rw [ht.duty hrest]
      omega
  have hstall : ∀ t, Stopping t → Stopping (stallByTime t) := by
    intro t ht
    unfold stallByTime
    split
    · split
      · exact ht.goIdle
      · exact ht
    · exact ht
  have hretest : ∀ t, Stopping t → Stopping (retestLimit t) := by
    intro t ht
    have hpick : ∀ (p : Prop) [Decidable p], Stopping (if p then t else Machine.goByHeld t) := by
      intro p _
      split
      · exact ht
      · exact ht.goByHeld
    unfold retestLimit
    split <;> first | exact hpick _ | exact ht
  exact hretest _ (hstall _ (hclamp _ hreverse))

theorem Stopping.sectionActs {s : State} (hs : Stopping s) (old : Profile) (d : SectionData) :
    Stopping (sectionActs old d s) := by
  have hP := packKept_stopping
  cases d with
  | sources v => exact hP.sourcesActs _ hs
  | map v => exact hs
  | authority v => exact hP.authorityActs hs
  | failsafe v => exact hP.failsafeActs _ hs
  | geometry v =>
    show Stopping (if busy s then Machine.busyClamp s else s)
    split
    · exact hs.busyClamp
    · exact hs
  | drive v => exact hs.driveActs _
  | winch v => exact hs.winchActsOn _
  | pack v => exact hP.packActs (fun v => reads_stopping.keep (setSense_frame_only _ v) (by decide)) _ hs
  | lamps v => exact hs.lampResolve
  | scene i v => exact reads_stopping.keep (sceneActs_frame i _) (by decide) hs
  | reply v => exact hs

/-! ### Every event -/

theorem effective_tick (s : State) (f : Fn) : effective (tick s) f = effective s f := by
  rw [effective, effOf_tick]
  rfl

theorem Stopping.event {s t : State} (hs : Stopping s) (h : Event s t) : Stopping t := by
  cases h with
  | quiet h => exact reads_stopping.keep h (by decide) hs
  | context h => exact packKept_stopping.context hs h
  | wheel h =>
    have hwinch : t.winch = s.winch := h.frame .winch (by decide)
    refine hs.of_parts (h.frame.effective (by decide) _) (h.frame.effective (by decide) _) (by rw [hwinch])
      (by rw [hwinch]; exact hs.rests) fun hzero hnone w => ?_
    exact (h.channel w).state_ne_run (by rw [hzero]; exact inBand_zero s) (hnone w)
  | winch h => exact hs.winchEvent h
  | pack h => exact packKept_stopping.pack hs h
  | write h =>
    obtain ⟨_, _⟩ := h
    exact Stopping.sectionActs (s := writeLive _ s) (reads_stopping.keep (setProfile_frame_only s _) (by decide) hs) _ _
  | steering =>
    exact packKept_stopping.steeringUpdate (fun h => reads_stopping.keep h (by decide)) (fun hs => hs.busyClamp) hs
  | apportion =>
    have hframe := apportion_frame_only s
    obtain ⟨n, hwinch⟩ := apportion_winch s
    refine hs.of_parts (hframe.effective (by decide) _) (hframe.effective (by decide) _) (by rw [hwinch])
      (by rw [hwinch]; exact hs.rests.of_same rfl rfl rfl) fun _ h w => ?_
    rw [chan_apportion]
    exact h w
  | tick =>
    refine hs.of_parts (effective_tick s _) (effective_tick s _) rfl (hs.rests.of_same rfl rfl rfl) fun _ h w => ?_
    rw [chan_tick]
    exact h w

theorem stopping_startUp (pins : Pins) (s : State) : Stopping (startUp pins s) := by
  have houtputs : ∀ u, Stopping (startOutputs pins u) := by
    intro u
    have heff := (startOutputs_frame pins u).effective (by decide)
    refine (stopping_iff _).mpr ⟨fun _ w => ?_, ?_, ?_⟩
    · rw [chan, startOutputs_drive, DriveUnit.reset, PerWheel.get_of]
      exact fun h => by cases h
    · rw [heff, startOutputs_winch]
      rfl
    · rw [startOutputs_winch]
      exact ⟨fun _ => winchDriven_reset _ _, fun _ => rfl⟩
  exact startRecovery_keeps (P := Stopping) (fun _ => packKept_stopping.recoveryDriveTest) (houtputs _)

end Sys2Proof.Machine
end

section
/-! PROOFS. The lockout set and the latch follow the protection state, and a locked DRIVE and WINCH are 0. -/
namespace Sys2Proof.Machine

/-- The lockout set is filled exactly where the protection state is CUTOFF, and so is the latch (R41, R135). -/
structure LockIs (filled : Bool) (s : State) : Prop where
  lockout : s.resolver.lockout = filled
  state : s.protection.state = .cutoff ↔ filled = true
  latch : s.retained.latch.isSome = filled

/-- What CUTOFF holds beside the drive and the winch: the flags agree, and the locked functions are at 0. -/
structure LockSafe (s : State) : Prop where
  flags : LockIs s.resolver.lockout s
  drive : s.resolver.lockout = true → effective s .drive = 0
  winch : s.resolver.lockout = true → effective s .winch = 0

theorem cutoffSafe_iff (s : State) : CutoffSafe s ↔ Stopping s ∧ LockSafe s := by
  constructor
  · rintro ⟨hstopping, hlockout, hlatch, hdrive, hwinch⟩
    refine ⟨hstopping, ⟨rfl, hlockout.symm, ?_⟩, hdrive, hwinch⟩
    rw [Bool.eq_iff_iff, hlatch, hlockout]
  · rintro ⟨hstopping, ⟨_, hstate, hlatch⟩, hdrive, hwinch⟩
    exact ⟨hstopping, hstate.symm, by rw [hlatch]; exact hstate.symm, hdrive, hwinch⟩

theorem LockIs.of_same {filled : Bool} {s t : State} (hs : LockIs filled s)
    (hlockout : t.resolver.lockout = s.resolver.lockout) (hstate : t.protection.state = s.protection.state)
    (hlatch : t.retained.latch.isSome = s.retained.latch.isSome) : LockIs filled t :=
  ⟨hlockout.trans hs.lockout, by rw [hstate]; exact hs.state, hlatch.trans hs.latch⟩

theorem reads_lockIs (filled : Bool) : Reads [.resolver, .protection, .retained] (LockIs filled) := by
  intro s t hsame hs
  have hres : t.resolver = s.resolver := hsame .resolver (by decide)
  have hprot : t.protection = s.protection := hsame .protection (by decide)
  have hret : t.retained = s.retained := hsame .retained (by decide)
  exact hs.of_same (by rw [hres]) (by rw [hprot]) (by rw [hret])

theorem LockSafe.of_same {s t : State} (hs : LockSafe s) (hlockout : t.resolver.lockout = s.resolver.lockout)
    (hstate : t.protection.state = s.protection.state) (hlatch : t.retained.latch.isSome = s.retained.latch.isSome)
    (heff : s.resolver.lockout = true → ∀ f, f = .drive ∨ f = .winch → effective s f = 0 → effective t f = 0) :
    LockSafe t := by
  obtain ⟨hflags, hdrive, hwinch⟩ := hs
  exact ⟨hlockout ▸ hflags.of_same hlockout hstate hlatch,
    fun h => heff (hlockout ▸ h) _ (.inl rfl) (hdrive (hlockout ▸ h)),
    fun h => heff (hlockout ▸ h) _ (.inr rfl) (hwinch (hlockout ▸ h))⟩

theorem reads_lockSafe : Reads [.resolver, .protection, .retained] LockSafe := by
  intro s t hsame hs
  have hres : t.resolver = s.resolver := hsame .resolver (by decide)
  have hprot : t.protection = s.protection := hsame .protection (by decide)
  have hret : t.retained = s.retained := hsame .retained (by decide)
  exact hs.of_same (by rw [hres]) (by rw [hprot]) (by rw [hret]) fun _ f _ h => by
    rwa [effective, effOf, hres]

/-! ### Resolutions -/

theorem entryFrom_locked_value {t : State} {f : Fn} (h : locked t f = true) (old : Eff) (byMark : Bool) :
    (entryFrom t f old byMark).value = lockValue t f := by
  rw [entryFrom]
  dsimp only
  rw [if_pos h]

theorem entryFrom_locked_blend {t : State} {f : Fn} (h : locked t f = true) (old : Eff) (byMark : Bool) :
    (entryFrom t f old byMark).blend = none := by
  rw [entryFrom]
  dsimp only
  rw [if_pos h]

theorem lockValue_drive (s : State) : lockValue s .drive = 0 := rfl

theorem lockValue_winch (s : State) : lockValue s .winch = 0 := rfl

/-- Under the lockout a DRIVE or a WINCH resolves to 0 (R41). -/
theorem entryFrom_stopped {t : State} (h : t.resolver.lockout = true) {f : Fn} (hf : f = .drive ∨ f = .winch) (old : Eff)
    (byMark : Bool) : (entryFrom t f old byMark).value = 0 := by
  obtain rfl | rfl := hf
  · exact entryFrom_locked_value (by rw [locked, h]; rfl) old byMark
  · exact entryFrom_locked_value (by rw [locked, h]; rfl) old byMark

theorem steppedEntry_of_no_blend {e : Eff} (h : e.blend = none) : steppedEntry e = e := by
  unfold steppedEntry
  rw [h]

theorem protection_state_commitEff (f : Fn) (e : Eff) (s : State) :
    (commitEff f e s).protection.state = s.protection.state := by
  obtain ⟨r, d, h⟩ := commitEff_protection f e s
  rw [h]

theorem lockout_commitEff (f : Fn) (e : Eff) (s : State) :
    (commitEff f e s).resolver.lockout = s.resolver.lockout := by simp

theorem effOf_commitEff_same (f : Fn) (e : Eff) (s : State) : effOf (commitEff f e s) f = e := by
  rw [effOf, commitEff_resolver]
  exact effOf_setEff_same ..

theorem effOf_commitEff_ne {f g : Fn} (h : g ≠ f) (e : Eff) (s : State) : effOf (commitEff f e s) g = effOf s g := by
  rw [effOf, commitEff_resolver]
  exact effOf_setEff_ne s h e

theorem retained_commitEff (f : Fn) (e : Eff) (s : State) : (commitEff f e s).retained = s.retained :=
  commitEff_frame f e s .retained (by decide)

theorem LockIs.commitEff {filled : Bool} {s : State} (hs : LockIs filled s) (f : Fn) (e : Eff) :
    LockIs filled (commitEff f e s) :=
  hs.of_same (lockout_commitEff f e s) (protection_state_commitEff f e s) (by rw [retained_commitEff])

theorem LockSafe.commitEff {s : State} (hs : LockSafe s) {f : Fn} {e : Eff}
    (he : s.resolver.lockout = true → f = .drive ∨ f = .winch → e.value = 0) : LockSafe (commitEff f e s) := by
  refine hs.of_same (lockout_commitEff f e s) (protection_state_commitEff f e s) (by rw [retained_commitEff]) ?_
  intro hlock g hg hzero
  by_cases hgf : g = f
  · rw [hgf, effective, effOf_commitEff_same]
    exact he hlock (hgf ▸ hg)
  · rw [effective, effOf_commitEff_ne hgf]
    exact hzero

theorem resolverKept_lockIs (filled : Bool) : ResolverKept (LockIs filled) where
  beside h := (reads_lockIs filled).keep h (by decide)
  slot m f x _ := (reads_lockIs filled).keep (setSlot_frame _ m f x) (by decide)
  grant f g hs := hs.of_same rfl rfl rfl
  resolve := by
    intro s f byMark hs
    cases hbusy : consumerBusy s f with
    | true => rw [resolve_of_busy hbusy]; exact hs
    | false =>
      rw [resolve_of_free hbusy]
      exact ((reads_lockIs filled).keep (takeSlots_frame f s) (by decide) hs).commitEff f _
  blendStep := by
    intro s f hs
    unfold blendStep
    split
    · exact hs
    · refine LockIs.commitEff ((reads_lockIs filled).keep (takeSlots_frame f _) (by decide) ?_) f _
      exact hs.of_same rfl rfl rfl

theorem LockSafe.resolve {s : State} (hs : LockSafe s) (f : Fn) (byMark : Bool) : LockSafe (resolve f byMark s) := by
  cases hbusy : consumerBusy s f with
  | true => rw [resolve_of_busy hbusy]; exact hs
  | false =>
    rw [resolve_of_free hbusy]
    refine LockSafe.commitEff (reads_lockSafe.keep (takeSlots_frame f s) (by decide) hs) fun hlock hf => ?_
    exact entryFrom_stopped (by rwa [takeSlots_resolver] at hlock) hf _ _

theorem LockSafe.setEff_of_value {s : State} (hs : LockSafe s) {f : Fn} {e : Eff} (he : e.value = effective s f) :
    LockSafe (setEff s f e) := by
  refine hs.of_same rfl rfl rfl fun _ g _ hzero => ?_
  by_cases hg : g = f
  · rw [hg, effective, effOf_setEff_same, he, ← hg]
    exact hzero
  · rw [effective, effOf_setEff_ne _ hg]
    exact hzero

theorem resolverKept_lockSafe : ResolverKept LockSafe where
  beside h := reads_lockSafe.keep h (by decide)
  slot m f x _ := reads_lockSafe.keep (setSlot_frame _ m f x) (by decide)
  grant f g hs := hs.of_same rfl rfl rfl fun _ _ _ h => h
  resolve f byMark hs := hs.resolve f byMark
  blendStep := by
    intro s f hs
    unfold blendStep
    split
    next => exact hs
    next b _ =>
      have hstepped : ∀ (u : State) old, u.resolver.lockout = true → f = .drive ∨ f = .winch →
          (steppedEntry (entryFrom u f old false)).value = 0 := by
        intro u old hlock hf
        rw [steppedEntry_of_no_blend]
        · exact entryFrom_stopped hlock hf _ _
        · refine entryFrom_locked_blend ?_ _ _
          rw [locked, hlock]
          obtain rfl | rfl := hf <;> rfl
      refine LockSafe.commitEff (reads_lockSafe.keep (takeSlots_frame f _) (by decide) ?_)
        fun hlock hf => hstepped _ _ hlock hf
      exact hs.setEff_of_value rfl

/-! ### Pack Protection -/

/-- With the flags agreeing that the set is empty nothing is locked. -/
theorem LockIs.lockSafe_of_empty {s : State} (hs : LockIs false s) : LockSafe s := by
  have hlock := hs.lockout
  exact ⟨by rw [hlock]; exact hs, fun h => by simp [hlock] at h, fun h => by simp [hlock] at h⟩

theorem LockIs.lockSafe {filled : Bool} {s : State} (hs : LockIs filled s)
    (hzero : filled = true → effective s .drive = 0 ∧ effective s .winch = 0) : LockSafe s := by
  obtain ⟨hlock, hstate, hlatch⟩ := hs
  subst hlock
  exact ⟨⟨rfl, hstate, hlatch⟩, fun h => (hzero h).1, fun h => (hzero h).2⟩

/-- Pack Protection's record changes beside its state. -/
theorem LockSafe.setProtection {s : State} (hs : LockSafe s) {p : Protection} (hp : p.state = s.protection.state) :
    LockSafe (s.setProtection p) := hs.of_same rfl hp rfl fun _ _ _ h => h

theorem LockSafe.recoveryTest {s : State} (hs : LockSafe s) : LockSafe (recoveryTest s) := by
  unfold Machine.recoveryTest
  split
  · exact hs.setProtection rfl
  · exact hs

theorem LockSafe.recoveryDriveTest {s : State} (hs : LockSafe s) : LockSafe (recoveryDriveTest s) :=
  LockSafe.recoveryTest (hs.setProtection rfl)

theorem LockSafe.recoveryCellTest {s : State} (hs : LockSafe s) : LockSafe (recoveryCellTest s) :=
  LockSafe.recoveryTest (hs.setProtection rfl)

theorem LockSafe.retarget {s : State} (hs : LockSafe s) : LockSafe (retarget s) := hs.setProtection rfl

theorem LockSafe.raise {s : State} (k : Notice) (hs : LockSafe s) : LockSafe (raise k s) :=
  resolverKept_lockSafe.raise k hs

theorem LockSafe.lampResolve {s : State} : LockSafe s → LockSafe (lampResolve s) :=
  resolverKept_lockSafe.lamps (lampResolve_frame s)

/-- Filling the lockout set brings DRIVE and WINCH to 0 (R41, R135). -/
theorem lockSafe_fillLockout {s : State} (hstate : s.protection.state = .cutoff) (hlatch : s.retained.latch.isSome = true) :
    LockSafe (fillLockout s) := by
  have hset : LockIs true (s.setResolver { s.resolver with lockout := true }) := ⟨rfl, by simp [hstate], hlatch⟩
  have hended := (resolverKept_lockIs true).endGrants .lockout lockable hset
  have hzero : ∀ {u : State} f, u.resolver.lockout = true → f = .drive ∨ f = .winch →
      effective (resolve f false u) f = 0 := by
    intro u f hu hf
    have hfree := consumerBusy_of_ne (f := f) (by rintro rfl; simp at hf) u
    rw [effective, effOf_resolve_of_free hfree]
    exact entryFrom_stopped hu hf _ _
  have hne : ∀ {u : State} {f g : Fn}, g ≠ f → effective (resolve f false u) g = effective u g := fun h => by
    rw [effective, effOf_resolve_ne h]
    rfl
  have hflags := (resolverKept_lockIs true).resolveList [.drive, .winch, .drag] (fun _ => false) hended
  refine hflags.lockSafe fun _ => ⟨?_, ?_⟩
  · exact ((hne (f := .drag) (by decide)).trans (hne (f := .winch) (by decide))).trans
      (hzero .drive hended.lockout (.inl rfl))
  · refine (hne (f := .drag) (by decide)).trans (hzero .winch ?_ (.inr rfl))
    rw [lockout_resolve]
    exact hended.lockout

theorem lockSafe_enterCutoff (why : LatchReason) (s : State) : LockSafe (enterCutoff why s) :=
  LockSafe.recoveryDriveTest (LockSafe.lampResolve (LockSafe.raise _ (LockSafe.retarget (lockSafe_fillLockout rfl rfl))))

theorem lockSafe_leaveCutoff (s : State) : LockSafe (leaveCutoff s) := by
  have hset : ∀ u : State, u.protection.state = .normal → u.retained.latch = none → LockSafe (emptyLockout u) := by
    intro u hstate hlatch
    refine LockIs.lockSafe_of_empty ((resolverKept_lockIs false).resolveList _ _ ⟨rfl, ?_, ?_⟩)
    · show u.protection.state = .cutoff ↔ _
      simp [hstate]
    · show u.retained.latch.isSome = _
      rw [hlatch]
      rfl
  exact LockSafe.lampResolve (LockSafe.raise _ (LockSafe.retarget (hset _ rfl rfl)))

theorem LockSafe.dwellExpires {s : State} (hs : LockSafe s) : LockSafe (dwellExpires s) := by
  unfold Machine.dwellExpires
  split
  · exact lockSafe_enterCutoff _ s
  · exact hs

theorem LockSafe.recoveryExpires {s : State} (hs : LockSafe s) : LockSafe (recoveryExpires s) := by
  unfold Machine.recoveryExpires
  split
  · exact lockSafe_leaveCutoff s
  · exact hs

theorem LockSafe.nopackHanded {s : State} (hs : LockSafe s) : LockSafe (nopackHanded s) := by
  unfold Machine.nopackHanded
  split
  next hstate =>
    have hlatch : s.retained.latch.isSome = true := by rw [hs.flags.latch]; exact hs.flags.state.mp hstate
    exact hs.of_same rfl rfl hlatch.symm fun _ _ _ h => h
  · exact lockSafe_enterCutoff _ s

/-- A change between two states other than CUTOFF leaves the lockout set empty. -/
theorem LockSafe.setProtState {s : State} (hs : LockSafe s) {st : ProtState} (hold : s.protection.state ≠ .cutoff)
    (hnew : st ≠ .cutoff) : LockSafe (setProtState st s) := by
  have hempty : s.resolver.lockout = false := by
    rw [Bool.eq_false_iff]
    exact fun h => hold (hs.flags.state.mpr h)
  have hlatch := hs.flags.latch
  unfold Machine.setProtState
  split
  · exact hs
  · refine LockSafe.lampResolve (LockSafe.raise _ (LockIs.lockSafe_of_empty ⟨hempty, ?_, ?_⟩))
    · simp [hnew]
    · rw [hempty] at hlatch
      exact hlatch

theorem stateAfter_ne_cutoff (k : Thresholds) {before : ProtState} (h : judging before = true) (v : Int) :
    stateAfter k before v ≠ .cutoff := by
  unfold stateAfter
  split
  · decide
  · split <;> (try split) <;> (try split) <;> simp_all [judging]

theorem stateAtStart_ne_cutoff (k : Thresholds) (v : Int) : stateAtStart k v ≠ .cutoff := by
  unfold stateAtStart
  split
  · decide
  · split <;> decide

theorem LockSafe.evaluateState {s : State} (hs : LockSafe s) : LockSafe (evaluateState s) := by
  unfold Machine.evaluateState
  split
  · split
    next hjudging =>
      have hold : s.protection.state ≠ .cutoff := by
        intro h
        rw [h] at hjudging
        cases hjudging
      exact (hs.setProtState hold (stateAfter_ne_cutoff _ hjudging _)).setProtection rfl
    · exact hs
  · exact hs

theorem LockSafe.endPrecheck {s : State} (hs : LockSafe s) : LockSafe (endPrecheck s) := by
  unfold Machine.endPrecheck
  split
  · split
    next h =>
      have hold : s.protection.state ≠ .cutoff := by rw [h.1]; decide
      exact LockSafe.retarget (LockSafe.setProtection (hs.setProtState hold (stateAtStart_ne_cutoff _ _)) rfl)
    · exact hs
  · exact hs

theorem LockSafe.pack {s t : State} (hs : LockSafe s) (h : PackEvent s t) : LockSafe t := by
  cases h with
  | currentHanded ip => exact LockSafe.recoveryTest ((hs.setProtection rfl).setProtection rfl)
  | cellsHanded n nopack =>
    have hmin : LockSafe (takeMinimum n (takeThresholds s)) := (hs.setProtection rfl).setProtection rfl
    have hjudged : LockSafe (if nopack then Machine.nopackHanded (takeMinimum n (takeThresholds s))
        else takeMinimum n (takeThresholds s)) := by
      split
      · exact hmin.nopackHanded
      · exact hmin
    exact hjudged.evaluateState.retarget.recoveryCellTest
  | openSetHanded =>
    rw [openSetHanded_eq]
    refine LockSafe.endPrecheck ?_
    unfold blindTaken
    split
    · exact hs.setProtection rfl
    · exact LockSafe.retarget (hs.setProtection rfl)
  | dwellExpires => exact hs.dwellExpires
  | recoveryExpires => exact hs.recoveryExpires

/-! ### Writes and every event -/

theorem LockSafe.packActs {s : State} (hs : LockSafe s) (old : Pack) : LockSafe (packActs old s) := by
  have hsense : ∀ v, LockSafe (s.setSense v) := fun v => reads_lockSafe.keep (setSense_frame_only s v) (by decide) hs
  have hdwells : ∀ u, LockSafe u → LockSafe (dwellsByTime u) := by
    intro u hu
    unfold dwellsByTime
    split
    · split
      · exact hu.dwellExpires
      · exact hu
    · split
      · exact hu.recoveryExpires
      · exact hu
    · exact hu
  have htested : ∀ (p : Prop) [Decidable p] u, LockSafe u → LockSafe (if p then u else Machine.recoveryCellTest u) := by
    intro p _ u hu
    split
    · exact hu
    · exact hu.recoveryCellTest
  exact hdwells _ (LockSafe.retarget (resolverKept_lockSafe.cutoffDragHanded old (htested _ _ (hsense _))))

theorem LockSafe.sectionActs {s : State} (hs : LockSafe s) (old : Profile) (d : SectionData) :
    LockSafe (sectionActs old d s) := by
  have hP := resolverKept_lockSafe
  cases d with
  | sources v => exact hP.sourcesActs _ hs
  | map v => exact hs
  | authority v => exact hP.authorityActs hs
  | failsafe v => exact hP.failsafeActs _ hs
  | geometry v => exact reads_lockSafe.keep (geometryActs_frame_only _) (by decide) hs
  | drive v => exact driveActs_keeps (P := LockSafe) (fun _ h => h.recoveryDriveTest) reads_lockSafe (by decide) _ hs
  | winch v => exact reads_lockSafe.keep (winchActsOn_frame _ _) (by decide) hs
  | pack v => exact hs.packActs _
  | lamps v => exact hs.lampResolve
  | scene i v => exact reads_lockSafe.keep (sceneActs_frame i _) (by decide) hs
  | reply v => exact hs

theorem LockSafe.event {s t : State} (hs : LockSafe s) (h : Event s t) : LockSafe t := by
  cases h with
  | quiet h => exact reads_lockSafe.keep h (by decide) hs
  | context h => exact resolverKept_lockSafe.context hs h
  | wheel h => exact reads_lockSafe.keep h.frame (by decide) hs
  | winch h => exact reads_lockSafe.keep h.frame (by decide) hs
  | pack h => exact hs.pack h
  | write h =>
    obtain ⟨_, _⟩ := h
    exact LockSafe.sectionActs (s := writeLive _ s) (reads_lockSafe.keep (setProfile_frame_only s _) (by decide) hs) _ _
  | steering =>
    exact resolverKept_lockSafe.steeringUpdate (fun h => reads_lockSafe.keep h (by decide))
      (reads_lockSafe.keep (busyClamp_frame_only _) (by decide)) hs
  | apportion =>
    have hframe := apportion_frame_only s
    refine hs.of_same (congrArg Resolver.lockout (hframe .resolver (by decide))) rfl
      (congrArg (fun r => r.latch.isSome) (hframe .retained (by decide))) fun _ f _ hzero => ?_
    rw [hframe.effective (by decide)]
    exact hzero
  | tick =>
    refine hs.of_same rfl rfl rfl fun _ f _ hzero => ?_
    rw [effective_tick]
    exact hzero

/-- Start-up fills the lockout set exactly under a retained latch, whatever the retained store held (R136, R146). -/
theorem lockSafe_startUp (pins : Pins) (s : State) : LockSafe (startUp pins s) := by
  have hbase : ∀ r flash p pending, LockSafe (resetBase r flash p pins pending) := by
    intro r flash p pending
    refine LockIs.lockSafe (filled := r.latch.isSome) ⟨rfl, ?_, rfl⟩ fun _ => ⟨rfl, rfl⟩
    show (if r.latch.isSome = true then ProtState.cutoff else .precheck) = .cutoff ↔ _
    split <;> simp_all
  have hnotices := reads_lockSafe.keep (startNotices_frame (loadAll (flashAfterReset s.store)).defaulted _) (by decide)
    (hbase (settleReset s.retained) (flashAfterReset s.store) (loadAll (flashAfterReset s.store)).profile s.pending)
  have hfirst : ∀ u, LockSafe u → LockSafe (firstResolution u) := by
    refine fun u hu => foldl_keeps (fun v f hv => ?_) _ u hu
    refine hv.of_same rfl rfl rfl fun hlock g hg hzero => ?_
    by_cases hgf : g = f
    · rw [hgf, effective, firstEntry, effOf_setEff_same, resolvedEntry_eq]
      exact entryFrom_stopped hlock (hgf ▸ hg) _ _
    · rw [effective, firstEntry, effOf_setEff_ne _ hgf]
      exact hzero
  have houtputs := reads_lockSafe.keep (startOutputs_frame pins _) (by decide) (hfirst _ hnotices)
  exact startRecovery_keeps (P := LockSafe) (fun _ h => h.recoveryDriveTest) houtputs

/-- Settles O6. -/
theorem cutoffStaysSafe : Obligations.CutoffStaysSafe := by
  unfold Obligations.CutoffStaysSafe
  intro s t hs hstep
  rw [cutoffSafe_iff] at hs ⊢
  exact ⟨step_keeps (fun _ _ hu h => hu.event h) stopping_startUp hs.1 hstep,
    step_keeps (fun _ _ hu h => hu.event h) lockSafe_startUp hs.2 hstep⟩

end Sys2Proof.Machine
end

section
/-! PROOFS. Every HELD grant stands on presence, a usable slot, the map and no lock. -/
namespace Sys2Proof.Machine

/-! ### What decides a function, under the operations -/

theorem sameDeciders_of_frame {l : List Block} {s t : State} (h : SameExcept l s t)
    (hl : ∀ b ∈ [Block.radio, .comp, .slots, .resolver, .profile], b ∉ l) (f : Fn) : SameDeciders f s t where
  lockout := congrArg Resolver.lockout (h .resolver (hl _ (by decide)))
  grant := by rw [h.grantOf (hl _ (by decide))]
  present := h.present (hl _ (by decide)) (hl _ (by decide))
  usable m := by
    unfold usable
    rw [h.slotOf (hl _ (by decide)), h.fnMask (hl _ (by decide))]
  value m := by rw [h.slotOf (hl _ (by decide))]
  profile := h .profile (hl _ (by decide))

theorem sameDeciders_setEff (s : State) (f g : Fn) (e : Eff) : SameDeciders g s (setEff s f e) :=
  ⟨rfl, rfl, fun _ => rfl, fun _ => rfl, fun _ => rfl, rfl⟩

theorem sameDeciders_commitEff (f g : Fn) (e : Eff) (s : State) : SameDeciders g s (commitEff f e s) where
  lockout := lockout_commitEff f e s
  grant := by rw [grantOf, commitEff_resolver]; rfl
  present := (commitEff_frame f e s).present (by decide) (by decide)
  usable m := by
    unfold usable
    rw [(commitEff_frame f e s).slotOf (by decide), (commitEff_frame f e s).fnMask (by decide)]
  value m := by rw [(commitEff_frame f e s).slotOf (by decide)]
  profile := commitEff_frame f e s .profile (by decide)

theorem sameDeciders_blendStep (f g : Fn) (s : State) : SameDeciders g s (blendStep f s) := by
  unfold blendStep
  split
  · exact .refl g s
  · exact ((sameDeciders_setEff s f g _).trans (sameDeciders_takeSlots f g _)).trans (sameDeciders_commitEff f g _ _)

theorem sameDeciders_resolveList (g : Fn) (marks : Fn → Bool) :
    ∀ (fs : List Fn) (s : State), SameDeciders g s (resolveList fs marks s)
  | [], s => .refl g s
  | f :: fs, s => (sameDeciders_resolve f g (marks f) s).trans (sameDeciders_resolveList g marks fs _)

/-! ### The grants go no further -/

/-- No function gains a grant, and a held grant that stood still stands. -/
def KeepsGrants (s t : State) : Prop :=
  ∀ f, (grantOf t f).held.isSome = true → (grantOf s f).held.isSome = true ∧ (GrantStands s f → GrantStands t f)

theorem KeepsGrants.refl (s : State) : KeepsGrants s s := fun _ h => ⟨h, id⟩

theorem KeepsGrants.trans {s t u : State} (h : KeepsGrants s t) (h' : KeepsGrants t u) : KeepsGrants s u := fun f hf =>
  have ⟨ht, hstands⟩ := h' f hf
  have ⟨hs, hstood⟩ := h f ht
  ⟨hs, hstands ∘ hstood⟩

theorem KeepsGrants.grantsStand {s t : State} (h : KeepsGrants s t) (hs : GrantsStand s) : GrantsStand t := fun f hf =>
  have ⟨hheld, hstands⟩ := h f hf
  hstands (hs f hheld)

theorem KeepsGrants.foldl {α : Type} {g : State → α → State} (h : ∀ s a, KeepsGrants s (g s a)) :
    ∀ (xs : List α) (s : State), KeepsGrants s (xs.foldl g s)
  | [], s => .refl s
  | x :: xs, s => (h s x).trans (KeepsGrants.foldl h xs (g s x))

theorem grantStands_congr {s t : State} {f : Fn} (h : SameDeciders f s t) (hs : GrantStands s f) : GrantStands t f := by
  obtain ⟨hcomp, hslot, htakeover, htether, hlock⟩ := hs
  have hauth : authOf t f = authOf s f := by rw [authOf, h.profile]; rfl
  exact ⟨by rw [h.present]; exact hcomp, by rw [h.usable]; exact hslot, by rw [hauth]; exact htakeover,
    by rw [hauth, h.present]; exact htether, by rw [locked, h.lockout]; exact hlock⟩

theorem keepsGrants_of_deciders {s t : State} (h : ∀ f, SameDeciders f s t) : KeepsGrants s t := fun f hf =>
  ⟨by rw [← (h f).grant]; exact hf, grantStands_congr (h f)⟩

theorem keepsGrants_of_frame {l : List Block} {s t : State} (h : SameExcept l s t)
    (hl : ∀ b ∈ [Block.radio, .comp, .slots, .resolver, .profile], b ∉ l) : KeepsGrants s t :=
  keepsGrants_of_deciders (sameDeciders_of_frame h hl)

theorem keepsGrants_resolve (f : Fn) (byMark : Bool) (s : State) : KeepsGrants s (resolve f byMark s) :=
  keepsGrants_of_deciders fun g => sameDeciders_resolve f g byMark s

theorem keepsGrants_resolveList (fs : List Fn) (marks : Fn → Bool) (s : State) : KeepsGrants s (resolveList fs marks s) :=
  keepsGrants_of_deciders fun g => sameDeciders_resolveList g marks fs s

theorem keepsGrants_raise (k : Notice) (s : State) : KeepsGrants s (raise k s) :=
  keepsGrants_of_frame (raise_frame k s) (by decide)

/-- The end of a grant leaves its function without one, and every other grant as it was (R51). -/
theorem held_endGrant (why : EndReason) (f g : Fn) (s : State) :
    (grantOf (endGrant why f s) g).held = if g = f then none else (grantOf s g).held := by
  have hlamps : ∀ b u, grantOf (lampsIfHeld b u) g = grantOf u g := fun b u =>
    (lampsIfHeld_frame b u).grantOf (by decide) g
  have hraise : ∀ k u, grantOf (raise k u) g = grantOf u g := fun k u => (raise_frame k u).grantOf (by decide) g
  unfold endGrant
  split
  · rw [hlamps, grantOf_resolve, hraise]
    by_cases hg : g = f
    · rw [hg, grantOf_setGrant_same, if_pos rfl]
    · rw [grantOf_setGrant_ne s hg, if_neg hg]
  next hnone =>
    split
    next hg =>
      rw [hg]
      exact Option.not_isSome_iff_eq_none.mp hnone
    · rfl

theorem GrantStands.setGrant {s : State} {f : Fn} (h : GrantStands s f) (f' : Fn) (g : Grant) :
    GrantStands (setGrant s f' g) f := ⟨h.companion, h.slot, h.takeover, h.tether, h.unlocked⟩

theorem keepsGrants_setGrant (s : State) {f : Fn} {g : Grant} (h : g.held.isSome = true → (grantOf s f).held.isSome = true) :
    KeepsGrants s (setGrant s f g) := by
  intro f' hf'
  by_cases hff : f' = f
  · rw [hff, grantOf_setGrant_same] at hf'
    exact ⟨hff ▸ h hf', fun hs => hs.setGrant f g⟩
  · rw [grantOf_setGrant_ne s hff] at hf'
    exact ⟨hf', fun hs => hs.setGrant f g⟩

theorem keepsGrants_endGrant (why : EndReason) (f : Fn) (s : State) : KeepsGrants s (endGrant why f s) := by
  unfold endGrant
  split
  · exact (((keepsGrants_setGrant s (by simp)).trans (keepsGrants_raise _ _)).trans (keepsGrants_resolve f false _)).trans
      (keepsGrants_of_frame (lampsIfHeld_frame _ _) (by decide))
  · exact .refl s

theorem keepsGrants_endGrants (why : EndReason) (which : Fn → Bool) (s : State) : KeepsGrants s (endGrants why which s) :=
  KeepsGrants.foldl (fun t f => keepsGrants_endGrant why f t) _ s

theorem held_endGrants_of_which {why : EndReason} {which : Fn → Bool} {f : Fn} (h : which f = true) (s : State) :
    (grantOf (endGrants why which s) f).held = none := by
  have hfold : ∀ (fs : List Fn) (t : State), ((grantOf t f).held = none ∨ f ∈ fs) →
      (grantOf (fs.foldl (fun s g => endGrant why g s) t) f).held = none := by
    intro fs
    induction fs with
    | nil => intro t ht; simpa using ht
    | cons g gs ih =>
      intro t ht
      refine ih _ ?_
      rw [held_endGrant]
      by_cases hg : f = g
      · rw [if_pos hg]; exact .inl rfl
      · rw [if_neg hg]
        exact ht.imp_right fun hmem => (List.mem_cons.mp hmem).resolve_left hg
  exact hfold _ s (.inr (List.mem_filter.mpr ⟨Fn.mem_all f, h⟩))

/-- Ending the grants that do not stand leaves every grant standing. -/
theorem grantsStand_endGrants {why : EndReason} {which : Fn → Bool} {s : State}
    (h : ∀ f, (grantOf s f).held.isSome = true → which f = false → GrantStands s f) :
    GrantsStand (endGrants why which s) := by
  intro f hf
  obtain ⟨hheld, hstands⟩ := keepsGrants_endGrants why which s f hf
  refine hstands (h f hheld ?_)
  by_contra hwhich
  rw [held_endGrants_of_which (by simpa using hwhich)] at hf
  cases hf

/-! ### The demand table -/

/-- A write leaves a usable slot usable (R21, R23, R26). -/
theorem writtenSlot_offers (s : State) (f : Fn) (v : Int) {x : Slot} (h : x.state = .fresh ∨ x.state = .taken) :
    (writtenSlot s f v x).state = .fresh ∨ (writtenSlot s f v x).state = .taken := by
  have hwaiting : ∀ keep, (writeWaiting keep v x).state = x.state := by
    intro keep
    unfold writeWaiting
    split
    · rfl
    · split <;> rfl
  have hplain : (writePlain v x).state = .fresh ∨ (writePlain v x).state = .taken := by
    unfold writePlain
    split
    · dsimp only
      split
      · exact .inr rfl
      · exact .inl rfl
    · exact .inl rfl
  unfold writtenSlot
  dsimp only
  split
  · rw [hwaiting]; exact h
  · exact hplain

theorem usable_iff (s : State) (m : Master) (f : Fn) : usable s m f = true ↔
    ((slotOf s m f).state = .fresh ∨ (slotOf s m f).state = .taken) ∧ (hasMark f = true → (slotOf s m f).confirmed = true)
      ∧ (fnMask s m).getLsbD (fnNumber f) = true := by
  cases hm : hasMark f <;> simp [usable, hm, and_assoc]

/-- The replacement of a slot that leaves a usable one usable. -/
theorem keepsGrants_setSlot (s : State) (m : Master) (f : Fn) {x : Slot}
    (h : m = .companion → usable s .companion f = true → usable (setSlot s m f x) .companion f = true) :
    KeepsGrants s (setSlot s m f x) := by
  intro g hg
  have hframe := setSlot_frame s m f x
  have hauth := hframe.authOf (by decide) g
  refine ⟨by rw [← hframe.grantOf (by decide)]; exact hg, fun hs => ?_⟩
  obtain ⟨hcomp, hslot, htakeover, htether, hlock⟩ := hs
  have hslot' : usable (setSlot s m f x) .companion g = true := by
    by_cases hother : m = .companion ∧ g = f
    · obtain ⟨rfl, rfl⟩ := hother
      exact h rfl hslot
    · have hsame : slotOf (setSlot s m f x) .companion g = slotOf s .companion g := by
        rw [slotOf_setSlot, if_neg fun hc => hother ⟨hc.1.symm, hc.2⟩]
      rw [usable_iff, hsame, hframe.fnMask (by decide)]
      exact (usable_iff s .companion g).mp hslot
  exact ⟨by rw [hframe.present (by decide) (by decide)]; exact hcomp, hslot', by rw [hauth]; exact htakeover,
    by rw [hauth, hframe.present (by decide) (by decide)]; exact htether, by
      have hres : (setSlot s m f x).resolver = s.resolver := hframe .resolver (by decide)
      rw [locked, hres]; exact hlock⟩

theorem keepsGrants_writeSlot (m : Master) (f : Fn) (v : Int) (s : State) : KeepsGrants s (writeSlot m f v s) := by
  have hset : KeepsGrants s (setSlot s m f (writtenSlot s f (rangedValue f v) (slotOf s m f))) := by
    refine keepsGrants_setSlot s m f fun hm husable => ?_
    subst hm
    rw [usable_iff] at husable ⊢
    obtain ⟨hstate, hmark, hmask⟩ := husable
    rw [slotOf_setSlot_same, (setSlot_frame _ _ _ _).fnMask (by decide)]
    exact ⟨writtenSlot_offers s f _ hstate, fun hm => by simp [writtenSlot, hmark hm], hmask⟩
  unfold writeSlot
  dsimp only
  split
  · exact hset.trans (keepsGrants_resolve f _ _)
  · exact hset

/-- A slot that goes STALE takes the grant it carries with it (R56). -/
theorem grantsStand_slotStale {s : State} (hs : GrantsStand s) (m : Master) (f : Fn) : GrantsStand (slotStale m f s) := by
  unfold slotStale
  dsimp only
  split
  · refine (keepsGrants_resolve f false _).grantsStand ?_
    split
    next hm =>
      subst hm
      intro g hg
      have hgf : g ≠ f := by
        rintro rfl
        rw [held_endGrant, if_pos rfl] at hg
        cases hg
      obtain ⟨hheld, hstands⟩ := keepsGrants_endGrant .stale f _ g hg
      refine hstands (grantStands_congr ?_ (hs g ?_))
      · refine ⟨rfl, rfl, fun _ => rfl, fun m => ?_, fun m => ?_, rfl⟩
        · unfold usable
          rw [slotOf_setSlot_of_fn_ne s _ m hgf]
          rfl
        · rw [slotOf_setSlot_of_fn_ne s _ m hgf]
      · rwa [(setSlot_frame _ _ _ _).grantOf (by decide)] at hheld
    next hm => exact (keepsGrants_setSlot s m f fun h => absurd h hm).grantsStand hs
  · exact hs

theorem grantsStand_staleByHold {s : State} (hs : GrantsStand s) : GrantsStand (staleByHold s) := by
  have hstep : ∀ m u f, GrantsStand u → GrantsStand (if (authOf u f).hold < (slotOf u m f).age then slotStale m f u else u) := by
    intro m u f hu
    split
    · exact grantsStand_slotStale hu m f
    · exact hu
  exact foldl_keeps (hstep .companion) _ _ (foldl_keeps (hstep .radio) _ s hs)

/-! ### Presence -/

/-- Where the companion is not present no grant is held. -/
theorem GrantsStand.none_held {s : State} (hs : GrantsStand s) (h : present s .companion = false) (f : Fn) :
    (grantOf s f).held.isSome = false :=
  Bool.eq_false_iff.mpr fun hheld => by
    have hpresent := (hs f hheld).companion
    simp [h] at hpresent

theorem grantsStand_of_none {s : State} (h : ∀ f, (grantOf s f).held.isSome = false) : GrantsStand s := fun f hf => by
  simp [h f] at hf

/-- A chain that gives no function a grant. -/
def GivesNone (s t : State) : Prop := ∀ f, (grantOf s f).held.isSome = false → (grantOf t f).held.isSome = false

theorem KeepsGrants.givesNone {s t : State} (h : KeepsGrants s t) : GivesNone s t := fun f hf =>
  Bool.eq_false_iff.mpr fun hheld => by
    have hbefore := (h f hheld).1
    simp [hf] at hbefore

theorem givesNone_of_frame {l : List Block} {s t : State} (h : SameExcept l s t) (hl : .resolver ∉ l) : GivesNone s t :=
  fun f hf => by rw [h.grantOf hl]; exact hf

theorem GivesNone.trans {s t u : State} (h : GivesNone s t) (h' : GivesNone t u) : GivesNone s u := fun f hf => h' f (h f hf)

theorem keepsGrants_presenceChanged (m : Master) (marks : Fn → Bool) (s : State) :
    KeepsGrants s (presenceChanged m marks s) := by
  unfold presenceChanged
  dsimp only
  refine KeepsGrants.trans ?_ (keepsGrants_resolveList _ _ _)
  split
  · exact .refl s
  · cases m with
    | radio => exact keepsGrants_endGrants _ _ s
    | companion => exact keepsGrants_endGrants _ _ s

theorem clearMarks_frame_only (m : Master) (s : State) : SameExcept [.slots] s (clearMarks m s) := clearMarks_frame m s

theorem givesNone_masterReturns (m : Master) (s : State) : GivesNone s (masterReturns m s) := by
  have htimer : GivesNone s (loadTimer m s) := by
    cases m with
    | radio => exact givesNone_of_frame (setRadio_frame_only s _) (by decide)
    | companion => exact givesNone_of_frame (setComp_frame_only s _) (by decide)
  have hmarks : GivesNone s (clearMarks m (loadTimer m s)) :=
    htimer.trans (givesNone_of_frame (clearMarks_frame m _) (by decide))
  have hraised : ∀ u, GivesNone u (if m = .radio then raise .radioLive u else u) := by
    intro u
    split
    · exact (keepsGrants_raise _ u).givesNone
    · exact fun _ h => h
  have hhanded : ∀ marks u, GivesNone u (if present u m then presenceChanged m marks u else resolveMarks marks u) := by
    intro marks u
    split
    · exact (keepsGrants_presenceChanged m marks u).givesNone
    · exact (keepsGrants_resolveList _ marks u).givesNone
  exact (hmarks.trans (hraised _)).trans (hhanded _ _)

/-- The radio's own records, and its slots, carry no grant: one that stood stands where the radio is no less present. -/
theorem keepsGrants_radio {s t : State} (h : SameExcept [.radio, .slots] s t) (hpresent : present s .radio = true → present t .radio = true)
    (hslot : ∀ f, slotOf t .companion f = slotOf s .companion f) : KeepsGrants s t := by
  intro f hf
  have hauth := h.authOf (by decide) f
  have hcompanion : t.comp = s.comp := h .comp (by decide)
  have hres : t.resolver = s.resolver := h .resolver (by decide)
  refine ⟨by rw [← h.grantOf (by decide)]; exact hf, fun ⟨hcomp, husable, htakeover, htether, hlock⟩ => ?_⟩
  refine ⟨?_, ?_, by rw [hauth]; exact htakeover, by rw [hauth]; exact hpresent ∘ htether, by rw [locked, hres]; exact hlock⟩
  · rw [present, hcompanion]; exact hcomp
  · rw [usable, hslot, h.fnMask (by decide)]
    exact husable

theorem slotOf_clearMarks_of_master_ne {m m' : Master} (h : m' ≠ m) (s : State) (f : Fn) :
    slotOf (clearMarks m s) m' f = slotOf s m' f := by
  unfold clearMarks clearMark
  rw [slotOf_setSlot_of_master_ne _ h, slotOf_setSlot_of_master_ne _ h]

theorem keepsGrants_radioReturns (s : State) : KeepsGrants s (masterReturns .radio s) := by
  have hmarks : KeepsGrants s (clearMarks .radio (loadTimer .radio s)) := by
    refine keepsGrants_radio (((setRadio_frame_only s _).mono (by decide)).trans ((clearMarks_frame _ _).mono (by decide)))
      (fun _ => ?_) (fun f => slotOf_clearMarks_of_master_ne (by decide) _ f)
    rw [(clearMarks_frame _ _).present (by decide) (by decide)]
    rfl
  have hhanded : ∀ marks u, KeepsGrants u (if present u .radio then presenceChanged .radio marks u else resolveMarks marks u) := by
    intro marks u
    split
    · exact keepsGrants_presenceChanged _ marks u
    · exact keepsGrants_resolveList _ marks u
  exact (hmarks.trans (keepsGrants_raise .radioLive _)).trans (hhanded _ _)

/-- A context that was not LIVE was not present, so that the companion's return finds no grant (R3, R7). -/
theorem grantsStand_makeLive {s : State} (hs : GrantsStand s) (m : Master) : GrantsStand (makeLive m s) := by
  unfold makeLive
  split
  next hlive =>
    refine KeepsGrants.grantsStand ?_ hs
    cases m with
    | radio => exact keepsGrants_radio ((setRadio_frame_only s _).mono (by decide)) (fun _ => rfl) fun _ => rfl
    | companion =>
      have hstate : s.comp.state = .live := hlive
      have hpresent : ∀ m, present (loadTimer .companion s) m = present s m := by
        intro m
        cases m with
        | radio => rfl
        | companion => simp [present, loadTimer, hstate]
      exact keepsGrants_of_deciders fun f => ⟨rfl, rfl, hpresent, fun _ => rfl, fun _ => rfl, rfl⟩
  next hdead =>
    cases m with
    | radio => exact (keepsGrants_radioReturns s).grantsStand hs
    | companion =>
      have hstate : s.comp.state ≠ .live := hdead
      refine grantsStand_of_none fun f => givesNone_masterReturns .companion s f (hs.none_held ?_ f)
      simp [present, hstate]

theorem presenceChanged_companion_gone {s : State} (h : present s .companion = false) (marks : Fn → Bool) :
    presenceChanged .companion marks s = resolveList Fn.all marks (endGrants .lapse (fun _ => true) s) := by
  simp [presenceChanged, h]

theorem presenceChanged_radio_gone {s : State} (h : present s .radio = false) (marks : Fn → Bool) :
    presenceChanged .radio marks s =
      resolveList Fn.all marks (endGrants .tether (fun f => (authOf s f).tethered) s) := by
  simp [presenceChanged, h]

theorem grantsStand_companionGone {s : State} (h : present s .companion = false) (marks : Fn → Bool) :
    GrantsStand (presenceChanged .companion marks s) := by
  rw [presenceChanged_companion_gone h]
  exact (keepsGrants_resolveList _ _ _).grantsStand (grantsStand_endGrants fun f _ hf => by cases hf)

theorem grantsStand_lapse {s : State} (hs : GrantsStand s) (m : Master) : GrantsStand (lapse m s) := by
  unfold lapse
  split
  · split
    · have hgone : ∀ u : State, u.radio.state = .lapsed → present u .radio = false := fun u hu => by simp [present, hu]
      have hframe : ∀ v, SameExcept [.radio, .notices] s (raise .radioLapsed (s.setRadio v)) := fun v =>
        ((setRadio_frame_only s v).mono (by decide)).trans ((raise_frame _ _).mono (by decide))
      have hstate : ∀ v, (raise .radioLapsed (s.setRadio v)).radio = v := fun v => raise_frame _ _ .radio (by decide)
      rw [presenceChanged_radio_gone (hgone _ (by rw [hstate]))]
      refine (keepsGrants_resolveList _ _ _).grantsStand (grantsStand_endGrants fun f hf htether => ?_)
      rw [(hframe _).grantOf (by decide)] at hf
      have hauth := (hframe { s.radio with state := .lapsed, timer := 0, lastSeq := none, flags := 0 }).authOf (by decide) f
      obtain ⟨hcomp, hslot, htakeover, _, hlock⟩ := hs f hf
      exact ⟨hcomp, hslot, htakeover, (fun h => by rw [htether] at h; cases h), hlock⟩
    · exact hs
  · split
    · dsimp only
      split
      next hbarred =>
        refine grantsStand_of_none fun f => ?_
        exact hs.none_held (by simp [present, hbarred]) f
      · exact grantsStand_companionGone (by simp [present]) _
    · exact hs

theorem grantsStand_writeBar {s : State} (hs : GrantsStand s) (b : Bool) : GrantsStand (writeBar b s) := by
  have hcomp : ∀ v, (raise .barChanged (s.setComp v)).comp = v := fun v => raise_frame _ _ .comp (by decide)
  unfold writeBar
  split
  · exact hs
  next hchanged =>
    dsimp only
    cases b with
    | false =>
      have hbarred : s.comp.barred = true := by simpa using hchanged
      have hnone : ∀ f, (grantOf s f).held.isSome = false := hs.none_held (by simp [present, hbarred])
      refine grantsStand_of_none fun f => ?_
      have hcleared : ∀ v, GivesNone s (clearMarks .companion (raise .barChanged (s.setComp v))) := fun v =>
        (givesNone_of_frame (setComp_frame_only s v) (by decide)).trans
          ((keepsGrants_raise _ _).givesNone.trans (givesNone_of_frame (clearMarks_frame _ _) (by decide)))
      simp only [Bool.false_eq_true, if_false]
      split
      · exact (hcleared _).trans (keepsGrants_presenceChanged _ _ _).givesNone f (hnone f)
      · exact (hcleared _).trans (keepsGrants_resolveList _ _ _).givesNone f (hnone f)
    | true =>
      simp only [if_true]
      split
      · exact grantsStand_companionGone (by simp [present, hcomp]) _
      next hdead =>
        have hnone : ∀ f, (grantOf s f).held.isSome = false := hs.none_held (by simp [present, hdead])
        refine grantsStand_of_none fun f => ?_
        exact ((givesNone_of_frame (setComp_frame_only s _) (by decide)).trans (keepsGrants_raise _ _).givesNone).trans
          (keepsGrants_resolveList _ _ _).givesNone f (hnone f)

/-! ### The beginning of a grant -/

/-- The nine checks of a GRANT are what a held grant stands on (R52). -/
theorem grantStands_of_checkGrant {s : State} {n : Nat} {f : Fn} (h : checkGrant s n = .ok f)
    (hlive : s.comp.state = .live) : GrantStands s f := by
  unfold checkGrant at h
  split at h
  · cases h
  · repeat' (split at h; · cases h)
    cases h
    rename_i hbarred _ _ _ hlock htakeover husable htether _
    refine ⟨?_, by simpa using husable, by simpa using htakeover, fun ht => ?_, by simpa using hlock⟩
    · simp [present, hlive]
      simpa using hbarred
    · simpa [ht] using htether

theorem grantsStand_beginGrant {s : State} (hs : GrantsStand s) {n : Nat} {f : Fn} (hchecks : checkGrant s n = .ok f)
    (hlive : s.comp.state = .live) (d : Nat) : GrantsStand (beginGrant f d s) := by
  have hset : GrantsStand (setGrant s f { grantOf s f with held := some ⟨d, 0⟩ }) := by
    intro g hg
    by_cases hgf : g = f
    · rw [hgf]
      exact (grantStands_of_checkGrant hchecks hlive).setGrant f _
    · rw [grantOf_setGrant_ne s hgf] at hg
      exact (hs g hg).setGrant f _
  exact ((keepsGrants_resolve f false _).trans (keepsGrants_of_frame (lampsIfHeld_frame _ _) (by decide))).grantsStand hset

theorem GrantsStand.context {s t : State} (hs : GrantsStand s) (h : ContextEvent s t) : GrantsStand t := by
  cases h with
  | radioCounts v hstate =>
    exact (keepsGrants_of_deciders (s := s) (t := s.setRadio v) fun f =>
      ⟨rfl, rfl, fun m => by cases m <;> simp [present, hstate], fun _ => rfl, fun _ => rfl, rfl⟩).grantsStand hs
  | compCounts v hstate hbarred =>
    exact (keepsGrants_of_deciders (s := s) (t := s.setComp v) fun f =>
      ⟨rfl, rfl, fun m => by cases m <;> simp [present, hstate, hbarred], fun _ => rfl, fun _ => rfl, rfl⟩).grantsStand hs
  | endGrant why f => exact (keepsGrants_endGrant why f s).grantsStand hs
  | beginGrant d hchecks hlive => exact grantsStand_beginGrant hs hchecks hlive d
  | breakaway n hheld => exact (keepsGrants_setGrant s fun _ => by rw [hheld]; rfl).grantsStand hs
  | blendStep f => exact (keepsGrants_of_deciders fun g => sameDeciders_blendStep f g s).grantsStand hs
  | writeSlot m => exact (keepsGrants_writeSlot m _ _ s).grantsStand hs
  | slotStale m f => exact grantsStand_slotStale hs m f
  | makeLive m => exact grantsStand_makeLive hs m
  | lapse m => exact grantsStand_lapse hs m
  | writeBar b => exact grantsStand_writeBar hs b

/-! ### Pack Protection -/

/-- Filling the lockout set ends the grants on the functions that it locks (R41, R56). -/
theorem grantsStand_fillLockout {s : State} (hs : GrantsStand s) : GrantsStand (fillLockout s) := by
  refine (keepsGrants_resolveList _ _ _).grantsStand (grantsStand_endGrants fun f hf hfree => ?_)
  obtain ⟨hcomp, hslot, htakeover, htether, _⟩ := hs f hf
  exact ⟨hcomp, hslot, htakeover, htether, by rw [locked, hfree, Bool.and_false]⟩

theorem grantsStand_emptyLockout {s : State} (hs : GrantsStand s) : GrantsStand (emptyLockout s) := by
  refine (keepsGrants_resolveList _ _ _).grantsStand fun f hf => ?_
  obtain ⟨hcomp, hslot, htakeover, htether, _⟩ := hs f hf
  exact ⟨hcomp, hslot, htakeover, htether, rfl⟩

/-- What Pack Protection changes beside the resolver carries no grant. -/
theorem keepsGrants_pack {s t : State} (h : SameExcept [.protection, .retained, .lamps, .notices, .sense] s t) :
    KeepsGrants s t := keepsGrants_of_frame h (by decide)

theorem ends_frame (s : State) :
    SameExcept [.protection, .retained, .lamps, .notices, .sense] s (lampResolve (raise .packState (retarget s))) :=
  (((retarget_frame_only s).mono (by decide)).trans ((raise_frame _ _).mono (by decide))).trans
    ((lampResolve_frame _).mono (by decide))

theorem latched_frame (s : State) (r : Retained) (p : Protection) :
    SameExcept [.protection, .retained, .lamps, .notices, .sense] s ((s.setRetained r).setProtection p) :=
  ((setRetained_frame_only s r).mono (by decide)).trans ((setProtection_frame_only _ p).mono (by decide))

theorem grantsStand_enterCutoff {s : State} (hs : GrantsStand s) (why : LatchReason) : GrantsStand (enterCutoff why s) := by
  have hfilled := grantsStand_fillLockout ((keepsGrants_pack (latched_frame s { s.retained with latch := some why }
    { s.protection with state := .cutoff, dwell := none, recovery := none })).grantsStand hs)
  exact (keepsGrants_pack ((ends_frame _).trans ((recoveryDriveTest_frame_only _).mono (by decide)))).grantsStand hfilled

theorem grantsStand_leaveCutoff {s : State} (hs : GrantsStand s) : GrantsStand (leaveCutoff s) := by
  have hemptied := grantsStand_emptyLockout ((keepsGrants_pack (latched_frame s { s.retained with latch := none }
    { s.protection with state := .normal, recovery := none })).grantsStand hs)
  exact (keepsGrants_pack (ends_frame _)).grantsStand hemptied

theorem grantsStand_dwellExpires {s : State} (hs : GrantsStand s) : GrantsStand (dwellExpires s) := by
  unfold dwellExpires
  split
  · exact grantsStand_enterCutoff hs _
  · exact hs

theorem grantsStand_recoveryExpires {s : State} (hs : GrantsStand s) : GrantsStand (recoveryExpires s) := by
  unfold recoveryExpires
  split
  · exact grantsStand_leaveCutoff hs
  · exact hs

theorem grantsStand_nopackHanded {s : State} (hs : GrantsStand s) : GrantsStand (nopackHanded s) := by
  unfold nopackHanded
  split
  · exact (keepsGrants_pack (latched_frame s _ _)).grantsStand hs
  · exact grantsStand_enterCutoff hs _

theorem GrantsStand.pack {s t : State} (hs : GrantsStand s) (h : PackEvent s t) : GrantsStand t := by
  cases h with
  | currentHanded ip =>
    exact (keepsGrants_pack ((packCurrentHanded_frame_only ip s).mono (by decide))).grantsStand hs
  | cellsHanded n nopack =>
    have hmin : GrantsStand (takeMinimum n (takeThresholds s)) :=
      (keepsGrants_pack (((setProtection_frame_only s _).trans (setProtection_frame_only _ _)).mono (by decide))).grantsStand hs
    have hjudged : GrantsStand (if nopack then nopackHanded (takeMinimum n (takeThresholds s))
        else takeMinimum n (takeThresholds s)) := by
      split
      · exact grantsStand_nopackHanded hmin
      · exact hmin
    exact (keepsGrants_pack (((evaluateState_frame_only _).mono (by decide)).trans
      (((retarget_frame_only _).trans (recoveryCellTest_frame_only _)).mono (by decide)))).grantsStand hjudged
  | openSetHanded => exact (keepsGrants_pack ((openSetHanded_frame_only s).mono (by decide))).grantsStand hs
  | dwellExpires => exact grantsStand_dwellExpires hs
  | recoveryExpires => exact grantsStand_recoveryExpires hs

/-! ### Writes -/

theorem grantsStand_dwellsByTime {s : State} (hs : GrantsStand s) : GrantsStand (dwellsByTime s) := by
  unfold dwellsByTime
  split
  · split
    · exact grantsStand_dwellExpires hs
    · exact hs
  · split
    · exact grantsStand_recoveryExpires hs
    · exact hs
  · exact hs

theorem grantsStand_packActs {s : State} (hs : GrantsStand s) (old : Pack) : GrantsStand (packActs old s) := by
  have htested : ∀ (p : Prop) [Decidable p] u, KeepsGrants u (if p then u else recoveryCellTest u) := by
    intro p _ u
    split
    · exact .refl u
    · exact keepsGrants_pack ((recoveryCellTest_frame_only u).mono (by decide))
  have hdrag : ∀ u, KeepsGrants u (cutoffDragHanded old u) := by
    intro u
    unfold cutoffDragHanded
    split
    · exact keepsGrants_resolve _ _ u
    · exact .refl u
  have hsense := keepsGrants_pack ((setSense_frame_only s (packSense old s.profile.pack s.sense)).mono (by decide))
  have hretarget : ∀ u, KeepsGrants u (retarget u) := fun u => keepsGrants_pack ((retarget_frame_only u).mono (by decide))
  exact grantsStand_dwellsByTime ((((hsense.trans (htested _ _)).trans (hdrag _)).trans (hretarget _)).grantsStand hs)

/-- A write of a section that neither holds the map nor a function mask. -/
theorem grantsStand_setProfile {s : State} (hs : GrantsStand s) {p : Profile} (hauth : p.authority = s.profile.authority)
    (hsources : p.sources = s.profile.sources) : GrantsStand (s.setProfile p) := by
  intro f hf
  obtain ⟨hcomp, hslot, htakeover, htether, hlock⟩ := hs f hf
  have hmap : authOf (s.setProfile p) f = authOf s f := congrArg (fun a => PerFn.get a f) hauth
  have hmask : fnMask (s.setProfile p) .companion = fnMask s .companion := congrArg Sources.compFns hsources
  refine ⟨hcomp, ?_, by rw [hmap]; exact htakeover, by rw [hmap]; exact htether, hlock⟩
  rw [usable, hmask]
  exact hslot

/-- New function masks end the grants out of the companion's reach (R14, R18). -/
theorem grantsStand_sources {s : State} (hs : GrantsStand s) (v : Sources) :
    GrantsStand (sourcesActs s.profile.sources (s.setProfile { s.profile with sources := v })) := by
  have hbut : ∀ f, (grantOf (s.setProfile { s.profile with sources := v }) f).held.isSome = true →
      v.compFns.getLsbD (fnNumber f) = true → GrantStands (s.setProfile { s.profile with sources := v }) f := by
    intro f hf hmask
    obtain ⟨hcomp, hslot, htakeover, htether, hlock⟩ := hs f hf
    rw [usable_iff] at hslot
    exact ⟨hcomp, (usable_iff _ _ f).mpr ⟨hslot.1, hslot.2.1, hmask⟩, htakeover, htether, hlock⟩
  unfold sourcesActs
  split
  next hsame =>
    intro f hf
    refine hbut f hf ?_
    have hslot := (usable_iff s .companion f).mp (hs f hf).slot
    have hmask : s.profile.sources.compFns.getLsbD (fnNumber f) = true := hslot.2.2
    rw [hsame.2] at hmask
    exact hmask
  · refine (keepsGrants_resolveList _ _ _).grantsStand (grantsStand_endGrants fun f hf hwhich => ?_)
    exact hbut f hf (by simpa using hwhich)

/-- A new map ends the grants that it does not allow, and new hold times those of slots that go STALE (R39). -/
theorem grantsStand_authority {s : State} (hs : GrantsStand s) (v : PerFn AuthEntry) :
    GrantsStand (authorityActs (s.setProfile { s.profile with authority := v })) := by
  refine (keepsGrants_resolveList _ _ _).grantsStand (grantsStand_staleByHold (grantsStand_endGrants fun f hf hwhich => ?_))
  obtain ⟨hcomp, hslot, _, _, hlock⟩ := hs f hf
  simp only [Bool.or_eq_false_iff, Bool.not_eq_false', Bool.and_eq_false_iff] at hwhich
  refine ⟨hcomp, hslot, hwhich.1, fun htether => ?_, hlock⟩
  exact hwhich.2.resolve_left (by simp [htether])

theorem GrantsStand.write {s t : State} (hs : GrantsStand s) (h : WriteEvent s t) : GrantsStand t := by
  obtain ⟨hparked, hbody⟩ := h
  rename_i k body d
  clear hparked hbody
  have hkeep : ∀ {l : List Block} {u v : State}, SameExcept l u v →
      (∀ b ∈ [Block.radio, .comp, .slots, .resolver, .profile], b ∉ l) → GrantsStand u → GrantsStand v :=
    fun h hl => (keepsGrants_of_frame h hl).grantsStand
  cases d with
  | sources v => exact grantsStand_sources hs v
  | map v => exact grantsStand_setProfile hs rfl rfl
  | authority v => exact grantsStand_authority hs v
  | failsafe v => exact (keepsGrants_resolveList _ _ _).grantsStand (grantsStand_setProfile hs rfl rfl)
  | geometry v => exact hkeep (geometryActs_frame_only _) (by decide) (grantsStand_setProfile hs rfl rfl)
  | drive v =>
    exact hkeep (driveActs_frame_from_test _ _) (by decide)
      (hkeep (recoveryDriveTest_frame_only _) (by decide) (grantsStand_setProfile hs rfl rfl))
  | winch v => exact hkeep (winchActsOn_frame _ _) (by decide) (grantsStand_setProfile hs rfl rfl)
  | pack v =>
    have hlive : GrantsStand (s.setProfile { s.profile with pack := v }) := grantsStand_setProfile hs rfl rfl
    exact grantsStand_packActs hlive s.profile.pack
  | lamps v => exact hkeep (lampResolve_frame _) (by decide) (grantsStand_setProfile hs rfl rfl)
  | scene i v => exact hkeep (sceneActs_frame i _) (by decide) (grantsStand_setProfile hs rfl rfl)
  | reply v => exact grantsStand_setProfile hs rfl rfl

/-! ### Every event -/

theorem keepsGrants_steeringUpdate (s : State) : KeepsGrants s (steeringUpdate s) := by
  have hsteer : ∀ {u v : State}, SameExcept [.steering, .drive] u v → KeepsGrants u v := fun h =>
    keepsGrants_of_frame h (by decide)
  have hspeed : ∀ u, KeepsGrants u (speedTest u) := by
    intro u
    unfold speedTest
    split
    · split
      · exact hsteer (((setSteering_frame_only u _).mono (by decide)).trans ((busyClamp_frame_only _).mono (by decide)))
      · exact .refl u
    · exact .refl u
  have hset : ∀ u v, KeepsGrants u (u.setSteering v) := fun u v => hsteer ((setSteering_frame_only u v).mono (by decide))
  have hrear : ∀ u, KeepsGrants u (rearStage u) := fun u =>
    rearStage_cases (P := KeepsGrants u)
      (fun v => (((hset u v).trans (hset _ _)).trans (keepsGrants_raise _ _)).trans (keepsGrants_resolve _ _ _))
      (fun v => hset u v)
  exact ((((hset s _).trans (hspeed _)).trans (hset _ _)).trans (hrear _)).trans (hset _ _)

theorem keepsGrants_tick (s : State) : KeepsGrants s (tick s) := by
  intro f hf
  have hgrant : grantOf (tick s) f = tickGrant (grantOf s f) := PerFn.get_of _ f
  have hslot : slotOf (tick s) .companion f = tickSlot (slotOf s .companion f) := PerFn.get_of _ f
  rw [hgrant, tickGrant, Option.isSome_map] at hf
  refine ⟨hf, fun ⟨hcomp, husable, htakeover, htether, hlock⟩ => ⟨hcomp, ?_, htakeover, htether, hlock⟩⟩
  rw [usable, hslot]
  unfold tickSlot
  split <;> exact husable

theorem GrantsStand.event {s t : State} (hs : GrantsStand s) (h : Event s t) : GrantsStand t := by
  cases h with
  | quiet h => exact (keepsGrants_of_frame h (by decide)).grantsStand hs
  | context h => exact hs.context h
  | wheel h => exact (keepsGrants_of_frame h.frame (by decide)).grantsStand hs
  | winch h => exact (keepsGrants_of_frame h.frame (by decide)).grantsStand hs
  | pack h => exact hs.pack h
  | write h => exact hs.write h
  | steering => exact (keepsGrants_steeringUpdate s).grantsStand hs
  | apportion => exact (keepsGrants_of_frame (apportion_frame_only s) (by decide)).grantsStand hs
  | tick => exact (keepsGrants_tick s).grantsStand hs

theorem grantOf_firstResolution (s : State) (f : Fn) : grantOf (firstResolution s) f = grantOf s f :=
  foldl_keeps (P := fun t => grantOf t f = grantOf s f) (g := firstEntry) (fun _ _ ht => ht) _ s rfl

/-- A reset ends every grant (R57). -/
theorem grantOf_startUp (pins : Pins) (s : State) (f : Fn) : grantOf (startUp pins s) f = ⟨none, none⟩ := by
  unfold startUp
  dsimp only
  rw [(startRecovery_frame _).grantOf (by decide), (startOutputs_frame pins _).grantOf (by decide), grantOf_firstResolution,
    (startNotices_frame _ _).grantOf (by decide)]
  exact PerFn.get_of _ f

theorem grantsStand_startUp (pins : Pins) (s : State) : GrantsStand (startUp pins s) :=
  grantsStand_of_none fun f => by rw [grantOf_startUp]; rfl

/-- Settles O12. -/
theorem grantsStayOnPresence : Obligations.GrantsStayOnPresence := by
  unfold Obligations.GrantsStayOnPresence
  exact fun s t hs hstep => step_keeps (fun _ _ hu h => hu.event h) grantsStand_startUp hs hstep

end Sys2Proof.Machine
end

section
/-! PROOFS. What acceptance of a section leaves alone, and the two cells of the companion link. -/
namespace Sys2Proof.Machine

/-! ### Acceptance -/

/-- What a section's acceptance can change: Pack Protection's reach, and the sense record of a PACK write. -/
def actTouches : List Block := .sense :: packTouches

theorem cutoffDragHanded_packActs_frame (old : Pack) (s : State) :
    SameExcept packTouches (s.setSense (packSense old s.profile.pack s.sense)) (packActs old s) := by
  have hrest : ∀ t, SameExcept packTouches t (dwellsByTime (retarget (cutoffDragHanded old t))) := fun t =>
    (((cutoffDragHanded_frame old t).mono (by decide)).trans ((retarget_frame_only _).mono (by decide))).trans
      (dwellsByTime_frame _)
  unfold packActs
  dsimp only
  split
  · exact hrest _
  · exact ((recoveryCellTest_frame_only _).mono (by decide)).trans (hrest _)

/-- Acceptance of a section other than PACK stays within Pack Protection's reach. -/
theorem sectionActs_frame_of_ne_pack (old : Profile) {d : SectionData} (h : ∀ v, d ≠ .pack v) (s : State) :
    SameExcept packTouches s (sectionActs old d s) := by
  cases d with
  | sources v =>
    show SameExcept packTouches s (sourcesActs _ s)
    unfold sourcesActs
    split
    · exact .refl _ s
    · exact ((endGrants_frame _ _ s).trans (resolveList_frame _ _ _)).mono (by decide)
  | map v => exact .refl _ s
  | authority v =>
    exact (((endGrants_frame _ _ s).trans (staleByHold_frame _)).trans (resolveList_frame _ _ _)).mono (by decide)
  | failsafe v => exact (resolveList_frame _ _ s).mono (by decide)
  | geometry v => exact (geometryActs_frame_only s).mono (by decide)
  | drive v =>
    exact ((recoveryDriveTest_frame_only s).mono (by decide)).trans ((driveActs_frame_from_test _ s).mono (by decide))
  | winch v => exact (winchActsOn_frame _ s).mono (by decide)
  | pack v => exact absurd rfl (h v)
  | lamps v => exact (lampResolve_frame s).mono (by decide)
  | scene i v => exact (sceneActs_frame i s).mono (by decide)
  | reply v => exact .refl _ s

theorem sectionActs_frame_acts (old : Profile) (d : SectionData) (s : State) :
    SameExcept actTouches s (sectionActs old d s) := by
  by_cases h : ∃ v, d = .pack v
  · obtain ⟨v, rfl⟩ := h
    exact ((setSense_frame_only s _).mono (by decide)).trans
      ((cutoffDragHanded_packActs_frame old.pack s).mono (by decide))
  · exact (sectionActs_frame_of_ne_pack old (fun v hv => h ⟨v, hv⟩) s).mono (by decide)

theorem waiting_sectionActs (old : Profile) (d : SectionData) (s : State) :
    (sectionActs old d s).sense.waiting = s.sense.waiting := by
  by_cases h : ∃ v, d = .pack v
  · obtain ⟨v, rfl⟩ := h
    have hsense : (packActs old.pack s).sense = packSense old.pack s.profile.pack s.sense :=
      cutoffDragHanded_packActs_frame old.pack s .sense (by decide)
    exact (congrArg Sense.waiting hsense : (packActs old.pack s).sense.waiting = _)
  · exact congrArg Sense.waiting (sectionActs_frame_of_ne_pack old (fun v hv => h ⟨v, hv⟩) s .sense (by decide))

/-! ### The cells -/

theorem CellsExclusive.of_same {s t : State} (hs : CellsExclusive s) (hrequest : t.compPort.request = s.compPort.request)
    (hanswer : t.compPort.answer = s.compPort.answer) (hheld : t.compPort.restartHeld = s.compPort.restartHeld)
    (hstore : t.store.storing = s.store.storing) (hwaiting : t.sense.waiting = s.sense.waiting) : CellsExclusive t := by
  obtain ⟨hone, hwrite, hcheck, hrestart⟩ := hs
  exact ⟨by rw [hrequest, hanswer]; exact hone, by rw [hrequest, hstore]; exact hwrite,
    by rw [hrequest, hwaiting]; exact hcheck, by rw [hheld, hanswer]; exact hrestart⟩

theorem CellsExclusive.of_frame {l : List Block} {s t : State} (hs : CellsExclusive s) (h : SameExcept l s t)
    (hl : .compPort ∉ l ∧ .store ∉ l ∧ .sense ∉ l) : CellsExclusive t := by
  have hport : t.compPort = s.compPort := h .compPort hl.1
  have hstore : t.store = s.store := h .store hl.2.1
  have hsense : t.sense = s.sense := h .sense hl.2.2
  exact hs.of_same (by rw [hport]) (by rw [hport]) (by rw [hport]) (by rw [hstore]) (by rw [hsense])

theorem CellsExclusive.setSense {s : State} (hs : CellsExclusive s) {v : Sense} (h : v.waiting = s.sense.waiting) :
    CellsExclusive (s.setSense v) := hs.of_same rfl rfl rfl rfl h

/-- No store runs and no CHECK_LEADS waits. -/
structure Unheld (s : State) : Prop where
  storing : s.store.storing = none
  waiting : s.sense.waiting = false

theorem Unheld.of_frame {l : List Block} {s t : State} (hs : Unheld s) (h : SameExcept l s t)
    (hl : .store ∉ l ∧ .sense ∉ l) : Unheld t := by
  have hstore : t.store = s.store := h .store hl.1
  have hsense : t.sense = s.sense := h .sense hl.2
  exact ⟨by rw [hstore]; exact hs.storing, by rw [hsense]; exact hs.waiting⟩

theorem CellsExclusive.unheld {s : State} (hs : CellsExclusive s) (h : s.compPort.request = none) : Unheld s := by
  obtain ⟨_, hwrite, hcheck, _⟩ := hs
  rw [h] at hwrite hcheck
  constructor
  · simpa using hwrite
  · simpa using hcheck

/-- An answer placed with nothing held leaves the request cell free and the answer cell occupied. -/
theorem cellsExclusive_placeAnswer {s : State} (hs : Unheld s) (bytes : List Byte) :
    CellsExclusive (placeAnswer bytes s) :=
  ⟨(fun h => by cases h), by simp [placeAnswer, hs.storing], by simp [placeAnswer, hs.waiting], fun _ => rfl⟩

theorem cellsExclusive_answer {s : State} (hs : Unheld s) (k : Kind) (payload : List Byte) :
    CellsExclusive (answer k payload s) :=
  (cellsExclusive_placeAnswer hs _).of_frame (setComp_frame_only _ _) (by decide)

theorem cellsExclusive_refuseByte {s : State} (hs : Unheld s) (c : Cause) (kind : Byte) :
    CellsExclusive (refuseByte c kind s) :=
  (cellsExclusive_placeAnswer hs _).of_frame ((setComp_frame_only _ _).trans (setComp_frame_only _ _)) (by decide)

theorem cellsExclusive_refuse {s : State} (hs : Unheld s) (c : Cause) (k : Kind) : CellsExclusive (refuse c k s) :=
  cellsExclusive_refuseByte hs c _

/-! ### Requests -/

/-- A write accepted while the answer cell is empty occupies the request cell with its store (R172). -/
theorem cellsExclusive_acceptWrite {s : State} (hs : Unheld s) (hanswer : s.compPort.answer = none)
    (hheld : s.compPort.restartHeld = false) (k : Sect) (d : SectionData) : CellsExclusive (acceptWrite k d s) := by
  have hframe : SameExcept (.profile :: actTouches) s (sectionActs s.profile d (writeLive d s)) :=
    ((setProfile_frame_only s _).mono (by decide)).trans ((sectionActs_frame_acts _ d _).mono (by decide))
  have hport : (sectionActs s.profile d (writeLive d s)).compPort = s.compPort := hframe .compPort (by decide)
  have hwaiting : (sectionActs s.profile d (writeLive d s)).sense.waiting = false :=
    (waiting_sectionActs s.profile d (writeLive d s)).trans hs.waiting
  refine ⟨fun _ => ?_, ?_, ?_, fun h => ?_⟩
  · show (sectionActs s.profile d (writeLive d s)).compPort.answer = none
    rw [hport, hanswer]
  · exact ⟨fun _ => rfl, fun _ => rfl⟩
  · show some HeldRequest.profileWrite = some .checkLeads ↔ (sectionActs s.profile d (writeLive d s)).sense.waiting = true
    simp [hwaiting]
  · have h' : (sectionActs s.profile d (writeLive d s)).compPort.restartHeld = true := h
    rw [hport, hheld] at h'
    cases h'

theorem cellsExclusive_runRequest (q : Request) {s : State} (hs : Unheld s) (hanswer : s.compPort.answer = none)
    (hheld : s.compPort.restartHeld = false) : CellsExclusive (runRequest q s) := by
  have hrefuse : ∀ c k, CellsExclusive (refuse c k s) := fun c k => cellsExclusive_refuse hs c k
  have hanswered : ∀ {l : List Block} {u : State}, SameExcept l s u → (.store ∉ l ∧ .sense ∉ l) →
      ∀ k payload, CellsExclusive (answer k payload u) := fun h hl k payload =>
    cellsExclusive_answer (hs.of_frame h hl) k payload
  cases q with
  | demand pairs =>
    simp only [runRequest, runDemand]
    split
    · exact hrefuse _ _
    · exact hanswered (takePairs_frame pairs s) (by decide) _ _
  | grant fn d =>
    simp only [runRequest, runGrant]
    split
    · exact hrefuse _ _
    · exact hanswered (beginGrant_frame _ _ s) (by decide) _ _
  | release fn =>
    simp only [runRequest, runRelease]
    split
    · exact hrefuse _ _
    · exact hanswered (endGrant_frame _ _ s) (by decide) _ _
  | statusRead page =>
    simp only [runRequest, runStatus]
    split
    · exact cellsExclusive_answer hs _ _
    · exact hrefuse _ _
  | telemetryRead page =>
    simp only [runRequest, runTelemetry]
    split
    · exact cellsExclusive_answer hs _ _
    · exact hrefuse _ _
  | noticeTake => exact hanswered (setNotices_frame_only s _) (by decide) _ _
  | causeTake => exact hanswered (setComp_frame_only s _) (by decide) _ _
  | flagsSet flags => exact hanswered (setComp_frame_only s _) (by decide) _ _
  | profileWrite sect body =>
    simp only [runRequest, writeProfile]
    split
    · exact hrefuse _ _
    · exact cellsExclusive_acceptWrite hs hanswer hheld _ _
  | profileRead sect scene =>
    simp only [runRequest, readProfile]
    split
    · exact cellsExclusive_answer hs _ _
    · exact hrefuse _ _
  | patternWrite bank first steps =>
    simp only [runRequest, runPattern]
    split
    · exact hrefuse _ _
    · exact hanswered (writePattern_frame _ _ _ s) (by decide) _ _
  | bankSwitch => exact hanswered (requestSwitch_frame s) (by decide) _ _
  | winchZero =>
    simp only [runRequest, runWinchZero]
    split
    · exact hrefuse _ _
    · exact hanswered (homeBraked_frame s) (by decide) _ _
  | checkLeads =>
    refine ⟨fun _ => hanswer, ?_, ⟨fun _ => rfl, fun _ => rfl⟩, fun h => by cases hheld.symm.trans h⟩
    simp [runRequest, runCheckLeads, hs.storing]
  | restart =>
    simp only [runRequest, runRestart]
    split
    · obtain ⟨hone, hwrite, hcheck, _⟩ := cellsExclusive_answer hs .restart okPayload
      exact ⟨hone, hwrite, hcheck, fun _ => rfl⟩
    · exact hrefuse _ _

theorem CellsExclusive.takeRequest {s : State} (hs : CellsExclusive s) (kind : Byte) (r : Except Cause Request) :
    CellsExclusive (takeRequest kind r s) := by
  have hlive := makeLive_frame .companion s
  unfold Machine.takeRequest
  split
  · unfold refuseBusy countRefused addCause
    have hcounted : ∀ u v w, CellsExclusive u → CellsExclusive ((u.setComp v).setComp w) := fun u v w hu =>
      hu.of_frame ((setComp_frame_only u v).trans (setComp_frame_only _ w)) (by decide)
    split
    · exact hcounted _ _ _ (hs.of_frame hlive (by decide))
    · exact hcounted _ _ _ hs
  next hfree =>
    simp only [cellsBusy, Bool.or_eq_true, Option.isSome_iff_ne_none, not_or, not_not] at hfree
    obtain ⟨hrequest, hanswer⟩ := hfree
    have hunheld := hs.unheld hrequest
    have hheld : s.compPort.restartHeld = false := by
      rw [Bool.eq_false_iff]
      intro h
      have hoccupied := hs.restart h
      rw [hanswer] at hoccupied
      cases hoccupied
    split
    · exact cellsExclusive_refuseByte hunheld _ _
    · have hport : (makeLive .companion s).compPort = s.compPort := hlive .compPort (by decide)
      exact cellsExclusive_runRequest _ (hunheld.of_frame hlive (by decide)) (by rw [hport, hanswer])
        (by rw [hport, hheld])

/-! ### Transfers, sweeps and the store -/

theorem CellsExclusive.endTransfer {s : State} (hs : CellsExclusive s) (consumed : Bool) :
    CellsExclusive (endTransfer consumed s) := by
  obtain ⟨hone, hwrite, hcheck, hrestart⟩ := hs
  cases consumed with
  | true =>
    refine ⟨fun _ => rfl, hwrite, hcheck, fun h => ?_⟩
    have h' : (s.compPort.restartHeld && !true) = true := h
    simp at h'
  | false =>
    refine ⟨hone, hwrite, hcheck, fun h => ?_⟩
    have h' : (s.compPort.restartHeld && !false) = true := h
    exact hrestart (by simpa using h')

theorem cellsExclusive_startUp (pins : Pins) (s : State) : CellsExclusive (startUp pins s) := by
  have hframe := startUp_frame pins s
  have hport : (startUp pins s).compPort = CompPort.reset pins.selLow := hframe .compPort (by decide)
  have hstore : (startUp pins s).store = ⟨flashAfterReset s.store, none⟩ := hframe .store (by decide)
  have hsense : (startUp pins s).sense = Sense.reset _ := hframe .sense (by decide)
  exact ⟨fun _ => by rw [hport]; rfl, by rw [hport, hstore]; simp [CompPort.reset],
    by rw [hport, hsense]; simp [CompPort.reset, Sense.reset], fun h => by rw [hport] at h; cases h⟩

theorem CellsExclusive.selRises {s : State} (hs : CellsExclusive s) (mosi : List Byte) (pins : Pins) :
    CellsExclusive (selRises mosi pins s) := by
  have hclocked : ∀ u, CellsExclusive u → CellsExclusive (takeClocked mosi u) := by
    intro u hu
    unfold takeClocked
    split
    · exact hu
    · split
      · exact hu
      · exact hu.takeRequest _ _
  unfold Machine.selRises
  dsimp only
  split
  · exact hs.endTransfer _
  · split
    · exact cellsExclusive_startUp pins _
    · exact hclocked _ (hs.endTransfer _)

/-- A CHECK_LEADS that waits is answered with the end of its wait (R125). -/
theorem CellsExclusive.answerLeads {s : State} (hs : CellsExclusive s) (taken : Nat) :
    CellsExclusive (answerLeads taken s) := by
  unfold Machine.answerLeads
  split
  next hwaiting =>
    refine cellsExclusive_answer ⟨?_, rfl⟩ _ _
    have hrequest : s.compPort.request = some .checkLeads := hs.check.mpr hwaiting
    have hwrite := hs.write
    rw [hrequest] at hwrite
    show s.store.storing = none
    simpa using hwrite
  · exact hs

theorem CellsExclusive.leadsComplete {s : State} (hs : CellsExclusive s) (codes : Vector LeadCodes 6) :
    CellsExclusive (leadsComplete codes s) := by
  have hsensed : CellsExclusive (s.setSense (checkedSense (sweepTaps s) s.sense codes)) := hs.setSense rfl
  have hraised := hsensed.of_frame (raiseLeadOpen_frame_only s.sense.openSet _) (by decide)
  exact (hraised.of_frame (openSetHanded_frame _) (by decide)).answerLeads _

/-- What a current sweep hands on leaves the sense record as the sweep left it. -/
theorem currentsComplete_frame_sensed (codes : CurrentCodes) (s : State) :
    SameExcept [.drive, .winch, .notices, .protection, .lamps]
      (s.setSense
        { s.sense with
          currents := some (readCurrents (sweepShunts s) codes)
          currentSweeps := s.sense.currentSweeps + 1
          currentSweep := none })
      (currentsComplete codes s) :=
  ((((sampleWheels_frame _ _).mono (by decide)).trans ((setWinch_frame_only _ _).mono (by decide))).trans
    ((packCurrentHanded_frame_only _ _).mono (by decide))).trans ((lampsIfRest_frame _ _).mono (by decide))

theorem CellsExclusive.currentsComplete {s : State} (hs : CellsExclusive s) (codes : CurrentCodes) :
    CellsExclusive (currentsComplete codes s) := by
  refine CellsExclusive.of_frame ?_ (currentsComplete_frame_sensed codes s) (by decide)
  exact hs.setSense rfl

theorem CellsExclusive.sweepStarts {s : State} (hs : CellsExclusive s) : CellsExclusive (sweepStarts s) :=
  hs.setSense rfl

theorem CellsExclusive.slotStarts {s : State} (hs : CellsExclusive s) : CellsExclusive (slotStarts s) := by
  unfold Machine.slotStarts
  split <;> exact hs.setSense rfl

theorem CellsExclusive.cellsComplete {s : State} (hs : CellsExclusive s) (codes : Vector Code 6) :
    CellsExclusive (cellsComplete codes s) := by
  refine CellsExclusive.of_frame ?_ (cellsHanded_frame _ _ _) (by decide)
  exact hs.setSense rfl

/-- The end of a store answers its write (R173). -/
theorem CellsExclusive.storeCompletes {s : State} (hs : CellsExclusive s) (matched : Bool) :
    CellsExclusive (storeCompletes matched s) := by
  unfold Machine.storeCompletes
  split
  · exact hs
  next k hk =>
    have hrequest : s.compPort.request = some .profileWrite := hs.write.mpr (by rw [hk]; rfl)
    have hwaiting : s.sense.waiting = false := by
      have hcheck := hs.check
      rw [hrequest] at hcheck
      simpa using hcheck
    have hunheld : Unheld (s.setStore ⟨setFlash s.store.flash k (storedCopy s k matched), none⟩) := ⟨rfl, hwaiting⟩
    exact cellsExclusive_answer (hunheld.of_frame (raise_frame _ _) (by decide)) _ _

/-! ### Every step -/

theorem CellsExclusive.exec {s : State} (hs : CellsExclusive s) (c : Instr) :
    ∃ t, Machine.exec c s = .next t ∧ CellsExclusive t := by
  have hkeep : ∀ {l : List Block} {u : State}, SameExcept l s u → (.compPort ∉ l ∧ .store ∉ l ∧ .sense ∉ l) →
      CellsExclusive u := fun h hl => hs.of_frame h hl
  cases c with
  | radioFrame f => exact ⟨_, rfl, hkeep (receiveFrame_frame f s) (by decide)⟩
  | interByteGap b => exact ⟨_, rfl, hkeep (byteGap_frame b s) (by decide)⟩
  | badLengthByte b => exact ⟨_, rfl, hkeep (lengthByte_frame b s) (by decide)⟩
  | replyDelayExpiry => exact ⟨_, rfl, hkeep (replyStarts_frame_only s) (by decide)⟩
  | replyEnd => exact ⟨_, rfl, hkeep (replyEnds_frame_only s) (by decide)⟩
  | silenceTimerExpiry m => exact ⟨_, rfl, hkeep (lapse_frame m s) (by decide)⟩
  | companionTransfer mosi pins => exact ⟨_, rfl, hs.selRises mosi pins⟩
  | selFall => exact ⟨_, rfl, hs.of_same rfl rfl rfl rfl rfl⟩
  | storeComplete matched => exact ⟨_, rfl, hs.storeCompletes matched⟩
  | powerOn pins => exact ⟨_, rfl, cellsExclusive_startUp pins _⟩
  | supplyDip pins => exact ⟨_, rfl, cellsExclusive_startUp pins _⟩
  | slotStale m f => exact ⟨_, rfl, hkeep (slotStale_frame m f s) (by decide)⟩
  | grantExpiry f => exact ⟨_, rfl, hkeep (endGrant_frame .expiry f s) (by decide)⟩
  | blendStep f => exact ⟨_, rfl, hkeep (blendStep_frame f s) (by decide)⟩
  | steeringUpdate => exact ⟨_, rfl, hkeep (steeringUpdate_frame s) (by decide)⟩
  | hallEdge w micros => exact ⟨_, rfl, hkeep (hallEdge_frame w micros s) (by decide)⟩
  | speedTimeout w => exact ⟨_, rfl, hkeep (setDrive_frame s _) (by decide)⟩
  | wheelUpdate w => exact ⟨_, rfl, hkeep (wheelUpdate_frame w s) (by decide)⟩
  | tripRetryExpiry w => exact ⟨_, rfl, hkeep (retryExpires_frame w s) (by decide)⟩
  | lockoutClearExpiry w => exact ⟨_, rfl, hkeep (lockoutClears_frame w s) (by decide)⟩
  | stillTimerExpiry => exact ⟨_, rfl, hkeep (stillExpires_frame s) (by decide)⟩
  | encoderEdge a b => exact ⟨_, rfl, hkeep (encoderEdge_frame a b s) (by decide)⟩
  | hookClosing => exact ⟨_, rfl, hkeep (hookCloses_frame s) (by decide)⟩
  | hookOpening => exact ⟨_, rfl, hkeep (setWinch_frame_only s _) (by decide)⟩
  | winchUpdate => exact ⟨_, rfl, hkeep (winchUpdate_frame s) (by decide)⟩
  | stallTimerExpiry => exact ⟨_, rfl, hkeep (stallExpires_frame s) (by decide)⟩
  | stallClearExpiry => exact ⟨_, rfl, hkeep (stallClears_frame s) (by decide)⟩
  | currentSweepStart => exact ⟨_, rfl, hs.sweepStarts⟩
  | currentSweepComplete codes => exact ⟨_, rfl, hs.currentsComplete codes⟩
  | cellSweepSlotStart => exact ⟨_, rfl, hs.slotStarts⟩
  | cellSweepComplete codes => exact ⟨_, rfl, hs.cellsComplete codes⟩
  | leadCheckComplete codes => exact ⟨_, rfl, hs.leadsComplete codes⟩
  | cutoffDwellExpiry => exact ⟨_, rfl, hkeep (dwellExpires_frame s) (by decide)⟩
  | recoveryDwellExpiry => exact ⟨_, rfl, hkeep (recoveryExpires_frame s) (by decide)⟩
  | apportionment => exact ⟨_, rfl, hkeep (apportion_frame_only s) (by decide)⟩
  | blinkToggle => exact ⟨_, rfl, hkeep (blinkExpires_frame s) (by decide)⟩
  | stepTimerExpiry => exact ⟨_, rfl, hkeep (stepExpires_frame s) (by decide)⟩
  | demand | grant | release | statusRead | telemetryRead | noticeTake | causeTake | flagsSet | profileWrite | profileRead
  | patternWrite | bankSwitch | winchZero | checkLeads | restart => exact ⟨_, rfl, hs.takeRequest _ _⟩

/-- Settles O13. -/
theorem linkCellsStayExclusive : Obligations.LinkCellsStayExclusive := by
  unfold Obligations.LinkCellsStayExclusive
  intro s t hs h
  have hexec : ∀ c u, CellsExclusive u → exec c u = .next t → CellsExclusive t := by
    intro c u hu hnext
    obtain ⟨v, hv, hcells⟩ := hu.exec c
    cases hnext.symm.trans hv
    exact hcells
  unfold step at h
  split at h
  next c rest _ => exact hexec c (s.setPending rest) (hs.of_same rfl rfl rfl rfl rfl) h
  · unfold idleStep at h
    split at h
    · exact hexec _ s hs h
    · cases h
      exact hs.of_same rfl rfl rfl rfl rfl

end Sys2Proof.Machine
end

section
/-! PROOFS. The bytes of the profile sections: fields read back, and every section that passed its checks loads back from its
stored bytes. -/
namespace Sys2Proof.Machine

/-! ### Fields -/

theorem u8_append_left {a : List Byte} (b : List Byte) {i : Nat} (h : i < a.length) : u8 (a ++ b) i = u8 a i := by
  unfold u8
  rw [List.getD_append _ _ _ _ h]

theorem u8_append_right {a : List Byte} (b : List Byte) {i : Nat} (h : a.length ≤ i) :
    u8 (a ++ b) i = u8 b (i - a.length) := by
  unfold u8
  rw [List.getD_append_right _ _ _ _ h]

theorem u8_drop (bs : List Byte) (i j : Nat) : u8 (bs.drop i) j = u8 bs (i + j) := by
  unfold u8
  rw [List.getD_eq_getElem?_getD, List.getD_eq_getElem?_getD, List.getElem?_drop]

theorem u16_drop (bs : List Byte) (i j : Nat) : u16 (bs.drop i) j = u16 bs (i + j) := by
  unfold u16
  rw [u8_drop, u8_drop, Nat.add_assoc]

theorem u8_past (w n : Nat) (b : List Byte) (i : Nat) : u8 (putU w n ++ b) (i + w) = u8 b i := by
  rw [u8_append_right b (by simp), length_putU, Nat.add_sub_cancel]

@[simp] theorem u8_past_one (n : Nat) (b : List Byte) (i : Nat) : u8 (putU 1 n ++ b) (i + 1) = u8 b i := u8_past 1 n b i

@[simp] theorem u8_past_two (n : Nat) (b : List Byte) (i : Nat) : u8 (putU 2 n ++ b) (i + 2) = u8 b i := u8_past 2 n b i

@[simp] theorem u16_past_one (n : Nat) (b : List Byte) (i : Nat) : u16 (putU 1 n ++ b) (i + 1) = u16 b i := by
  rw [u16, u8_past_one, Nat.add_right_comm, u8_past_one, u16]

@[simp] theorem u16_past_two (n : Nat) (b : List Byte) (i : Nat) : u16 (putU 2 n ++ b) (i + 2) = u16 b i := by
  rw [u16, u8_past_two, Nat.add_right_comm, u8_past_two, u16]

@[simp] theorem u8_past_flag (x : Bool) (b : List Byte) (i : Nat) : u8 (putFlag x ++ b) (i + 1) = u8 b i := rfl

@[simp] theorem u16_past_flag (x : Bool) (b : List Byte) (i : Nat) : u16 (putFlag x ++ b) (i + 1) = u16 b i := rfl

theorem putU_one {n : Nat} (h : n < 256) : putU 1 n = [BitVec.ofNat 8 n] := by
  rw [putU, if_pos (by simpa using h)]
  rfl

theorem putU_two {n : Nat} (h : n < 65536) : putU 2 n = [BitVec.ofNat 8 n, BitVec.ofNat 8 (n / 256)] := by
  rw [putU, if_pos (by simpa using h)]
  rfl

theorem u8_front {n : Nat} (h : n < 256) (b : List Byte) : u8 (putU 1 n ++ b) 0 = n := by
  rw [putU_one h]
  exact Nat.mod_eq_of_lt h

theorem u16_front {n : Nat} (h : n < 65536) (b : List Byte) : u16 (putU 2 n ++ b) 0 = n := by
  rw [putU_two h]
  show n % 256 + 256 * (n / 256 % 256) = n
  omega

theorem clampN_lt {lo hi m : Nat} (hlo : lo < m) (hhi : hi < m) (n : Nat) : clampN lo hi n < m := by
  unfold clampN
  omega

theorem clampN_clampN {lo hi : Nat} (h : lo ≤ hi) (n : Nat) : clampN lo hi (clampN lo hi n) = clampN lo hi n := by
  unfold clampN
  omega

/-- A clamped byte reads back. -/
theorem u8_clamped {lo hi : Nat} (hlo : lo < 256) (hhi : hi < 256) (n : Nat) (b : List Byte) :
    u8 (putU 1 (clampN lo hi n) ++ b) 0 = clampN lo hi n := u8_front (clampN_lt hlo hhi n) b

/-- A clamped 16-bit field reads back. -/
theorem u16_clamped {lo hi : Nat} (hlo : lo < 65536) (hhi : hi < 65536) (n : Nat) (b : List Byte) :
    u16 (putU 2 (clampN lo hi n) ++ b) 0 = clampN lo hi n := u16_front (clampN_lt hlo hhi n) b

@[simp] theorem u8_flag (x : Bool) (b : List Byte) : u8 (putFlag x ++ b) 0 = x.toNat := by cases x <;> rfl

@[simp] theorem u8_flag_last (x : Bool) : u8 (putFlag x) 0 = x.toNat := by cases x <;> rfl

@[simp] theorem toNat_beq_one (x : Bool) : (x.toNat == 1) = x := by cases x <;> rfl

@[simp] theorem toNat_le_one (x : Bool) : x.toNat ≤ 1 := by cases x <;> decide

theorem u8_lt (bs : List Byte) (i : Nat) : u8 bs i < 256 := (bs.getD i 0).isLt

theorem u16_lt (bs : List Byte) (i : Nat) : u16 bs i < 65536 := by
  have h0 := u8_lt bs i
  have h1 := u8_lt bs (i + 1)
  unfold u16
  omega

@[simp] theorem u8_byte (bs : List Byte) (i : Nat) (b : List Byte) : u8 (putU 1 (u8 bs i) ++ b) 0 = u8 bs i :=
  u8_front (u8_lt bs i) b

@[simp] theorem u8_byte_last (bs : List Byte) (i : Nat) : u8 (putU 1 (u8 bs i)) 0 = u8 bs i := by
  rw [← List.append_nil (putU 1 (u8 bs i)), u8_byte]

/-- A clamped byte at the end of a layout reads back. -/
theorem u8_clamped_last {lo hi : Nat} (hlo : lo < 256) (hhi : hi < 256) (n : Nat) :
    u8 (putU 1 (clampN lo hi n)) 0 = clampN lo hi n := by
  rw [← List.append_nil (putU 1 (clampN lo hi n)), u8_clamped hlo hhi]

/-- A clamped 16-bit field at the end of a layout reads back. -/
theorem u16_clamped_last {lo hi : Nat} (hlo : lo < 65536) (hhi : hi < 65536) (n : Nat) :
    u16 (putU 2 (clampN lo hi n)) 0 = clampN lo hi n := by
  rw [← List.append_nil (putU 2 (clampN lo hi n)), u16_clamped hlo hhi]

/-- A mask of at most eight bits reads back. -/
theorem u8_mask {w : Nat} (hw : w ≤ 8) (v : BitVec w) (b : List Byte) : u8 (putU 1 v.toNat ++ b) 0 = v.toNat :=
  u8_front (Nat.lt_of_lt_of_le v.isLt (Nat.pow_le_pow_right (by decide) hw)) b

/-- A mask of at most sixteen bits reads back. -/
theorem u16_mask {w : Nat} (hw : w ≤ 16) (v : BitVec w) (b : List Byte) : u16 (putU 2 v.toNat ++ b) 0 = v.toNat :=
  u16_front (Nat.lt_of_lt_of_le v.isLt (Nat.pow_le_pow_right (by decide) hw)) b

/-! ### Tables of entries -/

theorem length_flatMap_const {α : Type} {f : α → List Byte} {c : Nat} (hf : ∀ a, (f a).length = c) (l : List α) :
    (l.flatMap f).length = c * l.length := by
  induction l with
  | nil => rfl
  | cons a l ih => rw [List.flatMap_cons, List.length_append, hf, ih, List.length_cons, Nat.mul_succ, Nat.add_comm]

/-- In a table of entries of one length, an entry starts at its number times that length. -/
theorem drop_flatMap {α : Type} {f : α → List Byte} {c : Nat} (hf : ∀ a, (f a).length = c) (l : List α) {i : Nat}
    (hi : i < l.length) (rest : List Byte) :
    (l.flatMap f ++ rest).drop (c * i) = f l[i] ++ ((l.drop (i + 1)).flatMap f ++ rest) := by
  have hstart : ((l.take i).flatMap f).length = c * i := by
    rw [length_flatMap_const hf, List.length_take, Nat.min_eq_left (Nat.le_of_lt hi)]
  calc
    (l.flatMap f ++ rest).drop (c * i)
      = (((l.take i).flatMap f ++ (l.drop i).flatMap f) ++ rest).drop (c * i) := by
        rw [← List.flatMap_append, List.take_append_drop]
    _ = (l.drop i).flatMap f ++ rest := by rw [List.append_assoc, ← hstart, List.drop_left]
    _ = f l[i] ++ ((l.drop (i + 1)).flatMap f ++ rest) := by
        rw [List.drop_eq_getElem_cons hi, List.flatMap_cons, List.append_assoc]

/-- A mask at the end of a layout reads back. -/
theorem u16_mask_last {w : Nat} (hw : w ≤ 16) (v : BitVec w) : u16 (putU 2 v.toNat) 0 = v.toNat := by
  rw [← List.append_nil (putU 2 v.toNat), u16_mask hw]

theorem drop_vector_flatMap {α : Type} {n : Nat} {f : α → List Byte} {c : Nat} (hf : ∀ a, (f a).length = c)
    (v : Vector α n) (i : Fin n) (rest : List Byte) :
    ∃ tail, (v.toList.flatMap f ++ rest).drop (c * i.val) = f (v.get i) ++ tail :=
  ⟨_, drop_flatMap hf v.toList (by simp) rest⟩

theorem vector_get_ofFn {α : Type} {n : Nat} (g : Fin n → α) (i : Fin n) : (Vector.ofFn g).get i = g i := by
  simp [Vector.get_eq_getElem]

theorem ofFn_get {α : Type} {n : Nat} (v : Vector α n) : Vector.ofFn (fun i => v.get i) = v := by
  ext i hi
  simp [Vector.get_eq_getElem]

/-! ### One section each -/

theorem checkSources_bytes {bs : List Byte} {v : Sources} (h : checkSources bs = .ok v) :
    checkSources (bytesSources v) = .ok v := by
  unfold checkSources at h
  split at h
  case isTrue hok =>
    obtain ⟨h4, h7, h5, h8⟩ := hok
    cases h
    simp (disch := decide) [checkSources, bytesSources, u16_clamped, clampN_clampN, u8_mask, u16_mask, u16_mask_last,
      -BitVec.toNat_ofNat]
    exact ⟨BitVec.isLt _, BitVec.isLt _, BitVec.isLt _, BitVec.isLt _⟩
  case isFalse => cases h

theorem checkDrive_bytes {bs : List Byte} {v : DriveSection} (h : checkDrive bs = .ok v) :
    checkDrive (bytesDrive v) = .ok v := by
  unfold checkDrive at h
  simp only at h
  split at h
  case isTrue hok =>
    cases h
    simp (disch := decide) [checkDrive, bytesDrive, u8_clamped, u16_clamped, u16_clamped_last, clampN_clampN, -Nat.reduceLeDiff]
    exact hok
  case isFalse => cases h

theorem checkWinch_bytes {bs : List Byte} {v : WinchSection} (h : checkWinch bs = .ok v) :
    checkWinch (bytesWinch v) = .ok v := by
  unfold checkWinch at h
  split at h
  · cases h
    simp (disch := decide) [checkWinch, bytesWinch, u8_clamped, u16_clamped, clampN_clampN, -Nat.reduceLeDiff]
  · cases h

theorem checkReply_bytes {bs : List Byte} {v : ReplySection} (h : checkReply bs = .ok v) :
    checkReply (bytesReply v) = .ok v := by
  unfold checkReply at h
  split at h
  · cases h
    simp (disch := decide) [checkReply, bytesReply, u16_clamped, clampN_clampN]
  · cases h

theorem checkGeometry_bytes {bs : List Byte} {v : Geometry} (h : checkGeometry bs = .ok v) :
    checkGeometry (bytesGeometry v) = .ok v := by
  unfold checkGeometry at h
  simp only at h
  split at h
  case isTrue hok =>
    obtain ⟨hframe, hpivot, hfront, hrear, hfrontOk, hrearOk⟩ := hok
    cases h
    simp (disch := decide) [checkGeometry, bytesGeometry, bytesServo, readServo, u8_clamped, u16_clamped, clampN_clampN,
      -Nat.reduceLeDiff]
    exact ⟨hframe, hfrontOk, hrearOk⟩
  case isFalse => cases h

theorem targetOfCode_targetCode (g : Target) : targetOfCode (targetCode g) = some g := by
  cases g with
  | fn f => cases f <;> rfl
  | flag i => revert i; decide
  | bar => rfl
  | none => rfl

theorem targetCode_lt (g : Target) : targetCode g < 256 := by
  cases g with
  | fn f => cases f <;> decide
  | flag i => revert i; decide
  | bar => decide
  | none => decide

theorem mapEntryOk_iff (bs : List Byte) :
    mapEntryOk bs = true ↔ u8 bs 0 < 64 ∧ u8 bs 1 < 64 ∧ (targetOfCode (u8 bs 2)).isSome = true ∧ u8 bs 3 < 2 := by
  simp [mapEntryOk, and_assoc]

theorem mapEntry_bytes {bs : List Byte} (h : mapEntryOk bs = true) (b : List Byte) :
    mapEntryOk (bytesMapEntry (readMapEntry bs) ++ b) = true
      ∧ readMapEntry (bytesMapEntry (readMapEntry bs) ++ b) = readMapEntry bs := by
  obtain ⟨h0, h1, -, -⟩ := (mapEntryOk_iff bs).mp h
  rw [mapEntryOk_iff]
  simp (disch := decide) [readMapEntry, bytesMapEntry, u8_clamped, u16_clamped, clampN_clampN, u8_front (targetCode_lt _),
    targetOfCode_targetCode, h0, h1, -Nat.reduceLeDiff]

@[simp] theorem length_putFlag (x : Bool) : (putFlag x).length = 1 := rfl

theorem length_bytesMapEntry (e : MapEntry) : (bytesMapEntry e).length = 9 := by simp [bytesMapEntry]

theorem checkMap_bytes {bs : List Byte} {v : Vector MapEntry 12} (h : checkMap bs = .ok v) :
    checkMap (bytesMap v) = .ok v := by
  unfold checkMap at h
  split at h
  case isTrue hok =>
    cases h
    have hentry : ∀ i : Fin 12, mapEntryOk (bs.drop (9 * i.val)) = true :=
      fun i => List.all_eq_true.mp hok i.val (List.mem_range.mpr i.isLt)
    have hback : ∀ i : Fin 12, ∃ tail, (bytesMap (Vector.ofFn fun i => readMapEntry (bs.drop (9 * i.val)))).drop (9 * i.val)
        = bytesMapEntry (readMapEntry (bs.drop (9 * i.val))) ++ tail := by
      intro i
      obtain ⟨tail, htail⟩ := drop_vector_flatMap length_bytesMapEntry
        (Vector.ofFn fun i : Fin 12 => readMapEntry (bs.drop (9 * i.val))) i []
      refine ⟨tail, ?_⟩
      rw [List.append_nil, vector_get_ofFn] at htail
      exact htail
    unfold checkMap
    rw [if_pos (List.all_eq_true.mpr fun i hi => ?_)]
    · congr 1
      refine congrArg Vector.ofFn (funext fun i => ?_)
      obtain ⟨tail, htail⟩ := hback i
      rw [htail]
      exact (mapEntry_bytes (hentry i) tail).2
    · obtain ⟨tail, htail⟩ := hback ⟨i, List.mem_range.mp hi⟩
      rw [htail]
      exact (mapEntry_bytes (hentry ⟨i, List.mem_range.mp hi⟩) tail).1
  case isFalse => cases h

/-! AUTHORITY -/

theorem sourceFieldOfCode_code (m : Option Master) : sourceFieldOfCode (sourceFieldCode m) = some m := by
  cases m with
  | none => rfl
  | some m => cases m <;> rfl

theorem sourceFieldCode_lt (m : Option Master) : sourceFieldCode m < 256 := by
  cases m with
  | none => decide
  | some m => cases m <;> decide

theorem sourceFieldCode_getD {n : Nat} (h : (sourceFieldOfCode n).isSome = true) :
    sourceFieldCode ((sourceFieldOfCode n).getD none) = n := by
  unfold sourceFieldOfCode at h ⊢
  split
  next h0 => rw [h0]; rfl
  next =>
    split
    next h1 => rw [h1]; rfl
    next =>
      split
      next h2 => rw [h2]; rfl
      next h0 h1 h2 => simp [h0, h1, h2] at h

/-- The primary's code is the byte it was read from. -/
theorem masterCode_read {n : Nat} (h : n < 2) : masterCode (if n = 1 then .companion else .radio) = n := by
  obtain rfl | rfl : n = 0 ∨ n = 1 := by omega
  · rfl
  · rfl

theorem toNat_flag {n : Nat} (h : n < 2) : (n == 1).toNat = n := by
  obtain rfl | rfl : n = 0 ∨ n = 1 := by omega
  · rfl
  · rfl

theorem length_bytesAuthEntry (e : AuthEntry) : (bytesAuthEntry e).length = 14 := by simp [bytesAuthEntry]

/-- The bytes that decide an entry's checks read back, and so does the entry. -/
theorem authEntry_bytes {f : Fn} {bs : List Byte} (hmap : authEntryMapOk f bs = true) (hbytes : authEntryBytesOk bs = true)
    (b : List Byte) :
    authEntryMapOk f (bytesAuthEntry (readAuthEntry f bs) ++ b) = true
      ∧ authEntryBytesOk (bytesAuthEntry (readAuthEntry f bs) ++ b) = true
      ∧ readAuthEntry f (bytesAuthEntry (readAuthEntry f bs) ++ b) = readAuthEntry f bs := by
  simp only [authEntryMapOk, authEntryBytesOk, Bool.and_eq_true, decide_eq_true_eq] at hmap hbytes
  obtain ⟨⟨h5, h6⟩, h11⟩ := hbytes
  obtain ⟨⟨⟨⟨⟨⟨hp, hs⟩, hsp⟩, ht⟩, htp⟩, htrim⟩, htake⟩ := hmap
  have hrest : ((¬u8 bs 1 = u8 bs 0 ∧ ¬u8 bs 2 = u8 bs 0) ∧ (trimmable f = true ∨ u8 bs 2 = 255))
      ∧ (¬u8 bs 0 = 1 ∨ ¬u8 bs 5 = 1) :=
    ⟨⟨⟨by simpa using hsp, by simpa using htp⟩, by simpa using htrim⟩, by simpa [Decidable.imp_iff_not_or] using htake⟩
  cases hnum : isNumeric f <;>
    simpa (disch := decide) [authEntryMapOk, authEntryBytesOk, readAuthEntry, bytesAuthEntry, masterCode_read hp,
      sourceFieldCode_getD hs, sourceFieldCode_getD ht, toNat_flag h5, toNat_flag h6, toNat_flag h11, u16_clamped,
      clampN_clampN, hnum, hp, hs, ht, h5, h6, h11] using hrest

theorem drop_bytesAuthority (v : PerFn AuthEntry) (f : Fn) :
    ∃ tail, (bytesAuthority v).drop (14 * fnNumber f) = bytesAuthEntry (v.get f) ++ tail := by
  have hlen : ∀ g, (bytesAuthEntry (v.get g)).length = 14 := fun g => length_bytesAuthEntry _
  have hdrop := drop_flatMap hlen Fn.all (i := fnNumber f) (by cases f <;> decide) []
  rw [List.append_nil] at hdrop
  have hf : ∀ hlt, Fn.all[fnNumber f]'hlt = f := by cases f <;> exact fun _ => rfl
  rw [hf] at hdrop
  exact ⟨_, hdrop⟩

theorem checkAuthority_eq_ok {bs : List Byte} {v : PerFn AuthEntry} :
    checkAuthority bs = .ok v ↔ (∀ f, authEntryMapOk f (bs.drop (14 * fnNumber f)) = true)
      ∧ (∀ f, authEntryBytesOk (bs.drop (14 * fnNumber f)) = true)
      ∧ v = PerFn.of fun f => readAuthEntry f (bs.drop (14 * fnNumber f)) := by
  have hall : ∀ p : Fn → Bool, Fn.all.all p = true ↔ ∀ f, p f = true := fun p =>
    List.all_eq_true.trans ⟨fun h f => h f (by cases f <;> decide), fun h f _ => h f⟩
  unfold checkAuthority
  rw [← hall, ← hall]
  cases Fn.all.all fun f => authEntryMapOk f (bs.drop (14 * fnNumber f)) <;>
    cases Fn.all.all fun f => authEntryBytesOk (bs.drop (14 * fnNumber f)) <;> simp [eq_comm]

theorem checkAuthority_bytes {bs : List Byte} {v : PerFn AuthEntry} (h : checkAuthority bs = .ok v) :
    checkAuthority (bytesAuthority v) = .ok v := by
  obtain ⟨hmap, hbytes, rfl⟩ := checkAuthority_eq_ok.mp h
  have hback : ∀ f, ∃ tail, (bytesAuthority (PerFn.of fun f => readAuthEntry f (bs.drop (14 * fnNumber f)))).drop
      (14 * fnNumber f) = bytesAuthEntry (readAuthEntry f (bs.drop (14 * fnNumber f))) ++ tail := by
    intro f
    obtain ⟨tail, htail⟩ := drop_bytesAuthority (PerFn.of fun f => readAuthEntry f (bs.drop (14 * fnNumber f))) f
    rw [PerFn.get_of] at htail
    exact ⟨tail, htail⟩
  refine checkAuthority_eq_ok.mpr ⟨fun f => ?_, fun f => ?_, congrArg PerFn.of (funext fun f => ?_)⟩ <;>
    obtain ⟨tail, htail⟩ := hback f <;> rw [htail]
  · exact (authEntry_bytes (hmap f) (hbytes f) tail).1
  · exact (authEntry_bytes (hmap f) (hbytes f) tail).2.1
  · exact (authEntry_bytes (hmap f) (hbytes f) tail).2.2.symm

/-! FAILSAFE -/

@[simp] theorem length_putOptU (w : Nat) (x : Option Nat) : (putOptU w x).length = w := by
  cases x with
  | none => exact length_le w _
  | some n => exact length_putU w n

@[simp] theorem length_putOptI (w : Nat) (x : Option Int) : (putOptI w x).length = w := by
  cases x with
  | none => exact length_le w _
  | some z => exact length_putI w z

/-- The bytes of a field of `w` bytes stand before those that follow it. -/
theorem u8_past_field {a : List Byte} {w : Nat} (hw : a.length = w) (b : List Byte) (i : Nat) : u8 (a ++ b) (i + w) = u8 b i := by
  rw [u8_append_right b (by omega), hw, Nat.add_sub_cancel]

theorem u16_past_field {a : List Byte} {w : Nat} (hw : a.length = w) (b : List Byte) (i : Nat) :
    u16 (a ++ b) (i + w) = u16 b i := by
  rw [u16, u8_past_field hw, Nat.add_right_comm, u8_past_field hw, u16]

@[simp] theorem u8_past_optI (x : Option Int) (b : List Byte) (i : Nat) : u8 (putOptI 2 x ++ b) (i + 2) = u8 b i :=
  u8_past_field (length_putOptI 2 x) b i

@[simp] theorem i16_past_optI (x : Option Int) (b : List Byte) (i : Nat) : i16 (putOptI 2 x ++ b) (i + 2) = i16 b i := by
  rw [i16, u16_past_field (length_putOptI 2 x), i16]

@[simp] theorem u8_past_optU (x : Option Nat) (b : List Byte) (i : Nat) : u8 (putOptU 1 x ++ b) (i + 1) = u8 b i :=
  u8_past_field (length_putOptU 1 x) b i

@[simp] theorem i16_past_optU (x : Option Nat) (b : List Byte) (i : Nat) : i16 (putOptU 1 x ++ b) (i + 1) = i16 b i := by
  rw [i16, u16_past_field (length_putOptU 1 x), i16]

theorem i16_putI {z : Int} (hlo : -32768 ≤ z) (hhi : z < 32768) (b : List Byte) : i16 (putI 2 z ++ b) 0 = z := by
  have hn : (z % 65536).toNat < 65536 := by omega
  have hbytes : putI 2 z = putU 2 (z % 65536).toNat := by
    unfold putI putU
    rw [if_pos (by norm_num; omega), if_pos (by norm_num; omega)]
    norm_num
  unfold i16
  rw [hbytes, u16_front hn]
  split <;> omega

/-- A signed content in its range reads back, and an absent one as −32768. -/
theorem i16_optI {x : Option Int} (h : ∀ z, x = some z → -32768 ≤ z ∧ z < 32768) (b : List Byte) :
    i16 (putOptI 2 x ++ b) 0 = x.getD (-32768) := by
  cases x with
  | none =>
    have hbytes : putOptI 2 none = putU 2 32768 := by decide
    rw [i16, hbytes, u16_front (by decide)]
    rfl
  | some z => exact i16_putI (h z rfl).1 (h z rfl).2 b

theorem u8_optU {x : Option Nat} (h : ∀ n, x = some n → n < 256) (b : List Byte) :
    u8 (putOptU 1 x ++ b) 0 = x.getD 255 := by
  cases x with
  | none => rfl
  | some n => exact u8_front (h n rfl) b

/-- What a FAILSAFE field reads as. -/
theorem readContent_numeric {f : Fn} (hf : isNumeric f = true) (bs : List Byte) :
    readContent f bs = if i16 bs (contentAt f) = -32768 then none
      else some (clampI (fnLow f) (fnHigh f) (i16 bs (contentAt f))) := by
  simp [readContent, hf]

theorem readContent_discrete {f : Fn} (hf : isNumeric f = false) (bs : List Byte) :
    readContent f bs = if u8 bs (contentAt f) = 255 then none else some (u8 bs (contentAt f) : Int) := by
  simp [readContent, hf]

theorem i16_bytesFailsafe {v : PerFn (Option Int)} (hv : ∀ f z, v.get f = some z → -32768 ≤ z ∧ z < 32768) {f : Fn}
    (hf : isNumeric f = true) : i16 (bytesFailsafe v) (contentAt f) = (v.get f).getD (-32768) := by
  rw [← i16_optI (hv f) ((Fn.all.drop (fnNumber f + 1)).flatMap fun g => bytesContent g (v.get g))]
  cases f
  case steermode | range | scene => cases hf
  all_goals simp [bytesFailsafe, Fn.all, bytesContent, isNumeric, contentAt, fnNumber]

theorem u8_bytesFailsafe {v : PerFn (Option Int)} {f : Fn}
    (hv : ∀ z, v.get f = some z → z.toNat < 256) (hf : isNumeric f = false) : u8 (bytesFailsafe v) (contentAt f) = ((v.get f).map Int.toNat).getD 255 := by
  have hbyte : ∀ n, (v.get f).map Int.toNat = some n → n < 256 := by
    intro n hn
    obtain ⟨z, hz, rfl⟩ := Option.map_eq_some_iff.mp hn
    exact hv z hz
  rw [← u8_optU hbyte ((Fn.all.drop (fnNumber f + 1)).flatMap fun g => bytesContent g (v.get g))]
  cases f
  case drive | steer | winch | drag => cases hf
  all_goals simp [bytesFailsafe, Fn.all, bytesContent, isNumeric, contentAt, fnNumber]

theorem fnLow_discrete {f : Fn} (hf : isNumeric f = false) : fnLow f = 0 := by
  cases f
  case drive | steer | winch | drag => cases hf
  all_goals rfl

theorem inRange_word {f : Fn} {z : Int} (h : InRange f z) : -1000 ≤ z ∧ z ≤ 1000 := by
  obtain ⟨hlo, hhi⟩ := h
  cases f <;> simp only [fnLow, fnHigh] at hlo hhi <;> omega

theorem clampI_of_inRange {f : Fn} {z : Int} (h : InRange f z) : clampI (fnLow f) (fnHigh f) z = z := by
  obtain ⟨hlo, hhi⟩ := h
  unfold clampI
  omega

theorem discrete_byte {f : Fn} (hf : isNumeric f = false) {z : Int} (h : InRange f z) : (z.toNat : Int) = z ∧ z.toNat < 16 := by
  obtain ⟨hlo, hhi⟩ := h
  cases f
  case drive | steer | winch | drag => cases hf
  all_goals simp only [fnLow, fnHigh] at hlo hhi; omega

/-- FAILSAFE contents in range are those that their bytes read as. -/
theorem readContent_bytes {v : PerFn (Option Int)} (hv : ContentsInRange v) (f : Fn) :
    contentOk f (bytesFailsafe v) = true ∧ readContent f (bytesFailsafe v) = v.get f := by
  cases hf : isNumeric f with
  | true =>
    have hword := i16_bytesFailsafe (v := v)
      (fun g z hz => ⟨by have := (inRange_word (hv g z hz)).1; omega, by have := (inRange_word (hv g z hz)).2; omega⟩) hf
    refine ⟨by simp [contentOk, hf], ?_⟩
    rw [readContent_numeric hf, hword]
    cases hz : v.get f with
    | none => rfl
    | some z =>
      have hrange := hv f z hz
      have hword := inRange_word hrange
      rw [Option.getD_some, if_neg (by omega), clampI_of_inRange hrange]
  | false =>
    have hbyte : u8 (bytesFailsafe v) (contentAt f) = ((v.get f).map Int.toNat).getD 255 :=
      u8_bytesFailsafe (fun z hz => by have := (discrete_byte hf (hv f z hz)).2; omega) hf
    rw [contentOk, hf, readContent_discrete hf, hbyte]
    cases hz : v.get f with
    | none => exact ⟨rfl, rfl⟩
    | some z =>
      obtain ⟨hz0, hz16⟩ := discrete_byte hf (hv f z hz)
      have hhigh := (hv f z hz).2
      rw [Option.map_some, Option.getD_some, if_neg (by omega), hz0]
      exact ⟨by simp [hhigh], rfl⟩

theorem checkFailsafe_bytes {v : PerFn (Option Int)} (hv : ContentsInRange v) : checkFailsafe (bytesFailsafe v) = .ok v := by
  unfold checkFailsafe
  rw [if_pos (List.all_eq_true.mpr fun f _ => (readContent_bytes hv f).1)]
  refine congrArg Except.ok ?_
  calc
    PerFn.of (fun f => readContent f (bytesFailsafe v))
      = PerFn.of fun f => v.get f := congrArg PerFn.of (funext fun f => (readContent_bytes hv f).2)
    _ = v := rfl

/-! PACK -/

@[simp] theorem u8_past_taps (v : Vector Nat 6) (b : List Byte) (i : Nat) :
    u8 (v.toList.flatMap (putU 2) ++ b) (i + 12) = u8 b i :=
  u8_past_field (by rw [length_flatMap_const (length_putU 2)]; simp) b i

@[simp] theorem u16_past_taps (v : Vector Nat 6) (b : List Byte) (i : Nat) :
    u16 (v.toList.flatMap (putU 2) ++ b) (i + 12) = u16 b i :=
  u16_past_field (by rw [length_flatMap_const (length_putU 2)]; simp) b i

/-- A word of a table of words reads back. -/
theorem u16_table {n : Nat} {v : Vector Nat n} (hv : ∀ i : Fin n, v.get i < 65536) (i : Fin n) (b : List Byte) :
    u16 (v.toList.flatMap (putU 2) ++ b) (2 * i.val) = v.get i := by
  obtain ⟨tail, htail⟩ := drop_vector_flatMap (length_putU 2) v i b
  rw [← Nat.add_zero (2 * i.val), ← u16_drop, htail, u16_front (hv i)]

theorem u16_bytesPack_tap {v : Pack} (hv : ∀ i : Fin 6, v.tapFull.get i < 65536) (i : Fin 6) :
    u16 (bytesPack v) (4 + 2 * i.val) = v.tapFull.get i := by
  have hpos : 4 + 2 * i.val = 2 * i.val + 2 + 1 + 1 := by omega
  rw [hpos]
  unfold bytesPack
  simp only [List.append_assoc]
  rw [u16_past_one, u16_past_one, u16_past_two]
  exact u16_table hv i _

/-- PACK as stored, as one list of fields. -/
theorem bytesPack_fields (v : Pack) :
    bytesPack v = putU 1 v.cellCount ++ (putU 1 v.checkInterval ++ (putU 2 v.leadThreshold ++
      (v.tapFull.toList.flatMap (putU 2) ++ (putU 2 v.shuntPack.zero ++ (putU 2 v.shuntPack.full ++
      (putU 2 v.shuntWheel.fl.zero ++ (putU 2 v.shuntWheel.fl.full ++ (putU 2 v.shuntWheel.fr.zero ++
      (putU 2 v.shuntWheel.fr.full ++ (putU 2 v.shuntWheel.rl.zero ++ (putU 2 v.shuntWheel.rl.full ++
      (putU 2 v.shuntWheel.rr.zero ++ (putU 2 v.shuntWheel.rr.full ++ (putU 2 v.shuntWinch.zero ++
      (putU 2 v.shuntWinch.full ++ (putU 2 v.vcut ++ (putU 2 v.vshed ++ (putU 2 v.vcau ++ (putU 2 v.vrecover ++
      (putU 2 v.hysteresis ++ (putU 1 v.rcell ++ (putU 2 v.cutoffDwell ++ (putU 2 v.recoveryDwell ++
      (putU 2 v.recoveryCurrent ++ (putU 2 v.cutoffDrag ++ (putU 2 v.amax ++ (putU 2 v.servoReserve ++
      (putU 1 v.blindCap ++ (putU 2 v.driveFloor ++ (putU 2 v.winchFloor ++
      putU 2 v.lampFloor)))))))))))))))))))))))))))))) := by
  unfold bytesPack
  simp only [bytesShunt, PerWheel.list, List.flatMap_cons, List.flatMap_nil, List.append_nil, List.append_assoc]

theorem checkPack_bytes {bs : List Byte} {v : Pack} (h : checkPack bs = .ok v) : checkPack (bytesPack v) = .ok v := by
  unfold checkPack at h
  dsimp only at h
  split at h
  case isTrue => cases h
  split at h
  case isFalse => cases h
  next hcells hrise =>
    have hfull : ∀ i : Fin 6, v.tapFull.get i = clampN 1000 40000 (u16 bs (4 + 2 * i.val)) := by
      cases h
      exact fun i => vector_get_ofFn _ i
    have htap : ∀ i : Fin 6, u16 (bytesPack v) (4 + 2 * i.val) = clampN 1000 40000 (u16 bs (4 + 2 * i.val)) := fun i =>
      (u16_bytesPack_tap (fun j => by rw [hfull]; exact clampN_lt (by decide) (by decide) _) i).trans (hfull i)
    cases h
    unfold checkPack
    have hclamp : ∀ i : Fin 6, clampN 1000 40000 (clampN 1000 40000 (u16 bs (4 + 2 * i.val)))
        = clampN 1000 40000 (u16 bs (4 + 2 * i.val)) := fun i => clampN_clampN (by decide) _
    simp only [htap, hclamp]
    clear htap hclamp hfull
    generalize (Vector.ofFn fun i : Fin 6 => clampN 1000 40000 (u16 bs (4 + 2 * i.val))) = taps
    simp (disch := decide) [bytesPack_fields, readShunt, u8_clamped, u16_clamped, u16_clamped_last, clampN_clampN,
      -Nat.reduceLeDiff]
    rw [if_neg hcells, if_pos hrise]

/-! LAMPS, SCENES -/

theorem roleOfCode_roleCode (r : Role) : roleOfCode (roleCode r) = some r := by cases r <;> rfl

theorem roleCode_lt (r : Role) : roleCode r < 256 := by cases r <;> decide

/-- One lamp channel as stored: three bytes. -/
def bytesLampSetting (c : LampSetting) : List Byte := putU 1 (roleCode c.role) ++ putU 2 c.rated

theorem length_bytesLampSetting (c : LampSetting) : (bytesLampSetting c).length = 3 := by simp [bytesLampSetting]

theorem bytesLamps_eq (v : Lamps) :
    bytesLamps v = v.channels.toList.flatMap bytesLampSetting ++ (putU 2 v.halfPeriod ++ (putU 2 v.indicator ++
      putU 2 v.tailLevel)) := by
  unfold bytesLamps
  rw [List.append_assoc, List.append_assoc]
  rfl

@[simp] theorem u16_past_lampSettings (v : Vector LampSetting 8) (b : List Byte) (i : Nat) :
    u16 (v.toList.flatMap bytesLampSetting ++ b) (i + 24) = u16 b i :=
  u16_past_field (by rw [length_flatMap_const length_bytesLampSetting]; simp) b i

/-- A lamp channel's fields read back. -/
theorem lampSetting_bytes {v : Lamps} (i : Fin 8) (hrated : (v.channels.get i).rated < 65536) :
    u8 (bytesLamps v) (3 * i.val) = roleCode (v.channels.get i).role
      ∧ u16 (bytesLamps v) (3 * i.val + 1) = (v.channels.get i).rated := by
  obtain ⟨tail, htail⟩ := drop_vector_flatMap length_bytesLampSetting v.channels i
    (putU 2 v.halfPeriod ++ (putU 2 v.indicator ++ putU 2 v.tailLevel))
  rw [← Nat.add_zero (3 * i.val), ← u8_drop, Nat.add_zero, ← u16_drop, bytesLamps_eq, htail, bytesLampSetting, List.append_assoc]
  exact ⟨u8_front (roleCode_lt _) _, (u16_past_one _ _ 0).trans (u16_front hrated _)⟩

theorem checkLamps_bytes {bs : List Byte} {v : Lamps} (h : checkLamps bs = .ok v) : checkLamps (bytesLamps v) = .ok v := by
  unfold checkLamps at h
  split at h
  case isFalse => cases h
  have hrated : ∀ i : Fin 8, (v.channels.get i).rated = clampN 0 1000 (u16 bs (3 * i.val + 1)) := by
    cases h
    exact fun i => congrArg LampSetting.rated (vector_get_ofFn _ i)
  have hback : ∀ i : Fin 8, u8 (bytesLamps v) (3 * i.val) = roleCode (v.channels.get i).role
      ∧ u16 (bytesLamps v) (3 * i.val + 1) = (v.channels.get i).rated := fun i =>
    lampSetting_bytes i (by rw [hrated]; exact clampN_lt (by decide) (by decide) _)
  have hlast : u16 (bytesLamps v) 24 = v.halfPeriod ∧ u16 (bytesLamps v) 26 = v.indicator
      ∧ u16 (bytesLamps v) 28 = v.tailLevel := by
    cases h
    simp (disch := decide) [bytesLamps_eq, u16_clamped, u16_clamped_last]
  have hclamp : clampN 100 2000 v.halfPeriod = v.halfPeriod ∧ clampN 50 1000 v.indicator = v.indicator
      ∧ clampN 0 1000 v.tailLevel = v.tailLevel := by
    cases h
    simp (disch := decide) [clampN_clampN, -Nat.reduceLeDiff]
  obtain ⟨hhalf, hindicator, htail⟩ := hlast
  obtain ⟨hhalf', hindicator', htail'⟩ := hclamp
  unfold checkLamps
  rw [if_pos (List.all_eq_true.mpr fun i hi => ?_)]
  · rw [hhalf, hindicator, htail, hhalf', hindicator', htail']
    have hchannels : (Vector.ofFn fun i : Fin 8 =>
        ({ role := (roleOfCode (u8 (bytesLamps v) (3 * i.val))).getD .head,
           rated := clampN 0 1000 (u16 (bytesLamps v) (3 * i.val + 1)) } : LampSetting)) = v.channels := by
      rw [← ofFn_get v.channels]
      refine congrArg Vector.ofFn (funext fun i => ?_)
      rw [(hback i).1, (hback i).2, roleOfCode_roleCode, hrated, clampN_clampN (by decide), ← hrated]
      rfl
    rw [hchannels]
  · rw [(hback ⟨i, List.mem_range.mp hi⟩).1, roleOfCode_roleCode]
    rfl

theorem length_bytesScene (v : Scene) : (bytesScene v).length = 17 := by
  rw [bytesScene, List.length_append, length_flatMap_const (length_putU 2), length_putU]
  simp

theorem readScene_bytes (bs b : List Byte) : readScene (bytesScene (readScene bs) ++ b) = readScene bs := by
  have hlevel : ∀ i : Fin 8, (readScene bs).levels.get i = clampN 0 1000 (u16 bs (2 * i.val)) := fun i => vector_get_ofFn _ i
  have hword : ∀ i : Fin 8, u16 (bytesScene (readScene bs) ++ b) (2 * i.val) = clampN 0 1000 (u16 bs (2 * i.val)) := by
    intro i
    rw [bytesScene, List.append_assoc, u16_table (fun j => by rw [hlevel]; exact clampN_lt (by decide) (by decide) _), hlevel]
  have hmask : u8 (bytesScene (readScene bs) ++ b) 16 = (readScene bs).patterned.toNat := by
    have htable : ((readScene bs).levels.toList.flatMap (putU 2)).length = 16 := by
      rw [length_flatMap_const (length_putU 2)]
      simp
    rw [bytesScene, List.append_assoc, u8_past_field (i := 0) htable, u8_mask (by decide)]
  calc
    readScene (bytesScene (readScene bs) ++ b)
      = ⟨Vector.ofFn fun i => clampN 0 1000 (clampN 0 1000 (u16 bs (2 * i.val))),
          BitVec.ofNat 8 (readScene bs).patterned.toNat⟩ := by
        rw [← hmask]
        simp only [← hword]
        rfl
    _ = readScene bs := by
        simp only [clampN_clampN (Nat.zero_le 1000), BitVec.ofNat_toNat, BitVec.setWidth_eq]
        rfl

theorem readScenes_bytes (g : Fin 16 → List Byte) :
    readScenes (bytesScenes (Vector.ofFn fun i => readScene (g i))) = Vector.ofFn fun i => readScene (g i) := by
  refine congrArg Vector.ofFn (funext fun i => ?_)
  obtain ⟨tail, htail⟩ := drop_vector_flatMap length_bytesScene (Vector.ofFn fun i => readScene (g i)) i []
  rw [List.append_nil, vector_get_ofFn] at htail
  rw [bytesScenes, htail, readScene_bytes]

/-! ### Every section -/

theorem Except.map_eq_ok {ε α β : Type} {f : α → β} {x : Except ε α} {b : β} :
    x.map f = .ok b ↔ ∃ a, x = .ok a ∧ f a = b := by
  cases x <;> simp [Except.map]

theorem length_sectionBytes (p : Profile) (k : Sect) : (sectionBytes p k).length = sectLength k := by
  cases k <;> rw [sectionBytes]
  case sources => simp [bytesSources]; rfl
  case map => rw [bytesMap, length_flatMap_const length_bytesMapEntry]; simp; rfl
  case authority => rw [bytesAuthority, length_flatMap_const fun f => length_bytesAuthEntry _]; rfl
  case failsafe => simp [bytesFailsafe, Fn.all, bytesContent, isNumeric]; rfl
  case geometry => simp [bytesGeometry, bytesServo]; rfl
  case drive => simp [bytesDrive]; rfl
  case winch => simp [bytesWinch]; rfl
  case pack => rw [bytesPack_fields]; simp; rfl
  case lamps => rw [bytesLamps_eq]; simp [length_flatMap_const length_bytesLampSetting]; rfl
  case scenes => rw [bytesScenes, length_flatMap_const length_bytesScene]; simp; rfl
  case reply => simp [bytesReply]; rfl

theorem loadCopy_flashOf {k : Sect} {bytes : List Byte} (h : bytes.length = sectLength k) (p : Profile) :
    loadCopy k (flashOf bytes) p = loadBody k bytes p := if_pos ⟨rfl, h⟩

theorem loadBody_of_check {k : Sect} (hk : k ≠ .scenes) {bytes : List Byte} {d : SectionData}
    (h : checkBody k bytes = .ok d) (p : Profile) : loadBody k bytes p = some (p.write d) := by
  unfold loadBody
  rw [if_neg hk, h]

/-- A section that passed its checks passes them again from its stored bytes, with the same contents. -/
theorem checkBody_bytes {k : Sect} (hk : k ≠ .scenes) {body : List Byte} {d : SectionData} (h : checkBody k body = .ok d)
    (p : Profile) : checkBody k (sectionBytes (p.write d) k) = .ok d := by
  have hmap : ∀ {α : Type} {c : List Byte → Except Cause α} {g : α → SectionData}, (c body).map g = .ok d →
      (∀ v, c body = .ok v → ∃ bytes, sectionBytes (p.write (g v)) k = bytes ∧ c bytes = .ok v) →
      (c (sectionBytes (p.write d) k)).map g = .ok d := by
    intro α c g hc hback
    obtain ⟨v, hv, rfl⟩ := Except.map_eq_ok.mp hc
    obtain ⟨bytes, hbytes, hcheck⟩ := hback v hv
    rw [hbytes, hcheck]
    rfl
  cases k with
  | scenes => exact absurd rfl hk
  | sources => exact hmap (c := checkSources) (g := .sources) h fun v hv => ⟨_, rfl, checkSources_bytes hv⟩
  | map => exact hmap (c := checkMap) (g := .map) h fun v hv => ⟨_, rfl, checkMap_bytes hv⟩
  | authority => exact hmap (c := checkAuthority) (g := .authority) h fun v hv => ⟨_, rfl, checkAuthority_bytes hv⟩
  | failsafe => exact hmap (c := checkFailsafe) (g := .failsafe) h fun v hv => ⟨_, rfl, checkFailsafe_bytes (contentsInRange_of_check hv)⟩
  | geometry => exact hmap (c := checkGeometry) (g := .geometry) h fun v hv => ⟨_, rfl, checkGeometry_bytes hv⟩
  | drive => exact hmap (c := checkDrive) (g := .drive) h fun v hv => ⟨_, rfl, checkDrive_bytes hv⟩
  | winch => exact hmap (c := checkWinch) (g := .winch) h fun v hv => ⟨_, rfl, checkWinch_bytes hv⟩
  | pack => exact hmap (c := checkPack) (g := .pack) h fun v hv => ⟨_, rfl, checkPack_bytes hv⟩
  | lamps => exact hmap (c := checkLamps) (g := .lamps) h fun v hv => ⟨_, rfl, checkLamps_bytes hv⟩
  | reply => exact hmap (c := checkReply) (g := .reply) h fun v hv => ⟨_, rfl, checkReply_bytes hv⟩

/-- Settles O14. -/
theorem storedSectionsLoadBack : Obligations.StoredSectionsLoadBack := by
  refine ⟨fun k body d p q hk hcheck => ?_, fun g q => ?_⟩
  · rw [loadCopy_flashOf (length_sectionBytes _ k), loadBody_of_check hk (checkBody_bytes hk hcheck p)]
  · have hlength : (bytesScenes (Vector.ofFn fun i => readScene (g i))).length = sectLength .scenes :=
      length_sectionBytes { q with scenes := Vector.ofFn fun i => readScene (g i) } .scenes
    simp only
    rw [loadCopy_flashOf hlength, loadBody, if_pos rfl, readScenes_bytes]

end Sys2Proof.Machine
end

section
/-! PROOFS. The step, the reset state, and what no command but a write, a transfer or a reset reaches. -/
namespace Sys2Proof.Machine

/-- Settles O1. -/
theorem frontCommandIsTaken : Obligations.FrontCommandIsTaken := fun _ _ _ => rfl

/-! ### The passing of time -/

theorem step_of_empty {s : State} (h : s.pending = []) : step s = idleStep s := by
  unfold step
  rw [h]

theorem slotOf_tick (s : State) (m : Master) (f : Fn) : slotOf (tick s) m f = tickSlot (slotOf s m f) := by
  cases m <;> exact PerFn.get_of _ f

theorem grantOf_tick (s : State) (f : Fn) : grantOf (tick s) f = tickGrant (grantOf s f) := PerFn.get_of _ f

theorem tickSlot_eq (x : Slot) :
    tickSlot x = { x with age := if x.state = .empty then x.age else min 65535 (x.age + 1) } := by
  unfold tickSlot
  split <;> rfl

theorem allStill_iff (s : State) : allStill s = true ↔ ∀ w, (chan s w).speed = 0 := by
  unfold allStill
  rw [List.all_eq_true]
  simp only [beq_iff_eq]
  exact PerWheel.forall_mem_list

theorem allStill_eq_false_iff (s : State) : allStill s = false ↔ ∃ w, (chan s w).speed ≠ 0 := by
  rw [Bool.eq_false_iff, ne_eq, allStill_iff, not_forall]

theorem tick_still (s : State) :
    (tick s).drive.still = if allStill s then min Config.stillTime (s.drive.still + 1) else 0 := rfl

theorem tick_same {s : State} {b : Block} (hb : b ∈ [Block.compPort, .notices, .profile, .store, .retained, .queue]) :
    b.Same s (tick s) := by
  simp only [List.mem_cons, List.not_mem_nil, or_false] at hb
  obtain rfl | rfl | rfl | rfl | rfl | rfl := hb <;> rfl

/-- Settles O2. -/
theorem idleStepPassesTime : Obligations.IdleStepPassesTime := by
  intro s hs
  rw [step_of_empty hs]
  unfold idleStep
  refine ⟨fun c hc => by rw [hc], fun hnone => ?_⟩
  rw [hnone]
  refine ⟨_, rfl, rfl, rfl, rfl, fun m f => ?slots, fun f => grantOf_tick s f, fun f => effOf_tick s f, rfl, rfl,
    fun w => chan_tick s w, fun hstill => ?still, fun hmoving => ?moving, rfl, rfl, rfl, rfl, rfl, rfl, rfl, ?reply,
    fun b hb => tick_same hb⟩
  case slots => rw [slotOf_tick, tickSlot_eq]
  case still => rw [tick_still, if_pos ((allStill_iff s).mpr hstill)]; rfl
  case moving => rw [tick_still, (allStill_eq_false_iff s).mpr hmoving]; rfl
  case reply => cases hreply : s.radioPort.reply <;> simp [tick, tickReply, hreply]

/-! ### The reset state -/

/-- Every section's defaults, stored, load back. -/
theorem loadCopy_default (k : Sect) :
    loadCopy k (flashOf (sectionBytes defaultProfile k)) defaultProfile = some defaultProfile := by
  rw [loadCopy_flashOf (length_sectionBytes _ k)]
  cases k
  case scenes => rfl
  case sources => exact loadBody_of_check (d := .sources defaultSources) (by decide) rfl _
  case map => exact loadBody_of_check (d := .map defaultMap) (by decide) rfl _
  case authority => exact loadBody_of_check (d := .authority defaultAuthority) (by decide) rfl _
  case failsafe => exact loadBody_of_check (d := .failsafe defaultFailsafe) (by decide) rfl _
  case geometry => exact loadBody_of_check (d := .geometry defaultGeometry) (by decide) rfl _
  case drive => exact loadBody_of_check (d := .drive defaultDrive) (by decide) rfl _
  case winch => exact loadBody_of_check (d := .winch defaultWinch) (by decide) rfl _
  case pack => exact loadBody_of_check (d := .pack defaultPack) (by decide) rfl _
  case lamps => exact loadBody_of_check (d := .lamps defaultLamps) (by decide) rfl _
  case reply => exact loadBody_of_check (d := .reply defaultReply) (by decide) rfl _

theorem flashOfProfile_get (p : Profile) (k : Sect) :
    (flashOfProfile p).get (sectNumber k) = flashOf (sectionBytes p k) := by cases k <;> rfl

theorem loadAll_default : loadAll (flashOfProfile defaultProfile) = ⟨defaultProfile, false⟩ := by
  have hload : ∀ k, loadSection (flashOfProfile defaultProfile) ⟨defaultProfile, false⟩ k = ⟨defaultProfile, false⟩ := by
    intro k
    unfold loadSection
    rw [flashOfProfile_get, loadCopy_default]
  exact foldl_keeps (g := loadSection (flashOfProfile defaultProfile)) (P := fun l => l = ⟨defaultProfile, false⟩) (fun l k hl => by rw [hl]; exact hload k) allSects _ rfl

/-- The reset state is a POWER-ON's, from flash copies that hold the defaults and with the pins at rest. -/
theorem powerOn_reset : powerOn Pins.rest State.reset = State.reset := by
  have hload : loadAll (flashAfterReset State.reset.store) = ⟨defaultProfile, false⟩ := loadAll_default
  unfold powerOn startUp
  simp only [State.setRetained_store, hload]
  rfl

theorem reset_is_startUp :
    State.reset = startUp Pins.rest (State.reset.setRetained { State.reset.retained with checkOk := false }) :=
  powerOn_reset.symm

/-- Settles O3: the reset state is a start-up, and a start-up meets each invariant. -/
theorem resetKeepsEveryInvariant : Obligations.ResetKeepsEveryInvariant := by
  refine ⟨by rw [exec_powerOn, powerOn_reset], ?_⟩
  rw [reset_is_startUp]
  exact ⟨(cutoffSafe_iff _).mpr ⟨stopping_startUp _ _, lockSafe_startUp _ _⟩, ranged_startUp _ _,
    allowanceBounded_startUp _ _, modeFollows_startUp _ _, endStopsHeld_startUp _ _, wheelsBounded_startUp _ _,
    grantsStand_startUp _ _, cellsExclusive_startUp _ _⟩

/-! ### Every command -/

/-- Settles O4: a reset leaves the queue, and no other command's frame reaches it. -/
theorem everyCommandAnswersNext : Obligations.EveryCommandAnswersNext := by
  intro c s
  by_cases happortion : c = .apportionment
  · exact ⟨_, happortion ▸ exec_apportionment s, apportion_frame_only s .queue (by decide)⟩
  by_cases hreset : ∃ pins, TakesReset c pins s
  · obtain ⟨pins, rfl | rfl | ⟨mosi, rfl, hheld, hpassed, hconsumes⟩⟩ := hreset
    · exact ⟨_, exec_powerOn pins s, powerOn_pending pins s⟩
    · exact ⟨_, exec_supplyDip pins s, startUp_pending pins s⟩
    · refine ⟨_, exec_companionTransfer mosi pins s, ?_⟩
      rw [selRises_of_restart pins hheld hpassed hconsumes, takeRestart_pending]
  · obtain ⟨t, hexec, hframe⟩ := exec_frame_plain c s happortion fun pins h => hreset ⟨pins, h⟩
    exact ⟨t, hexec, hframe .queue (by decide)⟩

/-- Every record but the live sections and the store. -/
def allButStore : List Block := .queue :: .clock :: .retained :: .budget :: .sense :: .compPort :: radioTouches

/-- A command that is no write, no transfer, no completion of a store and no reset leaves the sections and the store. -/
theorem exec_frame_allButStore (c : Instr) (s : State) (hwrite : ∀ k body, c ≠ .profileWrite k body)
    (htransfer : ∀ mosi pins, c ≠ .companionTransfer mosi pins) (hpower : ∀ pins, c ≠ .powerOn pins)
    (hdip : ∀ pins, c ≠ .supplyDip pins) (hstore : ∀ b, c ≠ .storeComplete b) :
    ∃ t, exec c s = .next t ∧ SameExcept allButStore s t := by
  cases c with
  | radioFrame f => exact ⟨_, rfl, (receiveFrame_frame f s).mono (by decide)⟩
  | interByteGap b => exact ⟨_, rfl, (byteGap_frame b s).mono (by decide)⟩
  | badLengthByte b => exact ⟨_, rfl, (lengthByte_frame b s).mono (by decide)⟩
  | replyDelayExpiry => exact ⟨_, rfl, (replyStarts_frame s).mono (by decide)⟩
  | replyEnd => exact ⟨_, rfl, (replyEnds_frame s).mono (by decide)⟩
  | silenceTimerExpiry m => exact ⟨_, rfl, (lapse_frame m s).mono (by decide)⟩
  | companionTransfer mosi pins => exact (htransfer mosi pins rfl).elim
  | selFall => exact ⟨_, rfl, (setCompPort_frame_only s _).mono (by decide)⟩
  | profileWrite k body => exact (hwrite k body rfl).elim
  | demand | grant | release | statusRead | telemetryRead | noticeTake | causeTake | flagsSet | profileRead
  | patternWrite | bankSwitch | winchZero | checkLeads | restart =>
    exact ⟨_, rfl, (takeNamed_frame_plain _ rfl s).mono (by decide)⟩
  | storeComplete matched => exact (hstore matched rfl).elim
  | powerOn pins => exact (hpower pins rfl).elim
  | supplyDip pins => exact (hdip pins rfl).elim
  | slotStale m f => exact ⟨_, rfl, (slotStale_frame m f s).mono (by decide)⟩
  | grantExpiry f => exact ⟨_, rfl, (endGrant_frame .expiry f s).mono (by decide)⟩
  | blendStep f => exact ⟨_, rfl, (blendStep_frame f s).mono (by decide)⟩
  | steeringUpdate => exact ⟨_, rfl, (steeringUpdate_frame s).mono (by decide)⟩
  | hallEdge w micros => exact ⟨_, rfl, (hallEdge_frame w micros s).mono (by decide)⟩
  | speedTimeout w => exact ⟨_, rfl, (setDrive_frame s _).mono (by decide)⟩
  | wheelUpdate w => exact ⟨_, rfl, (wheelUpdate_frame w s).mono (by decide)⟩
  | tripRetryExpiry w => exact ⟨_, rfl, (retryExpires_frame w s).mono (by decide)⟩
  | lockoutClearExpiry w => exact ⟨_, rfl, (lockoutClears_frame w s).mono (by decide)⟩
  | stillTimerExpiry => exact ⟨_, rfl, (stillExpires_frame s).mono (by decide)⟩
  | encoderEdge a b => exact ⟨_, rfl, (encoderEdge_frame a b s).mono (by decide)⟩
  | hookClosing => exact ⟨_, rfl, (hookCloses_frame s).mono (by decide)⟩
  | hookOpening => exact ⟨_, rfl, (setWinch_frame_only s _).mono (by decide)⟩
  | winchUpdate => exact ⟨_, rfl, (winchUpdate_frame s).mono (by decide)⟩
  | stallTimerExpiry => exact ⟨_, rfl, (stallExpires_frame s).mono (by decide)⟩
  | stallClearExpiry => exact ⟨_, rfl, (stallClears_frame s).mono (by decide)⟩
  | currentSweepStart => exact ⟨_, rfl, (setSense_frame s _).mono (by decide)⟩
  | currentSweepComplete codes => exact ⟨_, rfl, (currentsComplete_frame codes s).mono (by decide)⟩
  | cellSweepSlotStart => exact ⟨_, rfl, (slotStarts_frame s).mono (by decide)⟩
  | cellSweepComplete codes => exact ⟨_, rfl, (cellsComplete_frame codes s).mono (by decide)⟩
  | leadCheckComplete codes => exact ⟨_, rfl, (leadsComplete_frame codes s).mono (by decide)⟩
  | cutoffDwellExpiry => exact ⟨_, rfl, (dwellExpires_frame s).mono (by decide)⟩
  | recoveryDwellExpiry => exact ⟨_, rfl, (recoveryExpires_frame s).mono (by decide)⟩
  | apportionment => exact ⟨_, rfl, (apportion_frame_only s).mono (by decide)⟩
  | blinkToggle => exact ⟨_, rfl, (blinkExpires_frame s).mono (by decide)⟩
  | stepTimerExpiry => exact ⟨_, rfl, (stepExpires_frame s).mono (by decide)⟩

theorem storeCompletes_frame_only (matched : Bool) (s : State) :
    SameExcept [.store, .notices, .comp, .compPort] s (storeCompletes matched s) := by
  unfold storeCompletes
  dsimp only
  split
  · exact .refl _ s
  next k _ =>
    exact (((setStore_frame_only s _).mono (by decide)).trans ((raise_frame _ _).mono (by decide))).trans ((answer_frame _ _ _).mono (by decide))

/-- Settles O5. -/
theorem onlyWritesAndResetsChangeTheProfile : Obligations.OnlyWritesAndResetsChangeTheProfile := by
  intro c s t hexec hwrite htransfer hpower hdip
  by_cases hstore : ∃ b, c = .storeComplete b
  · obtain ⟨b, rfl⟩ := hstore
    have hnext : exec (.storeComplete b) s = .next (storeCompletes b s) := rfl
    cases hnext.symm.trans hexec
    exact ⟨storeCompletes_frame_only b s .profile (by decide), fun hno => (hno b rfl).elim⟩
  · have hno : ∀ b, c ≠ .storeComplete b := fun b hb => hstore ⟨b, hb⟩
    obtain ⟨u, hnext, hframe⟩ := exec_frame_allButStore c s hwrite htransfer hpower hdip hno
    cases hnext.symm.trans hexec
    exact ⟨hframe .profile (by decide), fun _ => hframe .store (by decide)⟩

end Sys2Proof.Machine
end

section
/-! PROOFS. Notices raised, and the requests of a companion that is LIVE: taken, answered and refused. -/
namespace Sys2Proof.Machine

/-! ### Notices -/

theorem getLsbD_addMember {n : Nat} (v : BitVec n) {i : Nat} (hi : i < n) : (addMember v i).getLsbD i = true := by
  simp [addMember, hi]

theorem noticeNumber_lt (k : Notice) : noticeNumber k < 16 := by cases k <;> decide

theorem raiseIn_of_mask {set mask : BitVec 16} {k : Notice} (h : mask.getLsbD (noticeNumber k) = true) :
    (raiseIn set mask k).getLsbD (noticeNumber k) = true := by
  rw [raiseIn, if_pos h]
  exact getLsbD_addMember set (noticeNumber_lt k)

theorem raised_raise (k : Notice) (s : State) : Raised k s (raise k s) := ⟨raiseIn_of_mask, raiseIn_of_mask⟩

theorem Raised.of_notices {k : Notice} {s t u : State} (h : Raised k s t) (hn : u.notices = t.notices) : Raised k s u := by
  unfold Raised
  rw [hn]
  exact h

theorem Raised.of_profile {k : Notice} {s t u : State} (h : Raised k s t) (hp : s.profile = u.profile) : Raised k u t := by
  unfold Raised
  rw [← hp]
  exact h

/-! ### Requests of a LIVE companion -/

/-- A LIVE companion whose request is heard: its silence timer is loaded. -/
def heard (s : State) : State := s.setComp { s.comp with timer := s.profile.sources.compSilence }

theorem heard_frame (s : State) : SameExcept [.comp] s (heard s) := setComp_frame_only s _

theorem makeLive_of_live {s : State} (h : s.comp.state = .live) : makeLive .companion s = heard s := by
  have hctx : ctxState s .companion = .live := h
  rw [makeLive, if_pos hctx, loadTimer, heard, ← h]

theorem exec_command (q : Request) (s : State) : exec q.command s = .next (takeNamed q s) := by cases q <;> rfl

theorem cellsBusy_eq_false {s : State} (h : CellsFree s) : cellsBusy s = false := by
  rw [cellsBusy, h.request, h.answer]
  rfl

/-- A well-formed request that finds both cells empty is run, its sender heard (R165). -/
theorem takeNamed_of_ready {s : State} (hready : RequestReady s) {q : Request} (hsized : q.sized = true) :
    takeNamed q s = runRequest q (heard s) := by
  have hbusy : ¬cellsBusy s = true := by rw [cellsBusy_eq_false hready.toCellsFree]; decide
  unfold takeNamed takeRequest sizedRequest
  rw [if_neg hbusy, if_pos hsized, ← makeLive_of_live hready.live]

theorem exec_of_ready {s : State} (hready : RequestReady s) {q : Request} (hsized : q.sized = true) :
    exec q.command s = .next (runRequest q (heard s)) := by
  rw [exec_command, takeNamed_of_ready hready hsized]

theorem answered_answer (k : Kind) (payload : List Byte) {s u : State} (h : u.comp.accepted = s.comp.accepted) :
    Answered k payload s (answer k payload u) := ⟨rfl, rfl, congrArg (· + 1) h⟩

/-- What a refusal of the request leaves (R8, R16, R165). -/
theorem refuses_of_exec {c : Instr} {cause : Cause} {kind : Byte} {s u : State} (hexec : exec c s = .next (refuseByte cause kind u))
    (hrefused : u.comp.refused = s.comp.refused) (haccepted : u.comp.accepted = s.comp.accepted)
    (hcauses : u.comp.causes = s.comp.causes) (hframe : SameExcept [.comp, .compPort] s u) : Refuses c cause kind s :=
  ⟨_, hexec, rfl, rfl, congrArg (· + 1) hrefused, haccepted, congrArg (addMember · (causeCode cause)) hcauses,
    hframe.trans (refuseByte_frame cause kind u)⟩

/-- A request that its own checks refuse is refused with their cause. -/
theorem refuses_of_ready {s : State} (hready : RequestReady s) {q : Request} (hsized : q.sized = true) {cause : Cause} {k : Kind}
    (hrun : runRequest q (heard s) = refuse cause k (heard s)) : Refuses q.command cause (kindCode k) s :=
  refuses_of_exec (u := heard s) ((exec_of_ready hready hsized).trans (congrArg Host.Outcome.next hrun)) rfl rfl rfl
    ((heard_frame s).mono (by decide))

/-! ### At the door -/

/-- A live-making event is the loading of the timer, and whatever the resolver makes of the return (R3, R7). -/
theorem makeLive_companion_comp (s : State) :
    (makeLive .companion s).comp = { s.comp with state := .live, timer := s.profile.sources.compSilence } := by
  unfold makeLive
  split
  · rfl
  · have hclear : SameExcept resolveTouches (loadTimer .companion s) (clearMarks .companion (loadTimer .companion s)) :=
      (clearMarks_frame _ _).mono (by decide)
    have hreturn : SameExcept resolveTouches (loadTimer .companion s) (masterReturns .companion s) := by
      show SameExcept resolveTouches (loadTimer .companion s) (if present (clearMarks .companion (loadTimer .companion s)) .companion
        then _ else _)
      split
      · exact hclear.trans (presenceChanged_frame _ _ _)
      · exact hclear.trans (resolveMarks_frame _ _)
    exact hreturn .comp (by decide)

theorem takeNamed_of_busy {s : State} (h : s.compPort.request.isSome = true ∨ s.compPort.answer.isSome = true) (q : Request) :
    takeNamed q s = countRefused .busy (if q.sized = true then makeLive .companion s else s) := by
  have hbusy : cellsBusy s = true := by simpa [cellsBusy] using h
  unfold takeNamed takeRequest sizedRequest refuseBusy
  rw [if_pos hbusy]
  cases q.sized <;> rfl

theorem takeNamed_of_unsized {s : State} (hfree : CellsFree s) {q : Request} (h : q.sized = false) :
    takeNamed q s = refuseByte .format (kindCode q.kind) s := by
  have hbusy : ¬cellsBusy s = true := by rw [cellsBusy_eq_false hfree]; decide
  unfold takeNamed takeRequest sizedRequest
  rw [if_neg hbusy, if_neg (by rw [h]; decide)]

/-- Settles O53. -/
theorem requestsRefusedAtTheDoor : Obligations.RequestsRefusedAtTheDoor := by
  refine ⟨fun q s => ⟨fun hbusy => ?busy, fun hfree hsized => ?format⟩, fun s pairs hready hbarred hsome hfew => ?barred⟩
  case busy =>
    refine ⟨_, by rw [exec_command, takeNamed_of_busy hbusy], ?_⟩
    cases hsized : q.sized with
    | true =>
      have hcomp := makeLive_companion_comp s
      have hport : (makeLive .companion s).compPort = s.compPort := makeLive_frame .companion s .compPort (by decide)
      rw [if_pos rfl]
      refine ⟨hport, ?_, ?_, ?_, fun _ => ⟨?_, ?_⟩, fun h => (by cases h), fun h => ?_⟩
      · exact (congrArg (·.refused + 1) hcomp).trans rfl
      · exact (congrArg CompCtx.accepted hcomp).trans rfl
      · exact (congrArg (addMember ·.causes 5) hcomp).trans rfl
      · exact (congrArg CompCtx.state hcomp).trans rfl
      · exact (congrArg CompCtx.timer hcomp).trans rfl
      · rw [makeLive_of_live (h.resolve_left (by decide))]
        exact (heard_frame s).trans ((setComp_frame_only _ _).trans (setComp_frame_only _ _))
    | false =>
      rw [if_neg (by decide)]
      exact ⟨rfl, rfl, rfl, rfl, fun h => (by cases h), fun _ => ⟨rfl, rfl⟩,
        fun _ => (setComp_frame_only _ _).trans (setComp_frame_only _ _)⟩
  case format =>
    exact refuses_of_exec (by rw [exec_command, takeNamed_of_unsized hfree hsized]) rfl rfl rfl (.refl _ s)
  case barred =>
    have hsized : (Request.demand pairs).sized = true := by simp [Request.sized, pairsFit, hsome, hfew]
    exact refuses_of_ready hready hsized (if_pos hbarred)

/-! ### Transfers -/

theorem exec_selFall (s : State) : exec .selFall s = .next (selFalls s) := rfl

theorem getLsbD_or (x y : Byte) (i : Nat) : (x ||| y).getLsbD i = (x.getLsbD i || y.getLsbD i) := BitVec.getLsbD_or

/-- Each bit of the status byte is its flag (section 10.6). -/
theorem statusByte_bits (s : State) :
    (statusByte s).getLsbD 0 = ansReady s ∧ (statusByte s).getLsbD 1 = cmdPending s
      ∧ (statusByte s).getLsbD 2 = noticeWaiting s ∧ (statusByte s).getLsbD 3 = s.comp.barred
      ∧ (statusByte s).getLsbD 4 = present s .radio ∧ (statusByte s).getLsbD 5 = parked s
      ∧ (statusByte s).getLsbD 6 = inCutoff s ∧ (statusByte s).getLsbD 7 = true := by
  unfold statusByte
  generalize ansReady s = b0
  generalize cmdPending s = b1
  generalize noticeWaiting s = b2
  generalize s.comp.barred = b3
  generalize present s .radio = b4
  generalize parked s = b5
  generalize inCutoff s = b6
  revert b0 b1 b2 b3 b4 b5 b6
  decide

/-- The NOTICE bit says that a kind of the mask is pending (R167). -/
theorem noticeWaiting_iff (s : State) :
    noticeWaiting s = true
      ↔ ∃ n : Fin 16, s.notices.comp.getLsbD n.val = true ∧ s.profile.sources.compNotices.getLsbD n.val = true := by
  have hzero : s.notices.comp &&& s.profile.sources.compNotices = 0
      ↔ ∀ n : Fin 16, ¬(s.notices.comp.getLsbD n.val = true ∧ s.profile.sources.compNotices.getLsbD n.val = true) := by
    constructor
    · intro h n
      have hbit := congrArg (BitVec.getLsbD · n.val) h
      simpa using hbit
    · intro h
      refine BitVec.eq_of_getLsbD_eq fun i hi => ?_
      simpa using h ⟨i, hi⟩
  rw [noticeWaiting, bne_iff_ne, ne_eq, hzero]
  simp

theorem attnLow_iff (s : State) :
    attnLow s = true ↔ s.compPort.answer.isSome = true
      ∨ ∃ n : Fin 16, s.notices.comp.getLsbD n.val = true ∧ s.profile.sources.compNotices.getLsbD n.val = true := by
  rw [attnLow, Bool.or_eq_true, noticeWaiting_iff]

theorem misoByte_of_transfer {s u : State} (h : u.compPort.transfer = s.compPort.transfer) (i : Nat) :
    misoByte u i = misoByte s i := by
  unfold misoByte
  rw [h]

theorem misoByte_selFalls (s : State) (i : Nat) :
    misoByte (selFalls s) i = some ((statusByte s :: s.compPort.answer.getD []).getD i 0) := rfl

theorem takeClocked_zero {mosi : List Byte} (h : mosi.headD 0 = 0) (s : State) : takeClocked mosi s = s := by
  cases mosi with
  | nil => rfl
  | cons b bs => exact if_pos h

theorem exec_transfer_running {s : State} {status : Byte} {sent : Option (List Byte)}
    (hrun : s.compPort.transfer = .running status sent) (hheld : s.compPort.restartHeld = false) (mosi : List Byte) (pins : Pins) :
    exec (.companionTransfer mosi pins) s = .next (takeClocked mosi (endTransfer (consumes sent mosi.length) s)) := by
  have hsent : answerSent s = sent := by rw [answerSent, hrun]
  rw [exec_companionTransfer, selRises, if_neg (by rw [hrun]; exact fun h => by cases h), hsent]
  dsimp only
  rw [if_neg (by rw [hheld, Bool.and_false]; decide)]

theorem consumes_some_iff (bytes : List Byte) (n : Nat) : consumes (some bytes) n = true ↔ 1 + bytes.length ≤ n := by
  simp [consumes]

/-- Settles O55. -/
theorem transferSettlesTheAnswer : Obligations.TransferSettlesTheAnswer := by
  refine ⟨fun s => ?fall, attnLow_iff, fun s i h => ?outside, fun s mosi pins =>
    ⟨fun status sent hrun hheld hzero => ?rise, fun hpassed => ?passed⟩⟩
  case fall =>
    obtain ⟨h0, h1, h2, h3, h4, h5, h6, h7⟩ := statusByte_bits s
    refine ⟨selFalls s, statusByte s, exec_selFall s, rfl, h0, h1, h2, h3, h4, h5, h6, h7, rfl, rfl,
      fun bytes i b hanswer hb => ?_, fun bytes i hanswer hlen => ?_, fun i hanswer => ?_,
      fun u i h => misoByte_of_transfer h i⟩
    · simp [misoByte_selFalls, hanswer, hb]
    · simp [misoByte_selFalls, hanswer, hlen]
    · simp [misoByte_selFalls, hanswer]
  case outside =>
    unfold misoByte
    obtain h | h := h <;> rw [h]
  case rise =>
    have hconsumes : ∀ bytes, sent = some bytes → 1 + bytes.length ≤ mosi.length → consumes sent mosi.length = true := by
      rintro bytes rfl hlen
      exact (consumes_some_iff _ _).mpr hlen
    refine ⟨_, exec_transfer_running hrun hheld mosi pins, ?_⟩
    rw [takeClocked_zero hzero]
    refine ⟨rfl, fun bytes hsent hlen => ?_, fun bytes hsent hlen => ?_, fun bytes hsent hlen => ?_, fun hsent => ?_, rfl,
      setCompPort_frame_only s _⟩
    · rw [hconsumes bytes hsent hlen]
      rfl
    · rw [hconsumes bytes hsent hlen, attnLow_iff]
      exact ⟨fun h => h.resolve_left (by simp [endTransfer]), .inr⟩
    · subst hsent
      have hno : consumes (some bytes) mosi.length = false := by
        rw [Bool.eq_false_iff, ne_eq, consumes_some_iff]
        omega
      rw [hno]
      rfl
    · rw [hsent]
      rfl
  case passed =>
    refine ⟨endTransfer false s, ?_, ?_, setCompPort_frame_only s _⟩
    · rw [exec_companionTransfer, selRises, if_pos hpassed]
    · simp [endTransfer]

end Sys2Proof.Machine
end

section
/-! PROOFS. Start-up: the sections as loaded, the reset values, the notices, and the resets that a held RESTART brings. -/
namespace Sys2Proof.Machine

/-! ### The state that start-up leaves -/

/-- The state from whose first effective values the outputs start. -/
def firstValues (pins : Pins) (s : State) : State :=
  firstResolution (startNotices (loadAll (flashAfterReset s.store)).defaulted
    (resetBase (settleReset s.retained) (flashAfterReset s.store) (loadAll (flashAfterReset s.store)).profile pins s.pending))

theorem startUp_eq (pins : Pins) (s : State) : startUp pins s = startRecovery (startOutputs pins (firstValues pins s)) := rfl

theorem startUp_frame_outputs (pins : Pins) (s : State) :
    SameExcept [.protection] (startOutputs pins (firstValues pins s)) (startUp pins s) := startRecovery_frame _

theorem effective_startUp (pins : Pins) (s : State) (f : Fn) : effective (startUp pins s) f = effective (firstValues pins s) f :=
  ((startUp_frame_outputs pins s).effective (by decide) f).trans ((startOutputs_frame pins _).effective (by decide) f)

theorem profile_firstValues (pins : Pins) (s : State) : (firstValues pins s).profile = (startUp pins s).profile :=
  (((startUp_frame_outputs pins s) .profile (by decide) : (startUp pins s).profile = _).trans
    (startOutputs_frame pins _ .profile (by decide))).symm

theorem startUp_steering (pins : Pins) (s : State) : (startUp pins s).steering =
    Steering.reset (modeOfIndex (effective (startUp pins s) .steermode)) (effective (startUp pins s) .steer)
      (startUp pins s).profile.geometry := by
  rw [effective_startUp, effective_startUp, ← profile_firstValues, ← startOutputs_steering pins]
  exact startUp_frame_outputs pins s .steering (by decide)

theorem startUp_drive (pins : Pins) (s : State) :
    (startUp pins s).drive = DriveUnit.reset (effective (startUp pins s) .drag) := by
  rw [effective_startUp, ← startOutputs_drive pins]
  exact startUp_frame_outputs pins s .drive (by decide)

theorem startUp_winch_eq (pins : Pins) (s : State) :
    (startUp pins s).winch = WinchUnit.reset (effective (startUp pins s) .winch) pins := by
  rw [effective_startUp, ← startOutputs_winch pins]
  exact startUp_frame_outputs pins s .winch (by decide)

/-- The first lamp resolution leaves the banks, the sequencer, the blink phase and the grant at their reset values. -/
theorem startUp_lamps (pins : Pins) (s : State) : ∃ channels claim half,
    (startUp pins s).lamps =
      { LampUnit.reset ((startUp pins s).profile.scenes.get 0) half with channels := channels, claim := claim } := by
  have houtputs : ∀ u, ∃ channels claim half, (startOutputs pins u).lamps =
      { LampUnit.reset ((startUp pins s).profile.scenes.get 0) half with channels := channels, claim := claim } :=
    fun u => ⟨_, _, _, rfl⟩
  obtain ⟨channels, claim, half, h⟩ := houtputs (firstValues pins s)
  exact ⟨channels, claim, half, (startUp_frame_outputs pins s .lamps (by decide)).trans h⟩

/-- A master's pending set after start-up: RESTARTED, with PROFILE_DEFAULTED where a section was defaulted and WINCH_LIMIT
where the hook reads closed, each by the master's mask (R102, R170, R176). -/
def startSet (defaulted hook : Bool) (mask : BitVec 16) : BitVec 16 :=
  let set := raiseIn (if defaulted then raiseIn 0 mask .profileDefaulted else 0) mask .restarted
  if hook then raiseIn set mask .winchLimit else set

theorem startNotices_notices (defaulted : Bool) (s : State) : (startNotices defaulted s).notices =
    ⟨startSet defaulted false s.profile.sources.radioNotices, startSet defaulted false s.profile.sources.compNotices⟩ := by
  cases defaulted <;> rfl

theorem startOutputs_notices (pins : Pins) (s : State) : (startOutputs pins s).notices = (startHook pins s).notices := by
  unfold startOutputs startHook
  split <;> rfl

theorem startUp_notices (pins : Pins) (s : State) : (startUp pins s).notices =
    ⟨startSet (loadAll (flashAfterReset s.store)).defaulted pins.hookClosed (startUp pins s).profile.sources.radioNotices,
      startSet (loadAll (flashAfterReset s.store)).defaulted pins.hookClosed (startUp pins s).profile.sources.compNotices⟩ := by
  have hfirst : (firstValues pins s).notices =
      ⟨startSet (loadAll (flashAfterReset s.store)).defaulted false (startUp pins s).profile.sources.radioNotices,
        startSet (loadAll (flashAfterReset s.store)).defaulted false (startUp pins s).profile.sources.compNotices⟩ := by
    rw [startUp_profile]
    exact (firstResolution_frame _ .notices (by decide)).trans (startNotices_notices _ _)
  have houtputs : (startUp pins s).notices = (startHook pins (firstValues pins s)).notices :=
    (startUp_frame_outputs pins s .notices (by decide)).trans (startOutputs_notices pins _)
  rw [houtputs]
  unfold startHook
  cases pins.hookClosed with
  | false => exact hfirst
  | true =>
    rw [if_pos rfl, raise, State.setNotices_notices, hfirst, profile_firstValues]
    rfl

theorem getLsbD_raiseIn (set mask : BitVec 16) (k : Notice) {i : Nat} (hi : i < 16) :
    (raiseIn set mask k).getLsbD i = (set.getLsbD i || (decide (i = noticeNumber k) && mask.getLsbD i)) := by
  have hadd : (addMember set (noticeNumber k)).getLsbD i = (set.getLsbD i || decide (i = noticeNumber k)) := by
    rw [addMember, BitVec.getLsbD_or]
    congr 1
    rw [BitVec.getLsbD_shiftLeft, BitVec.getLsbD_one, Bool.eq_iff_iff]
    simp
    omega
  unfold raiseIn
  split
  next hmask =>
    rw [hadd]
    by_cases hk : i = noticeNumber k
    · subst hk
      simp [hmask]
    · simp [hk]
  next hmask =>
    by_cases hk : i = noticeNumber k
    · subst hk
      simp [Bool.eq_false_iff.mpr hmask]
    · simp [hk]

/-- The bits of a pending set after start-up. -/
theorem getLsbD_startSet (defaulted hook : Bool) (mask : BitVec 16) {i : Nat} (hi : i < 16) :
    (startSet defaulted hook mask).getLsbD i
      = ((decide (i = 15) || (defaulted && decide (i = 14)) || (hook && decide (i = 9))) && mask.getLsbD i) := by
  have hnumbers : noticeNumber .restarted = 15 ∧ noticeNumber .profileDefaulted = 14 ∧ noticeNumber .winchLimit = 9 := by decide
  obtain ⟨hrestarted, hdefaulted, hlimit⟩ := hnumbers
  cases defaulted <;> cases hook <;>
    simp [startSet, getLsbD_raiseIn _ _ _ hi, hrestarted, hdefaulted, hlimit] <;>
    cases mask.getLsbD i <;> simp [Bool.or_comm (decide (i = 14))]

theorem startUp_lockout (pins : Pins) (s : State) :
    (startUp pins s).resolver.lockout = (settleReset s.retained).latch.isSome := by
  have hfirst : ∀ u, (firstResolution u).resolver.lockout = u.resolver.lockout := fun u =>
    foldl_keeps (P := fun t : State => t.resolver.lockout = u.resolver.lockout) (g := firstEntry) (fun _ _ ht => ht) _ u rfl
  have hresolver : (startUp pins s).resolver = (firstValues pins s).resolver :=
    (startUp_frame_outputs pins s .resolver (by decide)).trans (startOutputs_frame pins _ .resolver (by decide))
  have hnotices : ∀ d u, (startNotices d u).resolver = u.resolver := fun d u => startNotices_frame d u .resolver (by decide)
  rw [hresolver, firstValues, hfirst, hnotices]
  rfl

/-! ### Resets -/

/-- What every start-up leaves over the sections as loaded (R19, R37, R57, R76, R99, R117, R129, R146, R160, R168). -/
theorem startUp_resets (pins : Pins) (s : State) :
    (startUp pins s).radio = RadioCtx.reset ∧ (startUp pins s).comp = CompCtx.reset ∧ (startUp pins s).slots = Slots.reset
      ∧ (startUp pins s).sense = Sense.reset (startUp pins s).profile.pack ∧ (startUp pins s).budget = Budget.reset
      ∧ (startUp pins s).radioPort = RadioPort.reset ∧ (startUp pins s).compPort = CompPort.reset pins.selLow
      ∧ (startUp pins s).store = ⟨flashAfterReset s.store, none⟩ ∧ (startUp pins s).retained = settleReset s.retained
      ∧ (startUp pins s).nowMs = 0 ∧ (startUp pins s).pending = s.pending := by
  have hframe := startUp_frame pins s
  rw [startUp_profile]
  exact ⟨hframe .radio (by decide), hframe .comp (by decide), hframe .slots (by decide), hframe .sense (by decide),
    hframe .budget (by decide), hframe .radioPort (by decide), hframe .compPort (by decide), hframe .store (by decide),
    hframe .retained (by decide), hframe .clock (by decide), hframe .queue (by decide)⟩

theorem startUp_retained (pins : Pins) (s : State) : (startUp pins s).retained = settleReset s.retained :=
  startUp_frame pins s .retained (by decide)

theorem startUp_restarted (pins : Pins) (s : State) (h : (startUp pins s).profile.sources.compNotices.getLsbD 15 = true) :
    (startUp pins s).notices.comp.getLsbD 15 = true := by
  rw [startUp_notices, getLsbD_startSet _ _ _ (by decide), h]
  simp

theorem winchBridge_reset (held : Int) (pins : Pins) : winchBridge (WinchUnit.reset held pins) = .shorted 1000 := by
  rw [winchBridge, winchDriven_reset]
  rfl

theorem wheelBridge_reset {drag : Int} (h : 0 < drag) : wheelBridge (Channel.reset drag) = .shorted drag.toNat :=
  if_neg (Int.ne_of_gt h)

theorem chan_startUp (pins : Pins) (s : State) (w : Wheel) :
    chan (startUp pins s) w = Channel.reset (effective (startUp pins s) .drag) := by
  rw [chan, startUp_drive]
  exact PerWheel.get_of _ w

/-- The protection record of a start-up without a latch is its reset value: the recovery is tested under CUTOFF alone. -/
theorem startUp_protection_of_noLatch {s : State} (hlatch : (settleReset s.retained).latch = none) (pins : Pins) :
    (startUp pins s).protection = Protection.reset (startUp pins s).profile.pack false := by
  have hfirst : (startOutputs pins (firstValues pins s)).protection = Protection.reset (startUp pins s).profile.pack false := by
    have hbase : (startOutputs pins (firstValues pins s)).protection
        = Protection.reset (loadAll (flashAfterReset s.store)).profile.pack (settleReset s.retained).latch.isSome :=
      ((startOutputs_frame pins _ .protection (by decide)).trans (firstResolution_frame _ .protection (by decide))).trans
        (startNotices_frame _ _ .protection (by decide))
    rw [hbase, hlatch, startUp_profile]
    rfl
  have hstate : ¬(startOutputs pins (firstValues pins s)).protection.state = .cutoff := by
    rw [hfirst]
    exact fun h => by cases h
  calc
    (startUp pins s).protection
      = (startOutputs pins (firstValues pins s)).protection := by rw [startUp_eq, startRecovery, if_neg hstate]
    _ = Protection.reset (startUp pins s).profile.pack false := hfirst

/-- Settles O57. -/
theorem checkLeadsAndRestartAreHeld : Obligations.CheckLeadsAndRestartAreHeld := by
  refine ⟨fun s hready => ?check, fun s hready => ⟨fun hparked => ?accepted, fun hmoving => ?refused⟩,
    fun s status bytes mosi pins hheld hrun hlen => ?reset⟩
  case check =>
    refine ⟨_, exec_of_ready hready (q := .checkLeads) rfl, ?_, ?_, rfl, rfl, ?_⟩
    · show { s.sense with waiting := true, checkDue := s.sense.checkDue || s.sense.slot != SlotKind.check } = _
      split
      next hslot => simp [hslot]
      next hslot => simp [hslot]
    · show { s.compPort with request := some HeldRequest.checkLeads } = _
      rw [← hready.answer]
    · exact ((heard_frame s).mono (by decide)).trans (((setSense_frame_only _ _).mono (by decide)).trans
        ((setCompPort_frame_only _ _).mono (by decide)))
  case accepted =>
    refine ⟨_, (exec_of_ready hready (q := .restart) rfl).trans (congrArg Host.Outcome.next (if_pos hparked)),
      ⟨rfl, rfl, rfl⟩, rfl, ?_⟩
    exact (((heard_frame s).mono (by decide)).trans (answer_frame _ _ _)).trans ((setCompPort_frame_only _ _).mono (by decide))
  case refused =>
    exact refuses_of_ready hready (q := .restart) rfl (if_neg (by rw [Bool.not_eq_true]; exact hmoving))
  case reset =>
    have hsent : answerSent s = some bytes := by rw [answerSent, hrun]
    have hpassed : s.compPort.transfer ≠ .passedOver := by rw [hrun]; exact fun h => by cases h
    have hconsumes : consumes (answerSent s) mosi.length = true := by rw [hsent]; exact (consumes_some_iff _ _).mpr hlen
    refine ⟨takeRestart pins s, ?_, ?_⟩
    · rw [exec_companionTransfer, selRises_of_restart pins hheld hpassed hconsumes]
    · unfold takeRestart
      obtain ⟨hradio, hcomp, hslots, hsense, hbudget, hradioPort, hport, -, hretained, -, hpending⟩ := startUp_resets pins
        (s.setRetained { s.retained with restartFlag := true, checkOk := true })
      refine ⟨?_, ?_, ?_, ?_, hradio, hcomp, hslots, hradioPort, hport, hsense, hbudget, startUp_restarted _ _, hpending⟩ <;>
        rw [hretained] <;> rfl

/-- Settles O59. -/
theorem resetsLeaveTheResetValues : Obligations.ResetsLeaveTheResetValues := by
  intro s pins common
  have hcommon : ∀ u : State, u.pending = s.pending → common (startUp pins u) := by
    intro u hu
    obtain ⟨hradio, hcomp, hslots, hsense, hbudget, hradioPort, hport, hstore, -, hclock, hpending⟩ := startUp_resets pins u
    obtain ⟨channels, claim, half, hlamps⟩ := startUp_lamps pins u
    refine ⟨hradio, hcomp, hslots, grantOf_startUp pins u, startUp_steering pins u, startUp_drive pins u, startUp_winch_eq pins u,
      hsense, hbudget, by rw [hlamps]; rfl, by rw [hlamps]; rfl, by rw [hlamps]; rfl, by rw [hlamps]; rfl,
      by rw [hlamps]; rfl, by rw [hlamps]; rfl, by rw [hlamps]; rfl, hradioPort, hport, by rw [hstore], hclock,
      hpending.trans hu, ?_, fun w hdrag => ?_, startUp_restarted pins u⟩
    · rw [startUp_winch_eq, winchBridge_reset]
    · rw [chan_startUp, wheelBridge_reset hdrag]
  refine ⟨⟨_, exec_powerOn pins s, hcommon _ rfl, ?power, ?unlocked, ?precheck⟩, fun hok hflag =>
    ⟨_, exec_supplyDip pins s, hcommon s rfl, ?dip, ?cutoff, fun hlatch => ⟨?state, ?unfilled⟩, fun hlatch => ⟨?filled, ?drive, ?winch⟩⟩⟩
  case power => exact startUp_retained pins _
  case unlocked => exact startUp_lockout pins _
  case precheck => exact startUp_protection_of_noLatch rfl pins
  all_goals
    have hsettle : settleReset s.retained = { s.retained with lastReset := .supplyDip, dips := min 65535 (s.retained.dips + 1) } := by
      simp [settleReset, hok, hflag, satSucc]
    have hlockout : (startUp pins s).resolver.lockout = s.retained.latch.isSome := by rw [startUp_lockout, hsettle]
    obtain ⟨⟨-, hstate, -⟩, hdrive, hwinch⟩ := lockSafe_startUp pins s
  case dip => exact (startUp_retained pins s).trans hsettle
  case cutoff => rw [← hlockout]; exact hstate
  case state =>
    have hprotection := startUp_protection_of_noLatch (s := s) (by rw [hsettle]; exact hlatch) pins
    exact congrArg Protection.state hprotection
  case unfilled => exact hlockout.trans (by rw [hlatch]; rfl)
  case filled => exact hlockout.trans hlatch
  case drive => exact hdrive (hlockout.trans hlatch)
  case winch => exact hwinch (hlockout.trans hlatch)

/-! ### Sections as loaded -/

/-- The section that a contents record belongs to. -/
def SectionData.sect : SectionData → Sect
  | .sources _ => .sources
  | .map _ => .map
  | .authority _ => .authority
  | .failsafe _ => .failsafe
  | .geometry _ => .geometry
  | .drive _ => .drive
  | .winch _ => .winch
  | .pack _ => .pack
  | .lamps _ => .lamps
  | .scene _ _ => .scenes
  | .reply _ => .reply

theorem sect_of_checkBody {k : Sect} {bytes : List Byte} {d : SectionData} (h : checkBody k bytes = .ok d) : d.sect = k := by
  cases k
  case scenes => cases h; rfl
  all_goals
    obtain ⟨v, -, rfl⟩ := Except.map_eq_ok.mp h
    rfl

theorem SameSection.refl (k : Sect) (p : Profile) : SameSection k p p := by cases k <;> rfl

theorem SameSection.trans {k : Sect} {p q r : Profile} (h : SameSection k p q) (h' : SameSection k q r) : SameSection k p r := by
  cases k <;> exact Eq.trans h h'

/-- Contents written replace their own section, and no other. -/
theorem sameSection_write {d : SectionData} (hd : d.sect ≠ .scenes) (p q : Profile) :
    SameSection d.sect (p.write d) (q.write d) ∧ ∀ k, k ≠ d.sect → SameSection k (p.write d) p := by
  cases d
  case scene => exact absurd rfl hd
  all_goals exact ⟨rfl, fun k hk => by cases k <;> first | rfl | exact absurd rfl hk⟩

theorem copyHolds_iff (k : Sect) (c : FlashCopy) (v : Profile) : CopyHolds k c v ↔ loadCopy k c defaultProfile = some v := by
  have hbody : ∀ bytes, loadBody k bytes defaultProfile = some v ↔
      (k = .scenes ∧ v = { defaultProfile with scenes := readScenes bytes })
        ∨ (k ≠ .scenes ∧ ∃ d, checkBody k bytes = .ok d ∧ v = defaultProfile.write d) := by
    intro bytes
    unfold loadBody
    split
    next hk => simp [hk, eq_comm]
    next hk => cases hcheck : checkBody k bytes <;> simp [hk, eq_comm]
  cases c with
  | broken => simp [CopyHolds, loadCopy]
  | whole bytes crc =>
    constructor
    · rintro ⟨_, hwhole, hlength, hload⟩
      cases hwhole
      exact (if_pos ⟨rfl, hlength⟩).trans ((hbody bytes).mpr hload)
    · intro hload
      unfold loadCopy at hload
      dsimp only at hload
      split at hload
      next hok => exact ⟨bytes, by rw [hok.1], hok.2, (hbody bytes).mp hload⟩
      next => cases hload

/-- What a copy does when it is loaded does not depend on the profile it is loaded over. -/
theorem loadCopy_cases (k : Sect) (c : FlashCopy) :
    (∀ p, loadCopy k c p = none)
      ∨ (k = .scenes ∧ ∃ v, ∀ p : Profile, loadCopy k c p = some { p with scenes := v })
      ∨ (∃ d : SectionData, d.sect = k ∧ k ≠ .scenes ∧ ∀ p, loadCopy k c p = some (p.write d)) := by
  unfold loadCopy loadBody
  cases c with
  | broken => exact .inl fun _ => rfl
  | whole bytes crc =>
    by_cases hok : crc16 bytes = crc ∧ bytes.length = sectLength k
    · simp only [if_pos hok]
      by_cases hk : k = .scenes
      · exact .inr (.inl ⟨hk, _, fun _ => if_pos hk⟩)
      · simp only [if_neg hk]
        cases hcheck : checkBody k bytes with
        | ok d => exact .inr (.inr ⟨d, sect_of_checkBody hcheck, hk, fun _ => rfl⟩)
        | error e => exact .inl fun _ => rfl
    · exact .inl fun _ => if_neg hok

/-- A copy that loads puts its section into the profile, the same from whichever profile it is loaded over. -/
theorem loadCopy_sect {k : Sect} {c : FlashCopy} {v : Profile} (h : loadCopy k c defaultProfile = some v) (p : Profile) :
    ∃ q, loadCopy k c p = some q ∧ SameSection k q v ∧ ∀ j, j ≠ k → SameSection j q p := by
  obtain hnone | ⟨rfl, scenes, hload⟩ | ⟨d, rfl, hd, hload⟩ := loadCopy_cases k c
  · rw [hnone] at h
    cases h
  · rw [hload] at h
    cases h
    exact ⟨_, hload p, rfl, fun j hj => by cases j <;> first | rfl | exact absurd rfl hj⟩
  · rw [hload] at h
    cases h
    obtain ⟨hsame, hother⟩ := sameSection_write hd p defaultProfile
    exact ⟨_, hload p, hsame, hother⟩

theorem loadCopy_none {k : Sect} {c : FlashCopy} (h : loadCopy k c defaultProfile = none) (p : Profile) :
    loadCopy k c p = none := by
  obtain hnone | ⟨-, scenes, hload⟩ | ⟨d, -, -, hload⟩ := loadCopy_cases k c
  · exact hnone p
  all_goals
    rw [hload] at h
    cases h

/-- What a profile holds of a section once the section's copy has been loaded, or has failed to. -/
def SectionLoaded (k : Sect) (c : FlashCopy) (p q : Profile) : Prop :=
  (∀ v, loadCopy k c defaultProfile = some v → SameSection k q v)
    ∧ (loadCopy k c defaultProfile = none → SameSection k q p)

theorem loadSection_sect (flash : Vector FlashCopy 11) (l : Loaded) (k : Sect) :
    SectionLoaded k (flash.get (sectNumber k)) l.profile (loadSection flash l k).profile
      ∧ (∀ j, j ≠ k → SameSection j (loadSection flash l k).profile l.profile)
      ∧ ((loadSection flash l k).defaulted = true
          ↔ l.defaulted = true ∨ loadCopy k (flash.get (sectNumber k)) defaultProfile = none) := by
  unfold loadSection SectionLoaded
  cases h : loadCopy k (flash.get (sectNumber k)) defaultProfile with
  | none =>
    rw [loadCopy_none h]
    exact ⟨⟨fun v hv => (by cases hv), fun _ => SameSection.refl _ _⟩, fun j _ => SameSection.refl _ _, by simp⟩
  | some v =>
    obtain ⟨q, hload, hsame, hother⟩ := loadCopy_sect h l.profile
    rw [hload]
    exact ⟨⟨fun u hu => (by cases hu; exact hsame), fun hn => (by cases hn)⟩, hother, by simp⟩

theorem loadSections_sect (flash : Vector FlashCopy 11) (ks : List Sect) (hks : ks.Nodup) (l : Loaded) :
    (∀ k ∈ ks, SectionLoaded k (flash.get (sectNumber k)) l.profile (ks.foldl (loadSection flash) l).profile)
      ∧ (∀ k, k ∉ ks → SameSection k (ks.foldl (loadSection flash) l).profile l.profile)
      ∧ ((ks.foldl (loadSection flash) l).defaulted = true
          ↔ l.defaulted = true ∨ ∃ k ∈ ks, loadCopy k (flash.get (sectNumber k)) defaultProfile = none) := by
  induction ks generalizing l with
  | nil => exact ⟨fun k hk => (by cases hk), fun k _ => SameSection.refl _ _, by simp⟩
  | cons x ks ih =>
    obtain ⟨hx, hks⟩ := List.nodup_cons.mp hks
    obtain ⟨hloaded, hother, hdefaulted⟩ := loadSection_sect flash l x
    obtain ⟨ihLoaded, ihOther, ihDefaulted⟩ := ih hks (loadSection flash l x)
    rw [List.foldl_cons]
    refine ⟨fun k hk => ?_, fun k hk => ?_, ?_⟩
    · obtain rfl | hk := List.mem_cons.mp hk
      · exact ⟨fun v hv => (ihOther k hx).trans (hloaded.1 v hv), fun hn => (ihOther k hx).trans (hloaded.2 hn)⟩
      · have hne : k ≠ x := fun h => hx (h ▸ hk)
        exact ⟨(ihLoaded k hk).1, fun hn => ((ihLoaded k hk).2 hn).trans (hother k hne)⟩
    · rw [List.mem_cons, not_or] at hk
      exact (ihOther k hk.2).trans (hother k hk.1)
    · rw [ihDefaulted, hdefaulted]
      simp [or_assoc]

theorem mem_allSects (k : Sect) : k ∈ allSects := by cases k <;> decide

/-- Start-up loads each section from its copy, or takes its defaults (R176). -/
theorem loadAll_sect (flash : Vector FlashCopy 11) (k : Sect) :
    SectionLoaded k (flash.get (sectNumber k)) defaultProfile (loadAll flash).profile :=
  (loadSections_sect flash allSects (by decide) _).1 k (mem_allSects k)

theorem loadAll_defaulted (flash : Vector FlashCopy 11) :
    (loadAll flash).defaulted = true ↔ ∃ k, loadCopy k (flash.get (sectNumber k)) defaultProfile = none := by
  have h := (loadSections_sect flash allSects (by decide) ⟨defaultProfile, false⟩).2.2
  refine h.trans ⟨fun h' => ?_, fun ⟨k, hk⟩ => .inr ⟨k, mem_allSects k, hk⟩⟩
  obtain h' | ⟨k, -, hk⟩ := h'
  · cases h'
  · exact ⟨k, hk⟩

theorem get_setFlash_same (v : Vector FlashCopy 11) (k : Sect) (c : FlashCopy) : (setFlash v k c).get (sectNumber k) = c := by
  simp [setFlash, Vector.get_eq_getElem]

theorem get_setFlash_ne (v : Vector FlashCopy 11) {k : Sect} {i : Fin 11} (h : i ≠ sectNumber k) (c : FlashCopy) :
    (setFlash v k c).get i = v.get i := by
  have hval : (sectNumber k).val ≠ i.val := fun hi => h (Fin.ext hi.symm)
  simp [setFlash, Vector.get_eq_getElem, Vector.getElem_set_ne _ _ hval]

theorem sectNumber_injective {j k : Sect} (h : sectNumber j = sectNumber k) : j = k := by
  revert h
  cases j <;> cases k <;> decide

theorem flashAfterReset_get (s : State) (k : Sect) : (flashAfterReset s.store).get (sectNumber k) = copyAtStart s k := by
  unfold flashAfterReset copyAtStart
  cases hstoring : s.store.storing with
  | none => rw [if_neg (by simp)]
  | some j =>
    by_cases hj : j = k
    · subst hj
      rw [if_pos rfl]
      exact get_setFlash_same _ _ _
    · rw [if_neg (by simpa using hj)]
      exact get_setFlash_ne _ (fun h => hj (sectNumber_injective h).symm) _

/-- What start-up makes of the flash (R173, R176). -/
theorem startUp_loads (pins : Pins) (s : State) :
    (∀ (k : Sect) (v : Profile), CopyHolds k (copyAtStart s k) v → SameSection k (startUp pins s).profile v)
      ∧ (∀ k : Sect, (∀ v, ¬CopyHolds k (copyAtStart s k) v) → SameSection k (startUp pins s).profile defaultProfile)
      ∧ ((loadAll (flashAfterReset s.store)).defaulted = true ↔ ∃ k, ∀ v, ¬CopyHolds k (copyAtStart s k) v) := by
  have hnone : ∀ k, (∀ v, ¬CopyHolds k (copyAtStart s k) v) ↔ loadCopy k (copyAtStart s k) defaultProfile = none := by
    intro k
    simp only [copyHolds_iff]
    exact Option.eq_none_iff_forall_ne_some.symm
  refine ⟨fun k v hv => ?_, fun k hk => ?_, ?_⟩
  · have hloaded := loadAll_sect (flashAfterReset s.store) k
    rw [flashAfterReset_get] at hloaded
    rw [startUp_profile]
    exact hloaded.1 v ((copyHolds_iff k _ v).mp hv)
  · have hloaded := loadAll_sect (flashAfterReset s.store) k
    rw [flashAfterReset_get] at hloaded
    rw [startUp_profile]
    exact hloaded.2 ((hnone k).mp hk)
  · rw [loadAll_defaulted]
    exact exists_congr fun k => by rw [hnone, flashAfterReset_get]

/-- Settles O60: every reset kind is a start-up over the same store. -/
theorem startUpLoadsOrDefaults : Obligations.StartUpLoadsOrDefaults := by
  intro c s pins htakes
  have hreset : ∃ u : State, exec c s = .next (startUp pins u) ∧ u.store = s.store := by
    obtain rfl | rfl | ⟨mosi, rfl, hheld, hpassed, hconsumes⟩ := htakes
    · exact ⟨_, exec_powerOn pins s, rfl⟩
    · exact ⟨_, exec_supplyDip pins s, rfl⟩
    · exact ⟨_, (exec_companionTransfer mosi pins s).trans
        (congrArg Host.Outcome.next (selRises_of_restart pins hheld hpassed hconsumes)), rfl⟩
  obtain ⟨u, hexec, hstore⟩ := hreset
  have hcopy : ∀ k, copyAtStart s k = copyAtStart u k := fun k => by rw [copyAtStart, copyAtStart, hstore]
  obtain ⟨hholds, hfails, hdefaulted⟩ := startUp_loads pins u
  obtain ⟨-, -, -, -, -, -, -, hflash, -⟩ := startUp_resets pins u
  simp only [hcopy]
  refine ⟨_, hexec, hholds, hfails, fun k => ?_, by rw [hflash], ?_⟩
  · rw [hflash]
    exact flashAfterReset_get u k
  · rw [startUp_notices, ← hdefaulted]
    have hlow : ∀ {i : Nat} (mask : BitVec 16), i < 14 → i ≠ 9 →
        (startSet (loadAll (flashAfterReset u.store)).defaulted pins.hookClosed mask).getLsbD i = false := by
      intro i mask hi hne
      rw [getLsbD_startSet _ _ _ (by omega)]
      simp [hne, show i ≠ 15 by omega, show i ≠ 14 by omega]
    refine ⟨?_, ?_, fun h => ⟨?_, ?_⟩, fun h => ⟨?_, ?_⟩, fun i hi hne => ⟨hlow _ hi hne, hlow _ hi hne⟩, ?_, ?_⟩
    all_goals rw [getLsbD_startSet _ _ _ (by decide)]
    case refine_3 | refine_4 | refine_5 | refine_6 => simp [h]
    all_goals simp

end Sys2Proof.Machine
end

section
/-! PROOFS. The Winch Unit: counting the line, home, the winch update, the stall and spool sync. -/
namespace Sys2Proof.Machine

/-! ### Counting the line -/

theorem goLimit_frame_notices (st : WinchState) (s : State) : (goLimit st s).notices = (raise .winchLimit s).notices :=
  lampsIfWinch_frame_only _ _ .notices (by decide)

theorem raised_goLimit (st : WinchState) (s : State) : Raised .winchLimit s (goLimit st s) :=
  (raised_raise .winchLimit s).of_notices (goLimit_frame_notices st s)

theorem raised_goStalled (s : State) : Raised .winchStall s (goStalled s) :=
  (raised_raise .winchStall s).of_notices (lampsIfWinch_frame_only _ _ .notices (by decide))

/-- A phase that changes alone counts by which phase leads, both at once are an error, and none is no edge (R100). -/
theorem edgeKind_eq (a b a' b' : Bool) : edgeKind a b a' b' =
    if a' = a then (if b' = b then .same else if b' == a' then .forward else .backward)
    else if b' = b then (if a' != b' then .forward else .backward) else .error := by
  revert a b a' b'
  decide

theorem payout_countUp {w : WinchUnit} (h : payout w < 2147483647) : payout (countUp w) = payout w + 1 := by
  unfold countUp
  rw [if_pos h]
  have hlt := w.counter.isLt
  by_cases hwrap : w.counter = 0xFFFF#16
  · rw [if_pos hwrap]
    simp only [payout, hwrap]
    simp
    omega
  · have hne : w.counter.toNat ≠ 65535 := fun h => hwrap (BitVec.eq_of_toNat_eq h)
    rw [if_neg hwrap]
    simp only [payout, BitVec.toNat_add]
    simp
    omega

theorem payout_countDown {w : WinchUnit} (h : -2147483648 < payout w) : payout (countDown w) = payout w - 1 := by
  unfold countDown
  rw [if_pos h]
  have hlt := w.counter.isLt
  by_cases hwrap : w.counter = 0#16
  · rw [if_pos hwrap]
    simp only [payout, hwrap]
    simp
    omega
  · have hne : w.counter.toNat ≠ 0 := fun h => hwrap (BitVec.eq_of_toNat_eq h)
    rw [if_neg hwrap]
    simp only [payout, BitVec.toNat_sub]
    simp
    omega

/-- A count of one edge changes the payout count alone. -/
theorem count_kept (up : Bool) (w : WinchUnit) : ∃ counter overflow,
    (if up then countUp w else countDown w) = { w with counter := counter, overflow := overflow } := by
  unfold countUp countDown
  split <;> split
  · exact ⟨_, _, rfl⟩
  · exact ⟨w.counter, w.overflow, rfl⟩
  · exact ⟨_, _, rfl⟩
  · exact ⟨w.counter, w.overflow, rfl⟩

theorem payout_count {w : WinchUnit} (hlow : -2147483648 < payout w) (hhigh : payout w < 2147483647) (up : Bool) :
    payout (if up then countUp w else countDown w) = if up then payout w + 1 else payout w - 1 := by
  cases up
  · exact payout_countDown hlow
  · exact payout_countUp hhigh

/-- The end stops as tested at a change of the payout count (R104, R105). -/
theorem testStops_eq (s : State) : testStops s =
    if s.winch.known = true ∧ s.winch.state = .inward ∧ payout s.winch ≤ 0 then goLimit .limitIn s
    else if s.winch.known = true ∧ s.winch.state = .outward ∧ (limitCount s.profile.winch : Int) ≤ payout s.winch then
      goLimit .limitOut s
    else s := by
  unfold testStops atInStop atOutStop
  cases s.winch.state <;> cases s.winch.known <;> simp

theorem exec_encoderEdge (a b : Bool) (s : State) : exec (.encoderEdge a b) s = .next (encoderEdge a b s) := rfl

theorem encoderEdge_of_forward {s : State} {a b : Bool} (h : edgeKind s.winch.encA s.winch.encB a b = .forward) :
    encoderEdge a b s = countEdge (!s.profile.winch.reverse) (s.setWinch { s.winch with encA := a, encB := b }) := by
  unfold encoderEdge
  dsimp only
  rw [h]

theorem encoderEdge_of_backward {s : State} {a b : Bool} (h : edgeKind s.winch.encA s.winch.encB a b = .backward) :
    encoderEdge a b s = countEdge s.profile.winch.reverse (s.setWinch { s.winch with encA := a, encB := b }) := by
  unfold encoderEdge
  dsimp only
  rw [h]

/-- An edge on one phase is a count, outward where the leading phase and encoder reverse say so (R100). -/
theorem encoderEdge_single {s : State} {a b : Bool}
    (h : (a ≠ s.winch.encA ∧ b = s.winch.encB) ∨ (a = s.winch.encA ∧ b ≠ s.winch.encB)) :
    encoderEdge a b s =
      countEdge ((if a = s.winch.encA then b == a else a != b) != s.profile.winch.reverse)
        (s.setWinch { s.winch with encA := a, encB := b }) := by
  have hkind : edgeKind s.winch.encA s.winch.encB a b
      = if (if a = s.winch.encA then b == a else a != b) = true then .forward else .backward := by
    rw [edgeKind_eq]
    obtain ⟨ha, hb⟩ | ⟨ha, hb⟩ := h
    · rw [if_neg ha, if_pos hb, if_neg ha]
    · rw [if_pos ha, if_neg hb, if_pos ha]
  cases hleads : (if a = s.winch.encA then b == a else a != b) with
  | false =>
    rw [hleads] at hkind
    rw [encoderEdge_of_backward hkind, Bool.false_bne]
  | true =>
    rw [hleads] at hkind
    rw [encoderEdge_of_forward hkind, Bool.true_bne]

/-- Settles O38. -/
theorem encoderEdgesCountTheLine : Obligations.EncoderEdgesCountTheLine := by
  intro s a b w levels
  refine ⟨fun ha hb => ?same, fun ha hb => ?error, fun hone hlow hhigh => ?single⟩
  case same =>
    rw [exec_encoderEdge, encoderEdge]
    dsimp only
    rw [edgeKind_eq, if_pos ha, if_pos hb]
  case error =>
    rw [exec_encoderEdge, encoderEdge]
    dsimp only
    rw [edgeKind_eq, if_neg ha, if_neg hb]
    rfl
  case single =>
    intro leads out n
    have hn : payout (if out then countUp levels else countDown levels) = n := payout_count (w := levels) hlow hhigh out
    obtain ⟨counter, overflow, hcount⟩ := count_kept out levels
    rw [hcount] at hn
    refine ⟨_, exec_encoderEdge a b s, ?_⟩
    have hstep : encoderEdge a b s = testStops (s.setWinch { levels with counter := counter, overflow := overflow }) := by
      rw [encoderEdge_single hone, countEdge, ← hcount]
      rfl
    have hframe : SameExcept winchTouches s (encoderEdge a b s) := encoderEdge_frame a b s
    rw [hstep] at hframe ⊢
    rw [testStops_eq] at hframe ⊢
    simp only [State.setWinch_winch, State.setWinch_profile, hn] at hframe ⊢
    have hraised : ∀ st u, u.profile = s.profile → Raised .winchLimit s (goLimit st u) := fun st u hu =>
      (raised_goLimit st u).of_profile hu
    split
    next hin =>
      rw [if_pos hin] at hframe
      rw [goLimit_winch, payout_brakedIn]
      exact ⟨hn, rfl, rfl, rfl, rfl, ⟨rfl, rfl, rfl, hraised _ _ rfl⟩, hframe⟩
    next hin =>
      rw [if_neg hin] at hframe
      split
      next hout =>
        rw [if_pos hout] at hframe
        rw [goLimit_winch, payout_brakedIn]
        exact ⟨hn, rfl, rfl, rfl, rfl, ⟨rfl, rfl, rfl, hraised _ _ rfl⟩, hframe⟩
      next hout =>
        rw [if_neg hout] at hframe
        exact ⟨hn, rfl, rfl, rfl, rfl, ⟨rfl, rfl, rfl, rfl⟩, hframe⟩

/-! ### Home -/

theorem homeBraked_winch (s : State) : (homeBraked s).winch = brakedIn .limitIn (atHome s.winch) := by simp [homeBraked]

theorem raised_homeBraked (s : State) : Raised .winchLimit s (homeBraked s) := (raised_goLimit _ _).of_profile rfl

/-- The hook's closing brakes the winch at home, but for OUT and STALLED, which stand (R102). -/
theorem hookCloses_of_open {s : State} (h : s.winch.hookClosed = false) : hookCloses s =
    if s.winch.state = .outward ∨ s.winch.state = .stalled then
      raise .winchLimit (s.setWinch (atHome { s.winch with hookClosed := true }))
    else homeBraked (s.setWinch { s.winch with hookClosed := true }) := by
  unfold hookCloses
  rw [if_neg (by rw [h]; decide)]
  cases s.winch.state <;> simp

theorem exec_hookClosing (s : State) : exec .hookClosing s = .next (hookCloses s) := rfl

theorem runWinchZero_of_parked {s : State} (h : s.winch.state = .idle ∨ s.winch.state = .limitIn ∨ s.winch.state = .limitOut) :
    runWinchZero s = answer .winchZero okPayload (homeBraked s) := by
  refine if_neg ?_
  obtain h | h | h := h <;> simp [winchDriven, h]

theorem runWinchZero_of_moving {s : State} (h : s.winch.state = .inward ∨ s.winch.state = .outward ∨ s.winch.state = .stalled) :
    runWinchZero s = refuse .notParked .winchZero s := by
  refine if_pos ?_
  obtain h | h | h := h <;> simp [winchDriven, h]

/-- Settles O39. -/
theorem homeIsSet : Obligations.HomeIsSet := by
  refine ⟨fun s => ⟨fun hopen => ?closing, fun hclosed => ?closed, rfl⟩, fun s hready => ⟨fun hparked => ?zero, fun hmoving => ?moving⟩⟩
  case closing =>
    have hframe : SameExcept winchTouches s (hookCloses s) := hookCloses_frame s
    refine ⟨_, exec_hookClosing s, ?_⟩
    rw [hookCloses_of_open hopen] at hframe ⊢
    by_cases hstands : s.winch.state = .outward ∨ s.winch.state = .stalled
    · rw [if_pos hstands] at hframe ⊢
      refine ⟨rfl, rfl, rfl, (raised_raise .winchLimit _).of_profile rfl, fun _ => ⟨rfl, rfl⟩, fun hout hstalled => ?_, hframe⟩
      exact (hstands.elim hout hstalled).elim
    · rw [if_neg hstands] at hframe ⊢
      have hraised := raised_homeBraked (s.setWinch { s.winch with hookClosed := true })
      rw [homeBraked_winch]
      exact ⟨rfl, rfl, rfl, hraised.of_profile rfl, fun h => absurd h hstands, fun _ _ => ⟨rfl, rfl, rfl, rfl, rfl⟩, hframe⟩
  case closed => rw [exec_hookClosing, hookCloses, if_pos hclosed]
  case zero =>
    have hrun : runRequest .winchZero (heard s) = _ := runWinchZero_of_parked (s := heard s) hparked
    have hcomp : (homeBraked (heard s)).comp = (heard s).comp := homeBraked_frame (heard s) .comp (by decide)
    have hwinch : (answer .winchZero okPayload (homeBraked (heard s))).winch = (homeBraked (heard s)).winch := rfl
    refine ⟨_, (exec_of_ready hready (q := .winchZero) rfl).trans (congrArg Host.Outcome.next hrun), ?_⟩
    rw [hwinch, homeBraked_winch]
    refine ⟨rfl, rfl, rfl, rfl, ?_, answered_answer _ _ ((congrArg CompCtx.accepted hcomp).trans rfl), ?_⟩
    · exact ((raised_homeBraked (heard s)).of_profile rfl).of_notices rfl
    · exact (((heard_frame s).mono (by decide)).trans ((homeBraked_frame _).mono (by decide))).trans
        ((answer_frame _ _ _).mono (by decide))
  case moving => exact refuses_of_ready hready (q := .winchZero) rfl (runWinchZero_of_moving (s := heard s) hmoving)

/-! ### The winch update -/

/-- The update's first stage: the line speed measured and the timer reloaded (R101, R107). -/
def lineMeasured (s : State) : WinchUnit :=
  { s.winch with
    lineSpeed := (payoutDelta s.winch * 20000).tdiv s.profile.winch.edgesPer100, lastPayout := payout s.winch, timer := 5 }

theorem winchUpdate_eq (s : State) : winchUpdate s =
    syncStage ((stallStage (payoutDelta s.winch) (s.setWinch (lineMeasured s))).setWinch
      (dutyStages (stallStage (payoutDelta s.winch) (s.setWinch (lineMeasured s))).profile.winch
        (stallStage (payoutDelta s.winch) (s.setWinch (lineMeasured s))).winch)) := rfl

theorem exec_winchUpdate (s : State) : exec .winchUpdate s = .next (winchUpdate s) := rfl

/-- The stall test passes a winch that is not driven. -/
theorem stallStage_of_rest {s : State} (h : winchDriven s.winch = false) (delta : Int) : stallStage delta s = s :=
  if_neg (by rw [h]; decide)

/-- Without the stall condition the stall timer stops (R111). -/
theorem stallStage_of_moving {s : State} (h : winchDriven s.winch = true) {delta : Int}
    (hno : stallCondition s.profile.winch s.winch delta = false) :
    stallStage delta s = s.setWinch { s.winch with stall := none } := by
  unfold stallStage
  rw [if_pos h, hno]
  rfl

/-- With the stall condition the timer counts the update, and at the stall time the winch stalls (R111). -/
theorem stallStage_of_stall {s : State} (h : winchDriven s.winch = true) {delta : Int}
    (hstall : stallCondition s.profile.winch s.winch delta = true) {n : Nat}
    (hn : n = match s.winch.stall with | none => 0 | some k => k + 5) :
    stallStage delta s =
      if s.profile.winch.stallTime ≤ n then goStalled (s.setWinch { s.winch with stall := some n })
      else s.setWinch { s.winch with stall := some n } := by
  unfold stallStage
  rw [if_pos h, hstall, hn]
  cases s.winch.stall <;> rfl

theorem winchDriven_iff (w : WinchUnit) : winchDriven w = true ↔ w.state = .inward ∨ w.state = .outward := by
  simp [winchDriven]

/-- What sync leaves of the winch: all but its own record. -/
theorem syncStage_winch (s : State) : ∃ sync, (syncStage s).winch = { s.winch with sync := sync } := ⟨_, rfl⟩

theorem winchUpdate_winch (s : State) : (winchUpdate s).winch =
    { dutyStages s.profile.winch (stallStage (payoutDelta s.winch) (s.setWinch (lineMeasured s))).winch with
      sync := (winchUpdate s).winch.sync } := by
  have hprofile : (stallStage (payoutDelta s.winch) (s.setWinch (lineMeasured s))).profile = s.profile :=
    stallStage_frame _ _ .profile (by decide)
  rw [winchUpdate_eq, hprofile]
  rfl

theorem winchBridge_braked {w : WinchUnit} (h : winchDriven w = false) : winchBridge w = .shorted 1000 := by
  rw [winchBridge, h]
  rfl

theorem dutyStages_of_driven {w : WinchUnit} (h : winchDriven w = true) (p : WinchSection) : dutyStages p w = drivenStages p w :=
  if_pos h

theorem dutyStages_of_rest {w : WinchUnit} (h : winchDriven w = false) (p : WinchSection) :
    dutyStages p w = { w with demand := 0, claim := 0, target := 0, duty := 0, limiter := w.limiter - 5 } :=
  if_neg (by rw [h]; decide)

/-- An update that stalls no winch changes the Winch Unit alone. -/
theorem winchUpdate_frame_of_stall {s : State} {w : WinchUnit}
    (h : stallStage (payoutDelta s.winch) (s.setWinch (lineMeasured s)) = s.setWinch w) :
    SameExcept [.winch] s (winchUpdate s) := by
  rw [winchUpdate_eq, h]
  exact ((setWinch_frame_only _ _).trans (setWinch_frame_only _ _)).trans (setWinch_frame_only _ _)

/-- Settles O40. -/
theorem winchUpdateDrives : Obligations.WinchUpdateDrives := by
  intro s w p delta fresh
  refine ⟨fun hdriven hmoves => ?driven, fun hin hout => ?rests⟩
  case driven =>
    intro m0 m limiter size target duty
    have hdriven' : winchDriven (lineMeasured s) = true := (winchDriven_iff _).mpr hdriven
    have hno : stallCondition p (lineMeasured s) delta = false := by
      have hmoves' : ¬(p.stallCurrent ≤ (lineMeasured s).current ∧ delta.natAbs ≤ 1) := by
        show ¬(p.stallCurrent ≤ w.current ∧ delta.natAbs ≤ 1)
        omega
      simpa [stallCondition, not_and_or] using hmoves'
    have hstall : stallStage (payoutDelta s.winch) (s.setWinch (lineMeasured s)) = s.setWinch { lineMeasured s with stall := none } :=
      stallStage_of_moving (s := s.setWinch (lineMeasured s)) hdriven' hno
    have hwinch : (winchUpdate s).winch =
            { fresh with
              stall := none, demand := m, claim := p.imax * m / 1000, limiter := limiter, target := target
              duty := duty, sync := (winchUpdate s).winch.sync } := by
      rw [winchUpdate_winch, hstall, State.setWinch_winch,
        dutyStages_of_driven (w := { lineMeasured s with stall := none }) hdriven']
      rfl
    refine ⟨_, exec_winchUpdate s, hwinch, ?_, winchUpdate_frame_of_stall hstall⟩
    have hbridge : winchBridge (winchUpdate s).winch = bridgeAt (winchUpdate s).winch.duty := by
      rw [winchBridge, if_pos (by rw [hwinch]; exact hdriven')]
    rw [hbridge, hwinch]
    rfl
  case rests =>
    have hrest : winchDriven (lineMeasured s) = false := (winchDriven_eq_false_iff _).mpr ⟨hin, hout⟩
    have hstall : stallStage (payoutDelta s.winch) (s.setWinch (lineMeasured s)) = s.setWinch (lineMeasured s) :=
      stallStage_of_rest (s := s.setWinch (lineMeasured s)) hrest _
    have hwinch : (winchUpdate s).winch =
            { fresh with
              demand := 0, claim := 0, target := 0, duty := 0, limiter := w.limiter - 5
              sync := (winchUpdate s).winch.sync } := by
      rw [winchUpdate_winch, hstall, State.setWinch_winch, dutyStages_of_rest hrest]
      rfl
    exact ⟨_, exec_winchUpdate s, hwinch, winchBridge_braked (by rw [hwinch]; exact hrest), winchUpdate_frame_of_stall hstall⟩

/-- Settles O41. -/
theorem winchStalls : Obligations.WinchStalls := by
  intro s w p
  refine ⟨fun hdriven hcurrent hstands => ?test, fun hdriven hruns => ?expires, fun hnone => ?idle, fun hstate hruns => ?clears,
    fun hno => ?stands⟩
  case test =>
    have hdriven' : winchDriven (lineMeasured s) = true := (winchDriven_iff _).mpr hdriven
    have hcond : stallCondition p (lineMeasured s) (payoutDelta s.winch) = true := by
      simpa [stallCondition] using And.intro (show p.stallCurrent ≤ (lineMeasured s).current from hcurrent)
        (show (payoutDelta s.winch).natAbs ≤ 1 from hstands)
    intro n
    have hstall : stallStage (payoutDelta s.winch) (s.setWinch (lineMeasured s)) =
        if p.stallTime ≤ n then goStalled (s.setWinch { lineMeasured s with stall := some n })
        else s.setWinch { lineMeasured s with stall := some n } :=
      stallStage_of_stall (s := s.setWinch (lineMeasured s)) hdriven' hcond rfl
    refine ⟨fun hshort => ⟨_, exec_winchUpdate s, ?_⟩, fun hreached => ⟨_, exec_winchUpdate s, ?_⟩⟩
    · rw [winchUpdate_winch, hstall, if_neg (by omega), State.setWinch_winch,
        dutyStages_of_driven (w := { lineMeasured s with stall := some n }) hdriven']
      exact ⟨rfl, rfl⟩
    · rw [if_pos hreached] at hstall
      have hwinch := winchUpdate_winch s
      rw [hstall, goStalled_winch, dutyStages_of_rest rfl] at hwinch
      have hnotices : (winchUpdate s).notices = (goStalled (s.setWinch { lineMeasured s with stall := some n })).notices := by
        rw [winchUpdate_eq, hstall]
        rfl
      have hraised : Raised .winchStall s (goStalled (s.setWinch { lineMeasured s with stall := some n })) :=
        (raised_goStalled _).of_profile rfl
      rw [hwinch]
      exact ⟨rfl, rfl, rfl, rfl, rfl, hraised.of_notices hnotices⟩
  case expires =>
    have hexec : exec .stallTimerExpiry s = .next (goStalled s) := by
      have hexpires : stallExpires s = goStalled s := if_pos (by rw [(winchDriven_iff _).mpr hdriven, hruns]; rfl)
      rw [← hexpires]
      rfl
    refine ⟨_, hexec, ?_, ?_, ?_, raised_goStalled s, goStalled_frame s⟩ <;> rw [goStalled_winch] <;> rfl
  case idle =>
    have hexpires : stallExpires s = s := if_neg (by rw [hnone]; simp)
    exact congrArg Host.Outcome.next hexpires
  case clears =>
    have hexpires : stallClears s = goIdle s := if_pos ⟨hstate, hruns⟩
    have hexec : exec .stallClearExpiry s = .next (goIdle s) := congrArg Host.Outcome.next hexpires
    refine ⟨_, hexec, ?_, ?_, ?_, goIdle_frame s⟩
    · rw [goIdle_winch]; rfl
    · rw [goIdle_winch]; rfl
    · exact lampsIfWinch_frame_only _ _ .notices (by decide)
  case stands =>
    have hexpires : stallClears s = s := if_neg fun ⟨hstate, hruns⟩ => hno.elim (fun h => h hstate) fun h => by
      rw [h] at hruns
      cases hruns
    exact congrArg Host.Outcome.next hexpires

/-! ### Spool sync -/

theorem capAfter_inactive (any : Bool) (vl vw margin cap : Nat) : capAfter false any vl vw margin cap = min 1000 (cap + 20) := rfl

theorem capAfter_active (any : Bool) (vl vw margin cap : Nat) : capAfter true any vl vw margin cap =
    if any = true then
      if vl * (100 + margin) / 100 < vw then max 100 (cap - 20)
      else if vw < vl * (100 - margin) / 100 then min 1000 (cap + 20) else cap
    else cap := rfl

theorem syncHolds_iff (s : State) : syncHolds s = true ↔ s.winch.state = .inward ∧ s.profile.winch.syncEnable = true
    ∧ (s.profile.drive.neutralBand : Int) < effective s .drive := by
  simp [syncHolds, and_assoc]

theorem stallStage_sync_cap (delta : Int) (s : State) : (stallStage delta s).winch.sync.cap = s.winch.sync.cap := by
  unfold stallStage
  split
  · dsimp only
    split
    · split
      · rw [goStalled_winch]
        rfl
      · rfl
    · rfl
  · rfl

theorem dutyStages_sync (p : WinchSection) (w : WinchUnit) : (dutyStages p w).sync = w.sync := by
  unfold dutyStages
  split <;> rfl

/-- Settles O42. -/
theorem spoolSyncFollows : Obligations.SpoolSyncFollows := by
  intro s
  refine ⟨_, exec_winchUpdate s, ?_⟩
  intro cs vl vw margin cap above below
  obtain ⟨u, hupdate, hframe, hcap⟩ :
      ∃ u, winchUpdate s = syncStage u ∧ SameExcept winchTouches s u ∧ u.winch.sync.cap = s.winch.sync.cap := by
    refine ⟨_, winchUpdate_eq s, ?_, ?_⟩
    · exact (((setWinch_frame_only s _).mono (by decide)).trans (stallStage_frame _ _)).trans
        ((setWinch_frame_only _ _).mono (by decide))
    · rw [State.setWinch_winch, dutyStages_sync, stallStage_sync_cap]
      rfl
  have hprofile : u.profile = s.profile := hframe .profile (by decide)
  have heffective : effective u .drive = effective s .drive := hframe.effective (by decide) .drive
  have hcommanded : commanded u = cs := by
    have hdrive : u.drive = s.drive := hframe .drive (by decide)
    unfold commanded
    rw [hdrive]
    rfl
  have hactive : (winchUpdate s).winch.sync.active = syncHolds u := by rw [hupdate]; rfl
  have hcap' : (winchUpdate s).winch.sync.cap = capAfter (syncHolds u) (!cs.isEmpty) vl vw margin cap := by
    have hmean : meanCommanded u = vw := by rw [meanCommanded, hcommanded]
    have hline : u.winch.lineSpeed.natAbs = vl := by
      show _ = (winchUpdate s).winch.lineSpeed.natAbs
      rw [hupdate]
      rfl
    rw [hupdate]
    show capAfter _ _ _ _ _ _ = _
    rw [hcommanded, hmean, hline, hprofile, hcap]
  refine ⟨?_, ?_, ?_, fun hoff => ?_, fun hon hnone => ?_, fun hon hsome habove => ?_, fun hon hsome hnot hbelow => ?_,
    fun hon hsome hnot hnot' => ?_⟩
  · rw [hactive, syncHolds_iff, hprofile, heffective, hupdate]
    rfl
  · show _ = (winchUpdate s).winch.lineSpeed.natAbs
    rw [hupdate]
    rfl
  · rw [hupdate]
    show meanCommanded u = _
    rw [meanCommanded, hcommanded]
  all_goals rw [hcap', ← hactive]
  · rw [hoff]
    rfl
  · rw [hon, hnone]
    rfl
  all_goals rw [hon, capAfter_active, if_pos (by simpa using hsome)]
  · exact if_pos habove
  · rw [if_neg hnot, if_pos hbelow]
  · rw [if_neg hnot, if_neg hnot']

end Sys2Proof.Machine
end

section
/-! PROOFS. The steering update while SETTLED, and the Wheel Drive Unit's events: wheel speeds, updates and timers. -/
namespace Sys2Proof.Machine

/-! ### The steering update -/

theorem exec_steeringUpdate (s : State) : exec .steeringUpdate s = .next (steeringUpdate s) := rfl

theorem speedTest_of_ne_waiting {s : State} (h : s.steering.state ≠ .waiting) : speedTest s = s := by
  unfold speedTest
  split
  next hwaiting _ => exact absurd hwaiting h
  next => rfl

theorem rulingMode_of_ne_slewing {t : Steering} (h : t.state ≠ .slewing) : rulingMode t = t.mode := by
  unfold rulingMode
  split
  next hslewing _ => exact absurd hslewing h
  next => rfl

/-- Outside SLEWING the rear output takes its target at once (R60). -/
theorem rearStage_of_ne_slewing {s : State} (h : s.steering.state ≠ .slewing) :
    rearStage s = s.setSteering { s.steering with rearOut := s.steering.rearTarget } := by
  unfold rearStage
  dsimp only
  rw [if_neg h, if_neg fun hend => h hend.1]

/-- Settles O31. -/
theorem steeringUpdateSettled : Obligations.SteeringUpdateSettled := by
  intro s hsettled g a front rear pulse
  have hspeed : speedTest (beginFrame s) = beginFrame s :=
    speedTest_of_ne_waiting (by show s.steering.state ≠ _; rw [hsettled]; decide)
  have hrear := rearStage_of_ne_slewing (s := targetStage (beginFrame s)) (by show s.steering.state ≠ _; rw [hsettled]; decide)
  have hmode : rulingMode (beginFrame s).steering = s.steering.mode :=
    rulingMode_of_ne_slewing (by show s.steering.state ≠ _; rw [hsettled]; decide)
  refine ⟨_, exec_steeringUpdate s, ?_, ?_⟩
  · have hfront : frontTargetOf s.steering.mode a = front := by
      show frontTargetOf s.steering.mode a = if s.steering.mode = .rear then 0 else a
      cases s.steering.mode <;> rfl
    have hrearTarget : rearTargetOf s.steering.mode a g.rearRatio = rear := by
      simp only [rear]
      cases s.steering.mode <;> rfl
    rw [steeringUpdate, hspeed, hrear]
    unfold targetStage
    simp only [hmode]
    rw [← hfront, ← hrearTarget]
    rfl
  · rw [steeringUpdate, hspeed, hrear]
    exact (((setSteering_frame_only _ _).trans (setSteering_frame_only _ _)).trans (setSteering_frame_only _ _)).trans
      (setSteering_frame_only _ _)

/-! ### Wheel speeds -/

theorem exec_hallEdge (w : Wheel) (micros : Nat) (s : State) : exec (.hallEdge w micros) s = .next (hallEdge w micros s) := rfl

theorem chan_hallEdge_same (w : Wheel) (micros : Nat) (s : State) :
    chan (hallEdge w micros s) w = edgeAtChannel s.profile.drive micros (chan s w) := by
  rw [hallEdge, chan_holdStill, chan_setChan_same]

theorem chan_hallEdge_ne {w v : Wheel} (h : v ≠ w) (micros : Nat) (s : State) : chan (hallEdge w micros s) v = chan s v := by
  rw [hallEdge, chan_holdStill, chan_setChan_ne _ h]

theorem hallEdge_frame_only (w : Wheel) (micros : Nat) (s : State) : SameExcept [.drive] s (hallEdge w micros s) := by
  unfold hallEdge holdStill
  split
  · exact setChan_frame s w _
  · exact (setChan_frame s w _).trans (setDrive_frame _ _)

theorem edgeAtChannel_of_stopped {c : Channel} (h : c.timing = false) (p : DriveSection) (micros : Nat) :
    edgeAtChannel p micros c = { c with timing := true, carry := 0, edgeIdle := 0 } := if_neg (by rw [h]; decide)

theorem edgeAtChannel_of_noise {c : Channel} (h : c.timing = true) (p : DriveSection) {micros : Nat}
    (hnoise : c.carry + micros < 50) : edgeAtChannel p micros c = { c with carry := c.carry + micros } :=
  (if_pos h).trans (if_pos hnoise)

theorem edgeAtChannel_of_edge {c : Channel} (h : c.timing = true) (p : DriveSection) {micros : Nat}
    (hedge : 50 ≤ c.carry + micros) : edgeAtChannel p micros c =
      { c with carry := 0, edgeIdle := 0, speed := signedSpeed c.lastReverse (edgeSpeed p (c.carry + micros)) } :=
  (if_pos h).trans (if_neg (Nat.not_lt.mpr hedge))

theorem holdStill_still {s : State} {w : Wheel} (h : (chan s w).speed ≠ 0) : (holdStill s).drive.still = 0 := by
  rw [holdStill, if_neg]
  · rfl
  · rw [Bool.not_eq_true]
    exact (allStill_eq_false_iff s).mpr ⟨w, h⟩

/-- Settles O34. -/
theorem wheelSpeedFromEdges : Obligations.WheelSpeedFromEdges := by
  intro s w micros c p interval
  refine ⟨fun hstopped => ?_, fun htiming hnoise => ?_, fun htiming hedge => ?_, ?_⟩
  · exact ⟨_, exec_hallEdge w micros s, (chan_hallEdge_same w micros s).trans (edgeAtChannel_of_stopped hstopped p micros),
      fun v hv => chan_hallEdge_ne hv micros s, hallEdge_frame_only w micros s⟩
  · exact ⟨_, exec_hallEdge w micros s, (chan_hallEdge_same w micros s).trans (edgeAtChannel_of_noise htiming p hnoise),
      fun v hv => chan_hallEdge_ne hv micros s, hallEdge_frame_only w micros s⟩
  · intro size
    have hchan : edgeAtChannel p micros c = { c with carry := 0, edgeIdle := 0, speed := if c.lastReverse then -size else size } :=
      edgeAtChannel_of_edge htiming p hedge
    refine ⟨_, exec_hallEdge w micros s, (chan_hallEdge_same w micros s).trans hchan, fun hsize => ?_,
      fun v hv => chan_hallEdge_ne hv micros s, hallEdge_frame_only w micros s⟩
    refine holdStill_still (w := w) ?_
    rw [chan_setChan_same, hchan]
    show (if c.lastReverse = true then -size else size) ≠ 0
    split
    · exact neg_ne_zero.mpr hsize
    · exact hsize
  · exact ⟨speedExpires w s, rfl, chan_setChan_same s w _, fun v hv => chan_setChan_ne s hv _, rfl, setChan_frame s w _⟩

/-! ### Wheel updates -/

theorem exec_wheelUpdate (w : Wheel) (s : State) : exec (.wheelUpdate w) s = .next (wheelUpdate w s) := rfl

theorem chan_lampsIfRest (b : Bool) (s : State) (w : Wheel) : chan (lampsIfRest b s) w = chan s w :=
  (lampsIfRest_frame b s).chan (by decide) w

theorem chan_wheelUpdate_same (w : Wheel) (s : State) :
    chan (wheelUpdate w s) w = { updatedChannel s w (chan s w) with timer := 2 } := by
  rw [wheelUpdate, chan_lampsIfRest, chan_setChan_same]
  rfl

theorem chan_wheelUpdate_ne {w v : Wheel} (h : v ≠ w) (s : State) : chan (wheelUpdate w s) v = chan s v := by
  rw [wheelUpdate, chan_lampsIfRest, chan_setChan_ne _ h]

theorem wheelUpdate_frame_only (w : Wheel) (s : State) : SameExcept channelTouches s (wheelUpdate w s) :=
  ((setChan_frame s w _).mono (by decide)).trans ((lampsIfRest_frame _ _).mono (by decide))

theorem inBand_eq_true_iff (s : State) (v : Int) : inBand s v = true ↔ v.natAbs ≤ s.profile.drive.neutralBand := by
  simp [inBand]

theorem inBand_eq_false_iff (s : State) (v : Int) : inBand s v = false ↔ s.profile.drive.neutralBand < v.natAbs := by
  simp [inBand]

theorem atRest_iff (s : State) : atRest s = true ↔ ∀ w, (chan s w).state ≠ .run := by
  unfold atRest
  rw [List.all_eq_true]
  simp only [Bool.not_eq_true', beq_eq_false_iff_ne]
  exact PerWheel.forall_mem_list

theorem atRest_setChan {s : State} {w : Wheel} {c : Channel} (h : c.state = (chan s w).state) :
    atRest (setChan s w c) = atRest s := by
  rw [Bool.eq_iff_iff, atRest_iff, atRest_iff]
  refine forall_congr' fun v => ?_
  by_cases hv : v = w
  · subst hv
    rw [chan_setChan_same, h]
  · rw [chan_setChan_ne s hv]

/-- An update that leaves the channel's state leaves the lamps. -/
theorem wheelUpdate_of_state {w : Wheel} {s : State} (h : (updatedChannel s w (chan s w)).state = (chan s w).state) :
    wheelUpdate w s = setChan s w { updatedChannel s w (chan s w) with timer := 2 } := by
  have hrest : atRest (setChan s w { updatedChannel s w (chan s w) with timer := 2 }) = atRest s := atRest_setChan h
  exact if_pos hrest

theorem updatedChannel_of_idle {s : State} {w : Wheel} {c : Channel}
    (h : c.state = .tripped ∨ c.state = .lockedOut ∨ (c.state = .drag ∧ inBand s (effective s .drive) = true)) :
    updatedChannel s w c = decayTrims c := by
  unfold updatedChannel
  obtain h | h | ⟨h, hband⟩ := h <;> rw [h]
  exact if_pos hband

theorem updatedChannel_of_stop {s : State} {w : Wheel} {c : Channel} (h : c.state = .run)
    (hband : inBand s (effective s .drive) = true) :
    updatedChannel s w c = decayTrims (toDrag (effective s .drag) c) := by
  unfold updatedChannel
  rw [h]
  exact if_pos hband

theorem updatedChannel_of_drive {s : State} {w : Wheel} {c : Channel} (h : c.state = .run ∨ c.state = .drag)
    (hband : inBand s (effective s .drive) = false) :
    updatedChannel s w c = chainStages s w (if c.state = .run then c else toRun c) := by
  have hno : ¬inBand s (effective s .drive) = true := by rw [hband]; decide
  unfold updatedChannel
  obtain h | h := h <;> rw [h]
  · exact (if_neg hno).trans rfl
  · exact (if_neg hno).trans rfl

/-- A channel out of RUN is shorted at its drag level in DRAG, and off elsewhere (R77). -/
theorem wheelBridge_idle {c : Channel} (h : c.state ≠ .run) :
    (c.state = .drag → 0 < c.dragLevel → wheelBridge c = .shorted c.dragLevel.toNat)
      ∧ (c.state ≠ .drag ∨ c.dragLevel = 0 → wheelBridge c = .off) := by
  unfold wheelBridge
  cases hstate : c.state with
  | run => exact absurd hstate h
  | drag => exact ⟨fun _ hlevel => if_neg (Int.ne_of_gt hlevel), fun hoff => if_pos (hoff.resolve_left fun hne => hne rfl)⟩
  | tripped => exact ⟨fun hdrag => (by cases hdrag), fun _ => rfl⟩
  | lockedOut => exact ⟨fun hdrag => (by cases hdrag), fun _ => rfl⟩

theorem wheelBridge_congr {c d : Channel} (hstate : d.state = c.state) (hdrag : d.dragLevel = c.dragLevel) (hduty : d.duty = c.duty) :
    wheelBridge d = wheelBridge c := by
  unfold wheelBridge
  rw [hstate, hdrag, hduty]

/-! ### The channels' timers -/

theorem exec_tripRetryExpiry (w : Wheel) (s : State) : exec (.tripRetryExpiry w) s = .next (retryExpires w s) := rfl

theorem exec_lockoutClearExpiry (w : Wheel) (s : State) : exec (.lockoutClearExpiry w) s = .next (lockoutClears w s) := rfl

theorem retryExpires_of_tripped {w : Wheel} {s : State} (h : (chan s w).state = .tripped) (hruns : (chan s w).retry.isSome = true) :
    retryExpires w s = lampsIfRest (atRest s)
      (setChan s w (if inBand s (effective s .drive) then toDrag (effective s .drag) (chan s w) else toRun (chan s w))) :=
  if_pos ⟨h, hruns⟩

theorem lockoutClears_of_lockedOut {w : Wheel} {s : State} (h : (chan s w).state = .lockedOut) (hruns : (chan s w).clear.isSome = true) :
    lockoutClears w s = setChan s w (clearedChannel (effective s .drag) (chan s w)) := if_pos ⟨h, hruns⟩

theorem isSome_eq_false_of_none {α : Type} {x : Option α} (h : x = none) : ¬x.isSome = true := by simp [h]

/-- Settles O36. -/
theorem channelsOutsideRun : Obligations.ChannelsOutsideRun := by
  refine ⟨fun s w => ?updates, fun s w => ?timers⟩
  case updates =>
    intro c band
    refine ⟨fun hidle => ?_, fun hrun hband => ?_⟩
    · have hidle' : c.state = .tripped ∨ c.state = .lockedOut ∨ (c.state = .drag ∧ inBand s (effective s .drive) = true) := by
        rw [inBand_eq_true_iff]
        exact hidle
      have hupdated : updatedChannel s w (chan s w) = decayTrims c := updatedChannel_of_idle hidle'
      have hwheel : wheelUpdate w s = setChan s w { decayTrims c with timer := 2 } := by
        rw [wheelUpdate_of_state (by rw [hupdated]; rfl), hupdated]
      have hchan : chan (wheelUpdate w s) w = { c with slip := c.slip - 2, limiter := c.limiter - 5, timer := 2 } := by
        rw [hwheel, chan_setChan_same]
        rfl
      have hrest : c.state ≠ .run := by
        obtain h | h | ⟨h, -⟩ := hidle <;> rw [h] <;> decide
      obtain ⟨hshort, hoff⟩ := wheelBridge_idle hrest
      refine ⟨_, exec_wheelUpdate w s, hchan, ?_, ?_, fun u hu => chan_wheelUpdate_ne hu s, by rw [hwheel]; exact setChan_frame s w _⟩ <;>
        rw [hchan]
      · exact hshort
      · exact hoff
    · have hchan := chan_wheelUpdate_same w s
      rw [updatedChannel_of_stop hrun ((inBand_eq_true_iff s _).mpr hband)] at hchan
      refine ⟨_, exec_wheelUpdate w s, ?_, ?_, ?_, ?_, ?_, ?_, fun u hu => chan_wheelUpdate_ne hu s, wheelUpdate_frame_only w s⟩ <;>
        rw [hchan] <;> rfl
  case timers =>
    intro c band
    refine ⟨fun htripped hruns => ?retry, fun hno => ?noRetry, fun hlocked hruns => ?clear, fun hno => ?noClear,
      fun hstill => ?still, fun hmoving => ?moving⟩
    case retry =>
      have hretry := retryExpires_of_tripped htripped hruns
      have hchan : chan (retryExpires w s) w = if inBand s (effective s .drive) then toDrag (effective s .drag) c else toRun c := by
        rw [hretry, chan_lampsIfRest, chan_setChan_same]
      refine ⟨_, exec_tripRetryExpiry w s, ?_, ?_, ?_, ?_, fun hband => ?_, fun u hu => ?_, ?_⟩
      · rw [hchan, apply_ite Channel.state]
        exact if_congr (inBand_eq_true_iff s _) rfl rfl
      · rw [hchan]
        split <;> rfl
      · rw [hchan]
        split <;> rfl
      · rw [hchan]
        split <;> rfl
      · rw [hchan, if_pos ((inBand_eq_true_iff s _).mpr hband)]
        rfl
      · rw [hretry, chan_lampsIfRest, chan_setChan_ne s hu]
      · rw [hretry]
        exact ((setChan_frame s w _).mono (by decide)).trans ((lampsIfRest_frame _ _).mono (by decide))
    case noRetry =>
      have hnone : retryExpires w s = s :=
        if_neg fun ⟨hstate, hruns⟩ => hno.elim (fun h => h hstate) fun h => isSome_eq_false_of_none h hruns
      rw [exec_tripRetryExpiry, hnone]
    case clear =>
      have hclear := lockoutClears_of_lockedOut hlocked hruns
      have hchan : chan (lockoutClears w s) w = clearedChannel (effective s .drag) c := by rw [hclear, chan_setChan_same]
      refine ⟨_, exec_lockoutClearExpiry w s, ?_, ?_, ?_, ?_, ?_, ?_, fun u hu => ?_, ?_⟩
      case refine_7 => rw [hclear, chan_setChan_ne s hu]
      case refine_8 => rw [hclear]; exact setChan_frame s w _
      all_goals rw [hchan]; rfl
    case noClear =>
      have hnone : lockoutClears w s = s :=
        if_neg fun ⟨hstate, hruns⟩ => hno.elim (fun h => h hstate) fun h => isSome_eq_false_of_none h hruns
      rw [exec_lockoutClearExpiry, hnone]
    case still =>
      have hexpires : stillExpires s = s.setDrive { s.drive with still := 500 } := if_pos ((allStill_iff s).mpr hstill)
      exact congrArg Host.Outcome.next hexpires
    case moving =>
      have hexpires : stillExpires s = s := if_neg (by rw [(allStill_eq_false_iff s).mpr hmoving]; decide)
      exact congrArg Host.Outcome.next hexpires

/-! ### The drive chain -/

theorem natAbs_tdiv_le {n : Int} {d k : Nat} (h : n.natAbs ≤ d * k) : (n.tdiv d).natAbs ≤ k := by
  rw [Int.natAbs_tdiv, Int.natAbs_natCast]
  exact Nat.div_le_of_le_mul h

/-- A product with a factor of at most one loses magnitude (R83). -/
theorem natAbs_scaled_le {a b : Int} {d : Nat} (hb : b.natAbs ≤ d) : ((a * b).tdiv d).natAbs ≤ a.natAbs := by
  refine natAbs_tdiv_le ?_
  rw [Int.natAbs_mul, Nat.mul_comm]
  exact Nat.mul_le_mul_right _ hb

theorem qualifies_eq (c : Channel) : qualifies c = decide (c.state = .run ∧ 50 ≤ c.command.natAbs ∧ c.ratio ≠ 0) := by
  rw [Bool.eq_iff_iff]
  simp [qualifies, and_assoc]

theorem slips_iff (s : State) (w : Wheel) (c : Channel) : slips s w c = true ↔
    qualifies c = true ∧ otherQualifying s w ≠ [] ∧ 50 ≤ meanNorm (otherQualifying s w)
      ∧ meanNorm (otherQualifying s w) * (100 + s.profile.drive.slipMargin) / 100 < normSpeed c := by
  simp [slips, and_assoc]

theorem channel_of_run {c : Channel} (h : c.state = .run) {command ratio : Int} :
    { c with state := .run, command := command, ratio := ratio } = { c with command := command, ratio := ratio } := by
  cases c
  cases h
  rfl

/-- Settles O35. -/
theorem wheelUpdateRunsTheChain : Obligations.WheelUpdateRunsTheChain := by
  intro s w hstate hband c top ratio r v x limit command qualifies' speed own others mean slipping slip limiter target moved
    duty reverse
  have hband' : inBand s (effective s .drive) = false := (inBand_eq_false_iff s _).mpr hband
  have hrun : c.state = .run := by
    show (if (chan s w).state = .run then chan s w else toRun (chan s w)).state = .run
    split
    next h => exact h
    next => rfl
  have hqualifies : qualifies' = qualifies := funext fun u => (qualifies_eq u).symm
  have hothers : others = otherQualifying s w := by
    show List.filter qualifies' _ = _
    rw [hqualifies]
    cases w <;> rfl
  have hcommand : wheelCommand s w = command := by
    show (if busy s = true then _ else x) = if s.steering.state = .slewing then _ else x
    exact if_congr (by simp [busy]) rfl rfl
  have hown : own = { c with command := wheelCommand s w, ratio := s.steering.geometry.ratios.get w } := by
    rw [hcommand]
    exact channel_of_run hrun
  have hslips : slips s w own = true ↔ slipping := by
    rw [slips_iff, ← hothers, ← hqualifies]
    rfl
  have hslip : slipAfter (slips s w own) c.slip = slip := if_congr hslips rfl rfl
  have hchan : chan (wheelUpdate w s) w =
            { c with
              state := .run, command := command, ratio := ratio, slip := slip, limiter := limiter, target := target
              duty := duty
              lastReverse := reverse
              speed := if reverse then -(c.speed.natAbs : Int) else c.speed.natAbs
              claim := s.profile.drive.imax * command.natAbs / 1000
              timer := 2 } := by
    rw [chan_wheelUpdate_same, updatedChannel_of_drive hstate hband']
    show { chainStages s w c with timer := 2 } = _
    rw [chainStages, ← hown, hslip]
    rfl
  refine ⟨⟨_, exec_wheelUpdate w s, hchan, ?_, fun u hu => chan_wheelUpdate_ne hu s, wheelUpdate_frame_only w s⟩, fun he hcap hratio => ?_⟩
  · rw [hchan]
    rfl
  · refine ⟨natAbs_scaled_le hratio, natAbs_scaled_le (by rwa [Int.natAbs_natCast]), ?_⟩
    refine natAbs_tdiv_le (d := 1000) ?_
    rw [Int.natAbs_mul, Int.natAbs_natCast]
    exact Nat.mul_le_mul_right _ he

end Sys2Proof.Machine
end

section
/-! PROOFS. Current sweeps: the samples at the wheels, trips, and what the readings leave. -/
namespace Sys2Proof.Machine

/-! ### Notices that stay pending -/

/-- Every pending notice stays pending. -/
def NoticesStay (s t : State) : Prop :=
  (∀ i, s.notices.radio.getLsbD i = true → t.notices.radio.getLsbD i = true)
    ∧ (∀ i, s.notices.comp.getLsbD i = true → t.notices.comp.getLsbD i = true)

theorem NoticesStay.of_notices {s t : State} (h : t.notices = s.notices) : NoticesStay s t := by
  unfold NoticesStay
  rw [h]
  exact ⟨fun _ => id, fun _ => id⟩

theorem NoticesStay.trans {s t u : State} (h : NoticesStay s t) (h' : NoticesStay t u) : NoticesStay s u :=
  ⟨fun i hi => h'.1 i (h.1 i hi), fun i hi => h'.2 i (h.2 i hi)⟩

theorem noticesStay_raise (k : Notice) (s : State) : NoticesStay s (raise k s) := by
  have hstays : ∀ (set mask : BitVec 16) i, set.getLsbD i = true → (raiseIn set mask k).getLsbD i = true := by
    intro set mask i hi
    rw [getLsbD_raiseIn _ _ _ (BitVec.lt_of_getLsbD hi), hi, Bool.true_or]
  exact ⟨hstays _ _, hstays _ _⟩

theorem Raised.stay {k : Notice} {s t u : State} (h : Raised k s t) (h' : NoticesStay t u) : Raised k s u :=
  ⟨fun hm => h'.1 _ (h.1 hm), fun hm => h'.2 _ (h.2 hm)⟩

/-! ### Samples -/

theorem chan_sampleWheel_same (w : Wheel) (current : Nat) (s : State) :
    chan (sampleWheel w current s) w = sampledChannel s current (chan s w) := by
  rw [sampleWheel, (tripNotices_frame _ _ _).chan (by decide), chan_setChan_same]

theorem chan_sampleWheel_ne {w v : Wheel} (h : v ≠ w) (current : Nat) (s : State) :
    chan (sampleWheel w current s) v = chan s v := by
  rw [sampleWheel, (tripNotices_frame _ _ _).chan (by decide), chan_setChan_ne _ h]

/-- A sample reads the sections, the clock and the effective DRIVE alone. -/
theorem sampledChannel_congr {s t : State} (h : SameExcept (.sense :: sampleTouches) s t) (current : Nat) (c : Channel) :
    sampledChannel t current c = sampledChannel s current c := by
  have hprofile : t.profile = s.profile := h .profile (by decide)
  have hclock : t.nowMs = s.nowMs := h .clock (by decide)
  have hdrive : effective t .drive = effective s .drive := h.effective (by decide) .drive
  unfold sampledChannel inBand
  rw [hprofile, hclock, hdrive]

theorem noticesStay_tripNotices (before after : ChanState) (s : State) : NoticesStay s (tripNotices before after s) := by
  have hkeep : NoticesStay s s := .of_notices rfl
  unfold tripNotices
  split
  · exact hkeep
  · split
    · exact noticesStay_raise _ s
    · split
      · exact (noticesStay_raise _ s).trans (noticesStay_raise _ _)
      · exact hkeep

theorem noticesStay_sampleWheel (w : Wheel) (current : Nat) (s : State) : NoticesStay s (sampleWheel w current s) := by
  have hset : NoticesStay s (setChan s w (sampledChannel s current (chan s w))) :=
    .of_notices (setChan_frame _ _ _ .notices (by decide))
  exact hset.trans (noticesStay_tripNotices _ _ _)

/-- The notices that a sample's change of state raises (R92, R94). -/
def TripRaised (before after : ChanState) (s t : State) : Prop :=
  (before ≠ after → after = .tripped ∨ after = .lockedOut → Raised .wheelTrip s t)
    ∧ (before ≠ after → after = .lockedOut → Raised .wheelLockout s t)

theorem tripRaised_tripNotices (before after : ChanState) (s : State) : TripRaised before after s (tripNotices before after s) := by
  unfold tripNotices
  refine ⟨fun hne hafter => ?_, fun hne hafter => ?_⟩
  · rw [if_neg hne]
    obtain rfl | rfl := hafter
    · exact raised_raise .wheelTrip s
    · exact (raised_raise .wheelTrip s).stay (noticesStay_raise _ _)
  · subst hafter
    rw [if_neg hne]
    exact (raised_raise .wheelLockout _).of_profile rfl

theorem TripRaised.stay {before after : ChanState} {s t u : State} (h : TripRaised before after s t) (h' : NoticesStay t u) :
    TripRaised before after s u := ⟨fun hne ha => (h.1 hne ha).stay h', fun hne ha => (h.2 hne ha).stay h'⟩

theorem TripRaised.of_profile {before after : ChanState} {s t u : State} (h : TripRaised before after s t)
    (hp : s.profile = u.profile) : TripRaised before after u t :=
  ⟨fun hne ha => (h.1 hne ha).of_profile hp, fun hne ha => (h.2 hne ha).of_profile hp⟩

/-- The wheels take their samples, each as it would alone (R91, R118). -/
theorem chan_samples (r : PerWheel Int) (ws : List Wheel) (hws : ws.Nodup) (s : State) (w : Wheel) :
    chan (ws.foldl (fun s w => sampleWheel w (r.get w).natAbs s) s) w
      = if w ∈ ws then sampledChannel s (r.get w).natAbs (chan s w) else chan s w := by
  induction ws generalizing s with
  | nil => rfl
  | cons v ws ih =>
    obtain ⟨hv, hws⟩ := List.nodup_cons.mp hws
    have hframe : SameExcept (.sense :: sampleTouches) s (sampleWheel v (r.get v).natAbs s) :=
      (sampleWheel_frame v _ s).mono (by decide)
    rw [List.foldl_cons, ih hws, sampledChannel_congr hframe]
    by_cases hw : w = v
    · subst hw
      rw [if_neg hv, if_pos List.mem_cons_self, chan_sampleWheel_same]
    · rw [chan_sampleWheel_ne hw]
      exact if_congr (by simp [hw]) rfl rfl

theorem tripRaised_samples (r : PerWheel Int) (ws : List Wheel) (hws : ws.Nodup) (s : State) {w : Wheel} (hw : w ∈ ws) :
    TripRaised (chan s w).state (sampledChannel s (r.get w).natAbs (chan s w)).state s
      (ws.foldl (fun s w => sampleWheel w (r.get w).natAbs s) s) := by
  have hstay : ∀ (vs : List Wheel) (u : State), NoticesStay u (vs.foldl (fun s w => sampleWheel w (r.get w).natAbs s) u) := by
    intro vs
    induction vs with
    | nil => exact fun u => .of_notices rfl
    | cons v vs ih => exact fun u => (noticesStay_sampleWheel v _ u).trans (ih _)
  induction ws generalizing s with
  | nil => cases hw
  | cons v ws ih =>
    obtain ⟨hv, hws⟩ := List.nodup_cons.mp hws
    have hframe : SameExcept (.sense :: sampleTouches) s (sampleWheel v (r.get v).natAbs s) :=
      (sampleWheel_frame v _ s).mono (by decide)
    rw [List.foldl_cons]
    obtain rfl | hw := List.mem_cons.mp hw
    · have hhead : TripRaised (chan s w).state (sampledChannel s (r.get w).natAbs (chan s w)).state s
          (sampleWheel w (r.get w).natAbs s) := (tripRaised_tripNotices _ _ _).of_profile rfl
      exact hhead.stay (hstay _ _)
    · have hne : w ≠ v := fun h => hv (h ▸ hw)
      have htail := ih hws (sampleWheel v (r.get v).natAbs s) hw
      rw [sampledChannel_congr hframe, chan_sampleWheel_ne hne] at htail
      exact htail.of_profile (hframe .profile (by decide))

/-! ### The completion of a current sweep -/

theorem exec_currentSweepComplete (codes : CurrentCodes) (s : State) :
    exec (.currentSweepComplete codes) s = .next (currentsComplete codes s) := rfl

/-- The state whose wheels sample: the readings replaced, and the sweep over (R118). -/
def currentsRead (codes : CurrentCodes) (s : State) : State :=
  s.setSense
    { s.sense with
      currents := some (readCurrents (sweepShunts s) codes), currentSweeps := s.sense.currentSweeps + 1, currentSweep := none }

theorem currentsComplete_eq (codes : CurrentCodes) (s : State) : currentsComplete codes s =
    lampsIfRest (atRest s) (packCurrentHanded (readCurrents (sweepShunts s) codes).pack
      ((sampleWheels (readCurrents (sweepShunts s) codes).wheels (currentsRead codes s)).setWinch
        { (sampleWheels (readCurrents (sweepShunts s) codes).wheels (currentsRead codes s)).winch with
          current := (readCurrents (sweepShunts s) codes).winch.natAbs })) := by
  unfold currentsComplete currentsRead
  rfl

theorem currentsComplete_frame_samples (codes : CurrentCodes) (s : State) :
    SameExcept [.winch, .protection, .lamps]
      (sampleWheels (readCurrents (sweepShunts s) codes).wheels (currentsRead codes s)) (currentsComplete codes s) := by
  rw [currentsComplete_eq]
  exact (((setWinch_frame_only _ _).mono (by decide)).trans ((packCurrentHanded_frame_only _ _).mono (by decide))).trans
    ((lampsIfRest_frame _ _).mono (by decide))

/-- Each wheel after the completion is as its own sample leaves it. -/
theorem chan_currentsComplete (codes : CurrentCodes) (s : State) (w : Wheel) : chan (currentsComplete codes s) w =
    sampledChannel s ((readCurrents (sweepShunts s) codes).wheels.get w).natAbs (chan s w) := by
  have hframe : SameExcept (.sense :: sampleTouches) s (currentsRead codes s) := (setSense_frame_only s _).mono (by decide)
  rw [(currentsComplete_frame_samples codes s).chan (by decide), sampleWheels, chan_samples _ _ (by decide),
    if_pos (by cases w <;> decide), sampledChannel_congr hframe]
  rfl

theorem tripRaised_currentsComplete (codes : CurrentCodes) (s : State) (w : Wheel) :
    TripRaised (chan s w).state (chan (currentsComplete codes s) w).state s (currentsComplete codes s) := by
  have hframe : SameExcept (.sense :: sampleTouches) s (currentsRead codes s) := (setSense_frame_only s _).mono (by decide)
  have hsamples := tripRaised_samples (readCurrents (sweepShunts s) codes).wheels Wheel.all (by decide) (currentsRead codes s)
    (w := w) (by cases w <;> decide)
  rw [sampledChannel_congr hframe] at hsamples
  rw [chan_currentsComplete]
  exact (hsamples.of_profile rfl).stay (.of_notices (currentsComplete_frame_samples codes s .notices (by decide)))

/-! ### Trips -/

theorem sampledChannel_of_third {s : State} {current : Nat} {c : Channel} (hstate : c.state = .run ∨ c.state = .drag)
    (hover : s.profile.drive.tripLevel < current) (hcount : c.overs = 2) :
    sampledChannel s current c =
      if (tripsAfter s.nowMs s.profile.drive.tripWindow c.trips).length < s.profile.drive.tripCount then
        { c with
          state := .tripped, current := current, command := 0, target := 0, duty := 0, claim := 0, overs := 0
          trips := tripsAfter s.nowMs s.profile.drive.tripWindow c.trips, retry := some 200, clear := none }
      else
        { c with
          state := .lockedOut, current := current, command := 0, target := 0, duty := 0, claim := 0, overs := 0
          trips := tripsAfter s.nowMs s.profile.drive.tripWindow c.trips, retry := none
          clear := if inBand s (effective s .drive) then some 0 else none } := by
  have hthird : ¬overAfter s.profile.drive.tripLevel current c.overs < Config.tripSamples := by
    rw [overAfter, if_pos hover, hcount]
    decide
  exact (if_pos hstate).trans (if_neg hthird)

theorem sampledChannel_of_fewer {s : State} {current : Nat} {c : Channel} (hstate : c.state = .run ∨ c.state = .drag)
    (hfew : overAfter s.profile.drive.tripLevel current c.overs < 3) :
    sampledChannel s current c =
      { c with current := current, overs := overAfter s.profile.drive.tripLevel current c.overs } :=
  (if_pos hstate).trans (if_pos hfew)

/-- Settles O37. -/
theorem thirdSampleTrips : Obligations.ThirdSampleTrips := by
  intro s codes w hstate c p sample trips
  have hchan : chan (currentsComplete codes s) w = sampledChannel s sample c := chan_currentsComplete codes s w
  have hraised := tripRaised_currentsComplete codes s w
  refine ⟨fun hover hcount hfew => ?_, fun hover hcount hmany => ?_, fun hover hcount => ?_, fun hunder => ?_⟩
  · rw [sampledChannel_of_third hstate hover hcount, if_pos (by exact hfew)] at hchan
    rw [hchan] at hraised
    refine ⟨_, exec_currentSweepComplete codes s, hchan, hraised.1 (fun h => ?_) (.inl rfl)⟩
    exact hstate.elim (fun h' => by cases h'.symm.trans h) fun h' => by cases h'.symm.trans h
  · rw [sampledChannel_of_third hstate hover hcount, if_neg (by exact Nat.not_lt.mpr hmany)] at hchan
    rw [hchan] at hraised
    have hne : c.state ≠ .lockedOut := fun h =>
      hstate.elim (fun h' => by cases h'.symm.trans h) fun h' => by cases h'.symm.trans h
    refine ⟨_, exec_currentSweepComplete codes s, hchan.trans ?_, hraised.1 hne (.inr rfl), hraised.2 hne rfl⟩
    rw [if_congr (inBand_eq_true_iff s _) rfl rfl]
    rfl
  · refine ⟨_, exec_currentSweepComplete codes s, hchan.trans ?_⟩
    have hafter : overAfter s.profile.drive.tripLevel sample c.overs = c.overs + 1 := if_pos hover
    have hfew : overAfter s.profile.drive.tripLevel sample c.overs < 3 := by rw [hafter]; omega
    rw [sampledChannel_of_fewer hstate hfew, hafter]
  · refine ⟨_, exec_currentSweepComplete codes s, hchan.trans ?_⟩
    have hafter : overAfter s.profile.drive.tripLevel sample c.overs = 0 := if_neg (Nat.not_lt.mpr hunder)
    have hfew : overAfter s.profile.drive.tripLevel sample c.overs < 3 := by rw [hafter]; decide
    rw [sampledChannel_of_fewer hstate hfew, hafter]

/-! ### Readings -/

theorem sampledChannel_current (s : State) (current : Nat) (c : Channel) : (sampledChannel s current c).current = current := by
  unfold sampledChannel
  dsimp only
  split
  · split
    · rfl
    · split <;> rfl
  · rfl

/-- A recovery test moves the recovery dwell timer alone, and in CUTOFF alone (R137). -/
theorem recoveryTest_protection (s : State) : (recoveryTest s).protection =
    { s.protection with
      recovery :=
        if s.protection.state = .cutoff then
          if s.protection.cellOk = true ∧ s.protection.currentOk = true ∧ s.protection.driveOk = true then
            some (s.protection.recovery.getD 0)
          else none
        else s.protection.recovery } := by
  unfold recoveryTest
  split
  · simp [and_assoc]
  · rfl

theorem packCurrentHanded_protection (ip : Int) (s : State) : (packCurrentHanded ip s).protection =
    { s.protection with
      ip := ip, currentOk := decide (ip < (s.profile.pack.recoveryCurrent : Int))
      recovery :=
        if s.protection.state = .cutoff then
          if s.protection.cellOk = true ∧ ip < (s.profile.pack.recoveryCurrent : Int) ∧ s.protection.driveOk = true then
            some (s.protection.recovery.getD 0)
          else none
        else s.protection.recovery } := by
  rw [packCurrentHanded, recoveryCurrentTest, recoveryTest_protection]
  have hconditions : (s.protection.cellOk = true ∧ decide (ip < (s.profile.pack.recoveryCurrent : Int)) = true
      ∧ s.protection.driveOk = true)
      ↔ s.protection.cellOk = true ∧ ip < (s.profile.pack.recoveryCurrent : Int) ∧ s.protection.driveOk = true := by
    rw [decide_eq_true_iff]
  exact congrArg (fun r : Option Nat =>
      { s.protection with ip := ip, currentOk := decide (ip < (s.profile.pack.recoveryCurrent : Int)), recovery := r })
    (if_congr (Iff.refl (s.protection.state = .cutoff)) (if_congr hconditions rfl rfl) rfl)

theorem exec_cellSweepSlotStart (s : State) : exec .cellSweepSlotStart s = .next (slotStarts s) := rfl

/-- Settles O43. -/
theorem sweepsStartAndRead : Obligations.SweepsStartAndRead := by
  refine ⟨fun s codes => ?currents, fun s => ?slots⟩
  case currents =>
    intro reading live p
    refine ⟨⟨sweepStarts s, rfl, rfl, setSense_frame_only s _⟩, _, exec_currentSweepComplete codes s, ?_⟩
    have hsamples := (sampleWheels_frame (readCurrents (sweepShunts s) codes).wheels (currentsRead codes s))
    have hcurrent : ∀ w, (chan (currentsComplete codes s) w).current
        = ((readCurrents (sweepShunts s) codes).wheels.get w).natAbs := fun w => by
      rw [chan_currentsComplete, sampledChannel_current]
    refine ⟨?_, hcurrent .fl, hcurrent .fr, hcurrent .rl, hcurrent .rr, ?_, ?_, ?_⟩
    · exact (currentsComplete_frame_samples codes s .sense (by decide)).trans (hsamples .sense (by decide))
    · rw [currentsComplete_eq, (lampsIfRest_frame _ _ .winch (by decide) : (lampsIfRest _ _).winch = _),
        (packCurrentHanded_frame_only _ _ .winch (by decide) : (packCurrentHanded _ _).winch = _), State.setWinch_winch,
        (hsamples .winch (by decide) : _ = (currentsRead codes s).winch)]
      rfl
    · intro ip low
      rw [currentsComplete_eq, (lampsIfRest_frame _ _ .protection (by decide) : (lampsIfRest _ _).protection = _),
        packCurrentHanded_protection, State.setWinch_protection, State.setWinch_profile,
        (hsamples .protection (by decide) : _ = (currentsRead codes s).protection),
        (hsamples .profile (by decide) : _ = (currentsRead codes s).profile)]
      rfl
    · exact (((setSense_frame_only s _).mono (by decide)).trans (hsamples.mono (by decide))).trans
        ((currentsComplete_frame_samples codes s).mono (by decide))
  case slots =>
    intro kept
    refine ⟨fun hdue hcount hswept => ?_, fun hno => ?_⟩
    · have hstart : slotStarts s = s.setSense
          { s.sense with slot := .check, tapSweep := some kept, checkDue := false, slotCounter := 0, slotTimer := 20 } :=
        if_pos (by rw [checkNext, hdue, hcount, hswept]; rfl)
      exact ⟨_, exec_cellSweepSlotStart s, by rw [hstart]; rfl, by rw [hstart]; exact setSense_frame_only s _⟩
    · have hnext : ¬checkNext s.sense = true := by
        unfold checkNext
        obtain h | h | h := hno <;> simp [h]
      have hstart : slotStarts s = s.setSense { s.sense with slot := .cell, tapSweep := some kept, slotTimer := 20 } := if_neg hnext
      exact ⟨_, exec_cellSweepSlotStart s, by rw [hstart]; rfl, by rw [hstart]; exact setSense_frame_only s _⟩

end Sys2Proof.Machine
end

section
/-! PROOFS. The tap converter: the cell sweep with its count and corrected minimum, and the lead check. -/
namespace Sys2Proof.Machine

/-! ### What a resolution leaves of Pack Protection's record -/

/-- A property of Pack Protection's record alone that the test of the third recovery condition keeps, is kept by
resolutions. -/
theorem resolverKept_of_protection {P : State → Prop} (hreads : Reads [.protection] P)
    (htest : ∀ {s : State}, P s → P (recoveryDriveTest s)) : ResolverKept P := by
  have hcommit : ∀ {s : State} (f : Fn) (e : Eff), P s → P (commitEff f e s) := by
    intro s f e hs
    have hhand : ∀ z {t : State}, P t → P (handUnderlying z t) := by
      intro z t ht
      unfold handUnderlying
      split
      · exact htest ht
      · exact ht
    unfold commitEff
    refine hhand _ ?_
    split
    · exact hreads.keep (setEff_frame s f e) (by decide) hs
    · exact hreads.keep (handOn_frame f _) (by decide) (hreads.keep (setEff_frame s f e) (by decide) hs)
  exact {
    beside := fun h => hreads.keep h (by decide)
    slot := fun m f x _ => hreads.keep (setSlot_frame _ m f x) (by decide)
    grant := fun f g => hreads.keep (setGrant_frame _ f g) (by decide)
    resolve := by
      intro s f byMark hs
      cases hbusy : consumerBusy s f with
      | true => rw [resolve_of_busy hbusy]; exact hs
      | false =>
        rw [resolve_of_free hbusy]
        exact hcommit f _ (hreads.keep (takeSlots_frame f s) (by decide) hs)
    blendStep := by
      intro s f hs
      unfold blendStep
      split
      · exact hs
      · exact hcommit f _ (hreads.keep (takeSlots_frame f _) (by decide) (hreads.keep (setEff_frame s f _) (by decide) hs)) }

/-- What is measured or tested, the recovery conditions on cells and DRIVE aside, is the same in both records. -/
structure SameMeasures (v w : Protection) : Prop where
  vmin : w.vmin = v.vmin
  thresholds : w.thresholds = v.thresholds
  ip : w.ip = v.ip
  blind : w.blind = v.blind
  currentOk : w.currentOk = v.currentOk

theorem SameMeasures.refl (v : Protection) : SameMeasures v v := ⟨rfl, rfl, rfl, rfl, rfl⟩

theorem SameMeasures.trans {u v w : Protection} (h : SameMeasures u v) (h' : SameMeasures v w) : SameMeasures u w :=
  ⟨h'.vmin.trans h.vmin, h'.thresholds.trans h.thresholds, h'.ip.trans h.ip, h'.blind.trans h.blind,
    h'.currentOk.trans h.currentOk⟩

theorem SameMeasures.of_eq {v w : Protection} (h : w = v) : SameMeasures v w := h ▸ .refl v

theorem sameMeasures_recoveryDriveTest (s : State) : SameMeasures s.protection (recoveryDriveTest s).protection := by
  obtain ⟨r, d, h⟩ := recoveryDriveTest_protection s
  rw [h]
  exact ⟨rfl, rfl, rfl, rfl, rfl⟩

theorem sameMeasures_recoveryCellTest (s : State) : SameMeasures s.protection (recoveryCellTest s).protection := by
  rw [recoveryCellTest, recoveryTest_protection]
  exact ⟨rfl, rfl, rfl, rfl, rfl⟩

theorem sameMeasures_retarget (s : State) : SameMeasures s.protection (retarget s).protection := ⟨rfl, rfl, rfl, rfl, rfl⟩

theorem setProtState_protection (st : ProtState) (s : State) :
    (setProtState st s).protection = { s.protection with state := st } := by
  unfold setProtState
  split
  next h => rw [← h]
  next => rw [(lampResolve_frame _ .protection (by decide) : (lampResolve _).protection = _)]; rfl

theorem evaluateState_eq_of_judging {s : State} {m : VMin} (hmin : s.protection.vmin = some m)
    (hjudging : judging s.protection.state = true) : evaluateState s =
      (setProtState (stateAfter s.protection.thresholds s.protection.state m.volts) s).setProtection
        { s.protection with
          state := stateAfter s.protection.thresholds s.protection.state m.volts
          dwell := dwellAfter s.protection.thresholds m.volts s.protection.dwell } := by
  unfold evaluateState
  rw [hmin]
  dsimp only
  rw [if_pos hjudging, setProtState_protection]

theorem evaluateState_of_not_judging {s : State} (hjudging : judging s.protection.state = false) : evaluateState s = s := by
  unfold evaluateState
  rw [hjudging]
  split <;> rfl

theorem evaluateState_of_no_minimum {s : State} (hmin : s.protection.vmin = none) : evaluateState s = s := by
  unfold evaluateState
  rw [hmin]

theorem sameMeasures_evaluateState (s : State) : SameMeasures s.protection (evaluateState s).protection := by
  cases hmin : s.protection.vmin with
  | none => exact .of_eq (by rw [evaluateState_of_no_minimum hmin])
  | some m =>
    cases hjudging : judging s.protection.state with
    | false => exact .of_eq (by rw [evaluateState_of_not_judging hjudging])
    | true =>
      rw [evaluateState_eq_of_judging hmin hjudging]
      exact ⟨rfl, rfl, rfl, rfl, rfl⟩

/-- Resolutions keep what is measured (R130, R137). -/
theorem resolverKept_sameMeasures (v : Protection) : ResolverKept fun s => SameMeasures v s.protection :=
  resolverKept_of_protection
    (fun _ _ hsame hs => hs.trans (.of_eq (hsame .protection (by decide))))
    fun hs => hs.trans (sameMeasures_recoveryDriveTest _)

theorem sameMeasures_fillLockout (s : State) : SameMeasures s.protection (fillLockout s).protection :=
  (resolverKept_sameMeasures s.protection).fillLockout (fun _ h => h) (.refl _)

/-- The latch is set and the state is CUTOFF (R135). -/
def cutoffSet (why : LatchReason) (s : State) : State :=
  (s.setRetained { s.retained with latch := some why }).setProtection
    { s.protection with state := .cutoff, dwell := none, recovery := none }

/-- The lockout set is filled at the entry to CUTOFF (R41, R135). -/
def cutoffFilled (why : LatchReason) (s : State) : State := fillLockout (cutoffSet why s)

theorem enterCutoff_eq (why : LatchReason) (s : State) :
    enterCutoff why s = recoveryDriveTest (lampResolve (raise .packState (retarget (cutoffFilled why s)))) := rfl

theorem raised_ends_protection (s : State) :
    (lampResolve (raise .packState (retarget s))).protection = (retarget s).protection :=
  (lampResolve_frame (raise .packState (retarget s)) .protection (by decide)).trans
    (raise_frame .packState (retarget s) .protection (by decide))

theorem sameMeasures_enterCutoff (why : LatchReason) (s : State) :
    SameMeasures s.protection (enterCutoff why s).protection := by
  have hfilled : SameMeasures s.protection (cutoffFilled why s).protection :=
    SameMeasures.trans (v := (cutoffSet why s).protection) ⟨rfl, rfl, rfl, rfl, rfl⟩ (sameMeasures_fillLockout _)
  have hends := (sameMeasures_retarget (cutoffFilled why s)).trans (.of_eq (raised_ends_protection _))
  rw [enterCutoff_eq]
  exact (hfilled.trans hends).trans (sameMeasures_recoveryDriveTest _)

theorem sameMeasures_nopackHanded (s : State) : SameMeasures s.protection (nopackHanded s).protection := by
  unfold nopackHanded
  split
  · exact ⟨rfl, rfl, rfl, rfl, rfl⟩
  · exact sameMeasures_enterCutoff _ s

/-! ### The corrected minimum -/

/-- `m` is the least of the corrected voltages `v` of cells 1 to n, at the lowest-numbered cell that has it (R130). -/
structure IsLeast (v : Nat → Int) (n : Nat) (m : VMin) : Prop where
  from_one : 1 ≤ m.cell
  upto : m.cell ≤ n
  volts : m.volts = v m.cell
  least : ∀ i, 1 ≤ i → i ≤ n → m.volts ≤ v i
  first : ∀ i, 1 ≤ i → i < m.cell → m.volts < v i

theorem isLeast_one (v : Nat → Int) : IsLeast v 1 ⟨v 1, 1⟩ where
  from_one := Nat.le_refl 1
  upto := Nat.le_refl 1
  volts := rfl
  least i hi hi' := by rw [Nat.le_antisymm hi' hi]
  first i hi hi' := absurd hi' (Nat.not_lt.mpr hi)

theorem IsLeast.next {v : Nat → Int} {n : Nat} {m : VMin} (h : IsLeast v n m) :
    ∃ m', keepLower (some m) ⟨v (n + 1), n + 1⟩ = some m' ∧ IsLeast v (n + 1) m' := by
  obtain ⟨hone, hupto, hvolts, hleast, hfirst⟩ := h
  by_cases hlower : v (n + 1) < m.volts
  · refine ⟨_, if_pos hlower, Nat.le_add_left 1 n, Nat.le_refl _, rfl, fun i hi hi' => ?_, fun i hi hi' => ?_⟩
    · obtain hi' | rfl := Nat.le_succ_iff.mp hi'
      · exact Int.le_trans (Int.le_of_lt hlower) (hleast i hi hi')
      · exact Int.le_refl _
    · exact Int.lt_of_lt_of_le hlower (hleast i hi (Nat.le_of_lt_succ hi'))
  · refine ⟨_, if_neg hlower, hone, Nat.le_succ_of_le hupto, hvolts, fun i hi hi' => ?_, hfirst⟩
    obtain hi' | rfl := Nat.le_succ_iff.mp hi'
    · exact hleast i hi hi'
    · exact Int.not_lt.mp hlower

theorem correctedMin_zero (s : State) : correctedMin s 0 = none := rfl

theorem correctedMin_isLeast (s : State) {n : Nat} (hn : n ≠ 0) :
    ∃ m, correctedMin s n = some m ∧ IsLeast (correctedCell s n) n m := by
  have hupto : ∀ k, ∃ m, (List.range (k + 1)).foldl (fun m i => keepLower m ⟨correctedCell s n (i + 1), i + 1⟩) none = some m
      ∧ IsLeast (correctedCell s n) (k + 1) m := by
    intro k
    induction k with
    | zero => exact ⟨_, rfl, isLeast_one _⟩
    | succ k ih =>
      obtain ⟨m, hm, hleast⟩ := ih
      obtain ⟨m', hm', hleast'⟩ := hleast.next
      exact ⟨m', by rw [List.range_succ, List.foldl_append, hm]; exact hm', hleast'⟩
  obtain ⟨k, rfl⟩ := Nat.exists_eq_succ_of_ne_zero hn
  exact hupto k

/-! ### The cell count -/

/-- The length of the longest beginning of a run of numbers that all pass a test. -/
theorem takeWhile_range' (p : Nat → Bool) (a n : Nat) :
    ((List.range' a n).takeWhile p).length ≤ n
      ∧ (∀ i, a ≤ i → i < a + ((List.range' a n).takeWhile p).length → p i = true)
      ∧ (((List.range' a n).takeWhile p).length < n → p (a + ((List.range' a n).takeWhile p).length) = false) := by
  induction n generalizing a with
  | zero => exact ⟨Nat.le_refl 0, fun i hi hi' => absurd hi' (Nat.not_lt.mpr hi), fun h => absurd h (Nat.not_lt_zero _)⟩
  | succ n ih =>
    obtain ⟨hle, hpass, hstop⟩ := ih (a + 1)
    rw [List.range'_succ, List.takeWhile_cons]
    cases hp : p a with
    | false =>
      rw [if_neg Bool.false_ne_true, List.length_nil]
      exact ⟨Nat.zero_le _, fun i hi hi' => absurd hi' (Nat.not_lt.mpr hi), fun _ => hp⟩
    | true =>
      rw [if_pos rfl, List.length_cons]
      refine ⟨Nat.succ_le_succ hle, fun i hi hi' => ?_, fun h => ?_⟩
      · obtain rfl | hi := Nat.eq_or_lt_of_le hi
        · exact hp
        · exact hpass i hi (by omega)
      · rw [← hstop (Nat.lt_of_succ_lt_succ h)]
        congr 1
        omega

theorem countsAsCell_iff (v : Int) : countsAsCell v = true ↔ 2500 ≤ v ∧ v ≤ 4500 := by simp [countsAsCell]

theorem autoCount_spec (taps : Vector (Option Nat) 6) : autoCount taps ≤ 6
    ∧ (∀ i, 1 ≤ i → i ≤ autoCount taps → 2500 ≤ cellFrom taps i ∧ cellFrom taps i ≤ 4500)
    ∧ (autoCount taps < 6 → cellFrom taps (autoCount taps + 1) < 2500 ∨ 4500 < cellFrom taps (autoCount taps + 1)) := by
  obtain ⟨hle, hpass, hstop⟩ := takeWhile_range' (fun i => countsAsCell (cellFrom taps i)) 1 6
  refine ⟨hle, fun i hi hi' => (countsAsCell_iff _).mp (hpass i hi ?_), fun h => ?_⟩
  · exact Nat.lt_of_le_of_lt hi' (Nat.lt_add_of_pos_left Nat.one_pos)
  · have hnot : countsAsCell (cellFrom taps (autoCount taps + 1)) = false := by
      rw [Nat.add_comm]
      exact hstop h
    by_contra hin
    have hcell := (countsAsCell_iff (cellFrom taps (autoCount taps + 1))).mpr (by omega)
    rw [hnot] at hcell
    cases hcell

/-! ### The completion of a cell sweep -/

/-- The sense record that a cell sweep leaves (R121, R126). -/
def cellsSwept (codes : Vector Code 6) (s : State) : Sense :=
  sweptSense s.profile.pack.checkInterval (sweepTaps s).full s.sense codes

/-- The state whose cells Pack Protection judges: the sweep's record, and the thresholds in force with it (R130, R145). -/
def cellsJudged (codes : Vector Code 6) (s : State) : State :=
  takeMinimum ((cellsSwept codes s).count.getD 0) (takeThresholds (s.setSense (cellsSwept codes s)))

theorem exec_cellSweepComplete (codes : Vector Code 6) (s : State) :
    exec (.cellSweepComplete codes) s = .next (cellsComplete codes s) := rfl

theorem cellsComplete_eq (codes : Vector Code 6) (s : State) : cellsComplete codes s =
    recoveryCellTest (retarget (evaluateState
      (if foundNopack s.sense ((cellsSwept codes s).count.getD 0) then nopackHanded (cellsJudged codes s)
      else cellsJudged codes s))) := by
  unfold cellsComplete cellsHanded cellsJudged cellsSwept
  rfl

theorem cellsComplete_frame_swept (codes : Vector Code 6) (s : State) :
    SameExcept packTouches (s.setSense (cellsSwept codes s)) (cellsComplete codes s) := by
  unfold cellsComplete cellsSwept
  exact cellsHanded_frame _ _ _

theorem cellsComplete_sense (codes : Vector Code 6) (s : State) : (cellsComplete codes s).sense = cellsSwept codes s :=
  cellsComplete_frame_swept codes s .sense (by decide)

theorem cellsComplete_measures (codes : Vector Code 6) (s : State) :
    SameMeasures (cellsJudged codes s).protection (cellsComplete codes s).protection := by
  rw [cellsComplete_eq]
  refine SameMeasures.trans (SameMeasures.trans (SameMeasures.trans ?_ (sameMeasures_evaluateState _))
    (sameMeasures_retarget _)) (sameMeasures_recoveryCellTest _)
  split
  · exact sameMeasures_nopackHanded _
  · exact .refl _

theorem tapAt_cast (taps : Vector (Option Nat) 6) (k : Nat) :
    (tapAt taps k : Int) = if k = 0 then (0 : Int) else (((taps.toList.getD (k - 1) none).getD 0 : Nat) : Int) := by
  unfold tapAt
  split <;> rfl

/-- What Pack Protection judges at a completion: cells by their readings, or by the mean beside an open tap (R130, R131). -/
theorem correctedCell_cellsSwept (codes : Vector Code 6) (s : State) (n i : Nat) :
    correctedCell (takeThresholds (s.setSense (cellsSwept codes s))) n i =
      (if s.protection.blind = true ∧ (s.sense.openSet.getLsbD i = true ∨ s.sense.openSet.getLsbD (i - 1) = true) then
          ((((cellsSwept codes s).packVolts.getD 0 / n : Nat) : Int))
        else ((cellsSwept codes s).cells.toList.getD (i - 1) none).getD 0)
        + (s.protection.ip * s.profile.pack.rcell).tdiv 1000 := by
  have hopen : (s.protection.blind && nextToOpen s.sense.openSet i) = true
      ↔ s.protection.blind = true ∧ (s.sense.openSet.getLsbD i = true ∨ s.sense.openSet.getLsbD (i - 1) = true) := by
    simp [nextToOpen]
  exact congrArg (· + (s.protection.ip * (s.profile.pack.rcell : Int)).tdiv 1000) (if_congr hopen rfl rfl)

/-- Settles O44. -/
theorem cellSweepReadsAndJudges : Obligations.CellSweepReadsAndJudges := by
  refine ⟨fun s codes => ⟨_, exec_cellSweepComplete codes s, ?reads⟩, fun s codes => ⟨_, exec_cellSweepComplete codes s, ?judges⟩⟩
  case reads =>
    have hmeasures := cellsComplete_measures codes s
    intro n tap
    have htap : ∀ k, (tapAt (cellsSwept codes s).taps k : Int) = tap k := fun k => by
      rw [tapAt_cast, ← cellsComplete_sense]
    have hcell : ∀ i, cellFrom (cellsSwept codes s).taps i = tap i - tap (i - 1) := fun i => by
      rw [cellFrom, htap, htap]
    have hn : n = (cellsSwept codes s).count.getD 0 := by rw [← cellsComplete_sense]
    have hcount : ∀ k, s.sense.count = some k → (cellsSwept codes s).count = some k := fun k hk =>
      congrArg some (by rw [sweptCount, hk]; rfl)
    rw [cellsComplete_sense]
    refine ⟨fun i => ?_, hcount, fun hnone => ?_, fun i => ?_, ?_, rfl, rfl, rfl, rfl, rfl, hmeasures.thresholds, ?_, rfl, rfl,
      ((setSense_frame_only s _).mono (by decide)).trans ((cellsComplete_frame_swept codes s).mono (by decide))⟩
    · have hfull : (s.sense.tapSweep.map fun k => k.full).getD s.profile.pack.tapFull = (sweepTaps s).full := by
        unfold sweepTaps
        cases s.sense.tapSweep <;> rfl
      rw [hfull]
      exact vector_get_ofFn _ i
    · have hauto : n = autoCount (cellsSwept codes s).taps := by rw [hn, cellsSwept, sweptSense]; simp [sweptCount, hnone]
      obtain ⟨hle, hwithin, hstop⟩ := autoCount_spec (cellsSwept codes s).taps
      rw [← hauto] at hle hwithin hstop
      refine ⟨by rw [hn]; rfl, hle, fun i hi hi' => ?_, fun h => ?_⟩
      · rw [← hcell]
        exact hwithin i hi hi'
      · have hnext := hstop h
        rw [hcell] at hnext
        exact hnext
    · have hthis := hcell (i.val + 1)
      rw [Nat.add_sub_cancel] at hthis
      rw [hn, ← hthis]
      exact vector_get_ofFn _ i
    · rw [hn, ← htap]
      rfl
    · exact (Bool.or_eq_true _ _).to_iff.trans (or_congr Iff.rfl decide_eq_true_iff)
  case judges =>
    have hvmin : (cellsComplete codes s).protection.vmin =
        correctedMin (takeThresholds (s.setSense (cellsSwept codes s))) ((cellsSwept codes s).count.getD 0) :=
      (cellsComplete_measures codes s).vmin
    intro n cell corrected
    have hn : n = (cellsSwept codes s).count.getD 0 := by rw [← cellsComplete_sense]
    have hcorrected : ∀ i, correctedCell (takeThresholds (s.setSense (cellsSwept codes s))) n i = corrected i := fun i => by
      rw [correctedCell_cellsSwept, ← cellsComplete_sense]
    rw [hvmin, ← hn]
    refine ⟨fun h => by rw [h, correctedMin_zero], fun h => ?_⟩
    obtain ⟨m, hm, hleast⟩ := correctedMin_isLeast (takeThresholds (s.setSense (cellsSwept codes s))) h
    rw [funext hcorrected] at hleast
    exact ⟨m, hm, hleast.from_one, hleast.upto, hleast.volts, hleast.least, hleast.first⟩

/-! ### The completion of a lead check -/

theorem exec_leadCheckComplete (codes : Vector LeadCodes 6) (s : State) :
    exec (.leadCheckComplete codes) s = .next (leadsComplete codes s) := rfl

/-- The state with the check's record, its notice raised (R123, R124). -/
def leadsChecked (codes : Vector LeadCodes 6) (s : State) : State :=
  raiseLeadOpen s.sense.openSet (s.setSense (checkedSense (sweepTaps s) s.sense codes))

theorem leadsComplete_eq (codes : Vector LeadCodes 6) (s : State) :
    leadsComplete codes s = answerLeads (sweepTaps s).taps (openSetHanded (leadsChecked codes s)) := rfl

theorem getLsbD_addMember_eq {n : Nat} (v : BitVec n) (i : Nat) {j : Nat} (hj : j < n) :
    (addMember v i).getLsbD j = (v.getLsbD j || decide (j = i)) := by
  rw [addMember, BitVec.getLsbD_or]
  congr 1
  rw [BitVec.getLsbD_shiftLeft, BitVec.getLsbD_one, Bool.eq_iff_iff]
  simp
  omega

theorem getLsbD_foldl_addMember {n : Nat} (p : Fin 6 → Bool) (is : List (Fin 6)) (v : BitVec n) {j : Nat} (hj : j < n) :
    (is.foldl (fun v i => if p i then addMember v (i.val + 1) else v) v).getLsbD j = true
      ↔ v.getLsbD j = true ∨ ∃ i ∈ is, p i = true ∧ j = i.val + 1 := by
  induction is generalizing v with
  | nil => simp
  | cons i is ih =>
    rw [List.foldl_cons, ih]
    by_cases hp : p i = true
    · rw [if_pos hp, getLsbD_addMember_eq v _ hj]
      simp [hp, or_assoc]
    · rw [if_neg hp]
      simp [hp]

/-- A tap is in the found set exactly where the check finds it open; bit 0 stays clear (R124). -/
theorem getLsbD_foundOpen (k : TapSettings) (codes : Vector LeadCodes 6) (i : Fin 6) :
    (foundOpen k codes).getLsbD (i.val + 1) = true ↔ tapOpen k codes i = true := by
  rw [foundOpen, getLsbD_foldl_addMember _ _ _ (by omega)]
  constructor
  · rintro (hzero | ⟨j, _, hj, hij⟩)
    · simp at hzero
    · rw [Fin.ext (Nat.succ.inj hij)]
      exact hj
  · exact fun h => .inr ⟨i, List.mem_finRange i, h, rfl⟩

theorem getLsbD_foundOpen_zero (k : TapSettings) (codes : Vector LeadCodes 6) : (foundOpen k codes).getLsbD 0 = false := by
  rw [← Bool.not_eq_true, foundOpen, getLsbD_foldl_addMember _ _ _ (by decide)]
  rintro (hzero | ⟨j, _, _, hj⟩)
  · simp at hzero
  · cases hj

theorem leadsChecked_sense (codes : Vector LeadCodes 6) (s : State) :
    (leadsChecked codes s).sense = checkedSense (sweepTaps s) s.sense codes :=
  raiseLeadOpen_frame_only _ _ .sense (by decide)

theorem answerLeads_of_waiting {taken : Nat} {s : State} (h : s.sense.waiting = true) : answerLeads taken s =
    answer .checkLeads (leadsPayload taken s) (s.setSense { s.sense with waiting := false }) := if_pos h

theorem answerLeads_of_not_waiting {taken : Nat} {s : State} (h : s.sense.waiting = false) : answerLeads taken s = s :=
  if_neg (by rw [h]; decide)

theorem answerLeads_sense (taken : Nat) (s : State) : (answerLeads taken s).sense = { s.sense with waiting := false } := by
  cases h : s.sense.waiting with
  | true =>
    rw [answerLeads_of_waiting h]
    exact answer_frame _ _ _ .sense (by decide)
  | false =>
    rw [answerLeads_of_not_waiting h, ← h]

theorem answerLeads_frame_only (taken : Nat) (s : State) : SameExcept [.sense, .comp, .compPort] s (answerLeads taken s) := by
  cases h : s.sense.waiting with
  | true =>
    rw [answerLeads_of_waiting h]
    exact ((setSense_frame_only s _).mono (by decide)).trans ((answer_frame _ _ _).mono (by decide))
  | false =>
    rw [answerLeads_of_not_waiting h]
    exact .refl _ s

theorem leadsComplete_sense (codes : Vector LeadCodes 6) (s : State) :
    (leadsComplete codes s).sense = { checkedSense (sweepTaps s) s.sense codes with waiting := false } := by
  rw [leadsComplete_eq, answerLeads_sense,
    (openSetHanded_frame_only _ .sense (by decide) : (openSetHanded (leadsChecked codes s)).sense = _), leadsChecked_sense]

theorem blindTaken_blind (b : Bool) (s : State) : (blindTaken b s).protection.blind = b := by
  unfold blindTaken
  split <;> rfl

theorem endPrecheck_of_runs {s : State} {m : VMin} (hmin : s.protection.vmin = some m)
    (hruns : s.protection.state = .precheck ∧ s.sense.swept = true) : endPrecheck s =
      retarget ((setProtState (stateAtStart s.protection.thresholds m.volts) s).setProtection
        { s.protection with
          state := stateAtStart s.protection.thresholds m.volts
          dwell := dwellAfter s.protection.thresholds m.volts s.protection.dwell }) := by
  unfold endPrecheck
  rw [hmin]
  dsimp only
  rw [if_pos hruns, setProtState_protection]

theorem endPrecheck_of_not_runs {s : State} (h : ¬(s.protection.state = .precheck ∧ s.sense.swept = true)) :
    endPrecheck s = s := by
  unfold endPrecheck
  split
  · exact if_neg h
  · rfl

theorem sameMeasures_endPrecheck (s : State) : SameMeasures s.protection (endPrecheck s).protection := by
  by_cases h : s.protection.state = .precheck ∧ s.sense.swept = true
  · cases hmin : s.protection.vmin with
    | none => exact .of_eq (by unfold endPrecheck; rw [hmin])
    | some m =>
      rw [endPrecheck_of_runs hmin h]
      exact ⟨rfl, rfl, rfl, rfl, rfl⟩
  · exact .of_eq (by rw [endPrecheck_of_not_runs h])

theorem openSetHanded_blind (s : State) : (openSetHanded s).protection.blind = (s.sense.openSet != 0) := by
  rw [openSetHanded_eq, (sameMeasures_endPrecheck _).blind, blindTaken_blind]

theorem leadsComplete_protection (codes : Vector LeadCodes 6) (s : State) :
    (leadsComplete codes s).protection = (openSetHanded (leadsChecked codes s)).protection := by
  rw [leadsComplete_eq]
  exact answerLeads_frame_only _ _ .protection (by decide)

theorem noticesStay_setProtState (st : ProtState) (s : State) : NoticesStay s (setProtState st s) := by
  unfold setProtState
  split
  · exact .of_notices rfl
  · exact ((NoticesStay.of_notices rfl).trans (noticesStay_raise .packState _)).trans
      (.of_notices (lampResolve_frame _ .notices (by decide)))

theorem noticesStay_endPrecheck (s : State) : NoticesStay s (endPrecheck s) := by
  by_cases h : s.protection.state = .precheck ∧ s.sense.swept = true
  · cases hmin : s.protection.vmin with
    | none => exact .of_notices (by unfold endPrecheck; rw [hmin])
    | some m =>
      rw [endPrecheck_of_runs hmin h]
      exact (noticesStay_setProtState _ s).trans (.of_notices rfl)
  · exact .of_notices (by rw [endPrecheck_of_not_runs h])

theorem noticesStay_openSetHanded (s : State) : NoticesStay s (openSetHanded s) := by
  rw [openSetHanded_eq]
  exact (NoticesStay.of_notices (blindTaken_frame_only _ s .notices (by decide))).trans (noticesStay_endPrecheck _)

theorem raised_leadsComplete {codes : Vector LeadCodes 6} {s : State}
    (hopen : foundOpen (sweepTaps s) codes ≠ 0) (hnew : foundOpen (sweepTaps s) codes ≠ s.sense.openSet) :
    Raised .leadOpen s (leadsComplete codes s) := by
  have hchecked : Raised .leadOpen s (leadsChecked codes s) := by
    rw [leadsChecked, raiseLeadOpen, if_pos ⟨hopen, hnew⟩]
    exact (raised_raise .leadOpen _).of_profile rfl
  have hstay : NoticesStay (leadsChecked codes s) (leadsComplete codes s) :=
    (noticesStay_openSetHanded _).trans (.of_notices (answerLeads_frame_only _ _ .notices (by decide)))
  exact hchecked.stay hstay

/-- Settles O45. -/
theorem leadCheckFindsOpenTaps : Obligations.LeadCheckFindsOpenTaps := by
  intro s codes
  refine ⟨_, exec_leadCheckComplete codes s, ?_⟩
  have hframe := leadsComplete_frame codes s
  intro live k n high low
  have hchecked : (openSetHanded (leadsChecked codes s)).sense = checkedSense (sweepTaps s) s.sense codes :=
    (openSetHanded_frame_only _ .sense (by decide)).trans (leadsChecked_sense codes s)
  have hcomp : (openSetHanded (leadsChecked codes s)).comp = s.comp :=
    (openSetHanded_frame_only _ .comp (by decide)).trans ((raiseLeadOpen_frame_only _ _ .comp (by decide)).trans rfl)
  rw [leadsComplete_protection, leadsComplete_sense]
  refine ⟨fun i => vector_get_ofFn _ i, fun i => ?_, getLsbD_foundOpen_zero _ _, ?_, fun hopen hnew => raised_leadsComplete hopen hnew,
    rfl, rfl, rfl, rfl, rfl, rfl, rfl, fun hwaiting => ?_, fun hwaiting => ?_, hframe⟩
  · refine (getLsbD_foundOpen _ _ i).trans ?_
    rw [tapOpen, Bool.and_eq_true, decide_eq_true_iff, pairOpen, decide_eq_true_iff]
    rfl
  · rw [openSetHanded_blind, leadsChecked_sense]
    exact bne_iff_ne
  · have hanswer := answered_answer .checkLeads (leadsPayload k.taps (openSetHanded (leadsChecked codes s))) (s := s)
      (u := (openSetHanded (leadsChecked codes s)).setSense { (openSetHanded (leadsChecked codes s)).sense with waiting := false })
      (congrArg CompCtx.accepted hcomp)
    rw [leadsPayload, putOpen, hchecked] at hanswer
    rw [leadsComplete_eq, answerLeads_of_waiting (by rw [hchecked]; exact hwaiting), leadsPayload, putOpen, hchecked]
    exact hanswer
  · rw [leadsComplete_eq, answerLeads_of_not_waiting (by rw [hchecked]; exact hwaiting)]
    exact ⟨(openSetHanded_frame_only _ .compPort (by decide)).trans ((raiseLeadOpen_frame_only _ _ .compPort (by decide)).trans rfl),
      hcomp⟩

end Sys2Proof.Machine
end

section
/-! PROOFS. The protection state after a cell sweep and at the end of PRECHECK. -/
namespace Sys2Proof.Machine

theorem recoveryCellTest_frame_notices (s : State) : (recoveryCellTest s).notices = s.notices :=
  recoveryCellTest_frame_only s .notices (by decide)

/-! ### The evaluation -/

theorem judging_iff (st : ProtState) : judging st = true ↔ st ≠ .precheck ∧ st ≠ .cutoff := by cases st <;> decide

theorem raised_setProtState {st : ProtState} {s : State} (h : s.protection.state ≠ st) : Raised .packState s (setProtState st s) := by
  rw [setProtState, if_neg h]
  exact ((raised_raise .packState _).of_profile rfl).of_notices (lampResolve_frame _ .notices (by decide))

theorem setProtState_notices {st : ProtState} {s : State} (h : s.protection.state = st) :
    (setProtState st s).notices = s.notices := by rw [setProtState, if_pos h]

/-- The record that the evaluation leaves where cells were judged (R132, R134). -/
def evaluatedProtection (v : Protection) (m : VMin) : Protection :=
  if judging v.state then
    { v with state := stateAfter v.thresholds v.state m.volts, dwell := dwellAfter v.thresholds m.volts v.dwell }
  else v

theorem evaluateState_protection {s : State} {m : VMin} (hmin : s.protection.vmin = some m) :
    (evaluateState s).protection = evaluatedProtection s.protection m := by
  cases hjudging : judging s.protection.state with
  | true =>
    rw [evaluateState_eq_of_judging hmin hjudging, evaluatedProtection, if_pos hjudging]
    rfl
  | false => rw [evaluateState_of_not_judging hjudging, evaluatedProtection, if_neg (by rw [hjudging]; decide)]

theorem raised_evaluateState {s : State} (h : (evaluateState s).protection.state ≠ s.protection.state) :
    Raised .packState s (evaluateState s) := by
  cases hmin : s.protection.vmin with
  | none => exact absurd (by rw [evaluateState_of_no_minimum hmin]) h
  | some m =>
    cases hjudging : judging s.protection.state with
    | false => exact absurd (by rw [evaluateState_of_not_judging hjudging]) h
    | true =>
      rw [evaluateState_eq_of_judging hmin hjudging] at h ⊢
      exact (raised_setProtState fun heq => h heq.symm).of_notices rfl

theorem evaluateState_notices {s : State} (h : (evaluateState s).protection.state = s.protection.state) :
    (evaluateState s).notices = s.notices := by
  cases hmin : s.protection.vmin with
  | none => rw [evaluateState_of_no_minimum hmin]
  | some m =>
    cases hjudging : judging s.protection.state with
    | false => rw [evaluateState_of_not_judging hjudging]
    | true =>
      rw [evaluateState_eq_of_judging hmin hjudging] at h ⊢
      exact setProtState_notices h.symm

theorem recoveryCellTest_protection (s : State) : ∃ c r, (recoveryCellTest s).protection =
    { s.protection with cellOk := c, recovery := r } := by
  rw [recoveryCellTest, recoveryTest_protection]
  exact ⟨_, _, rfl⟩

/-- The target that a PACK section and a record of Pack Protection give (R140). -/
def targetFor (p : Pack) (v : Protection) : Nat :=
  if v.blind then min (baseTarget p v.thresholds v.state v.vmin) (blindLimit p) else baseTarget p v.thresholds v.state v.vmin

theorem targetOf_eq (s : State) : targetOf s = targetFor s.profile.pack s.protection := rfl

theorem retarget_protection (s : State) : (retarget s).protection =
    { s.protection with
      target := targetFor s.profile.pack s.protection
      allowance := min s.protection.allowance (targetFor s.profile.pack s.protection) } := rfl

/-! ### A sweep with a resolved count -/

theorem cellsComplete_of_counted {s : State} {k : Nat} (hcount : s.sense.count = some k) (codes : Vector Code 6) :
    cellsComplete codes s = recoveryCellTest (retarget (evaluateState (cellsJudged codes s))) := by
  rw [cellsComplete_eq, if_neg]
  simp [foundNopack, hcount]

theorem cellsSwept_count {s : State} {k : Nat} (hcount : s.sense.count = some k) (codes : Vector Code 6) :
    (cellsSwept codes s).count = some k := congrArg some (by rw [sweptCount, hcount]; rfl)

/-- The record that Pack Protection judges with. -/
theorem cellsJudged_protection (codes : Vector Code 6) (s : State) : (cellsJudged codes s).protection =
    { s.protection with
      thresholds := thresholdsOf s.profile.pack
      vmin := correctedMin (takeThresholds (s.setSense (cellsSwept codes s))) ((cellsSwept codes s).count.getD 0) } := rfl

theorem stateAfter_ne (k : Thresholds) {st : ProtState} (h : judging st = true) (v : Int) :
    judging (stateAfter k st v) = true := by
  unfold stateAfter
  cases st with
  | precheck => cases h
  | cutoff => cases h
  | normal => split <;> [rfl; (dsimp only; split <;> rfl)]
  | caution => split <;> [rfl; (dsimp only; split <;> rfl)]
  | shed => split <;> [rfl; (dsimp only; split <;> [rfl; (split <;> rfl)])]

theorem stateAfter_caution (k : Thresholds) (v : Int) : stateAfter k .caution v =
    if v < k.vshed then .shed else if v < (k.vcau : Int) + k.hysteresis then .caution else .normal := by
  unfold stateAfter
  by_cases hup : (k.vcau : Int) + k.hysteresis ≤ v
  · rw [if_pos hup, if_neg (Int.not_lt.mpr hup)]
  · rw [if_neg hup, if_pos (Int.not_le.mp hup)]

theorem stateAfter_shed (k : Thresholds) (v : Int) : stateAfter k .shed v =
    if v < k.vshed then .shed
    else if (k.vcau : Int) + k.hysteresis ≤ v then .normal
    else if v < k.vcau ∧ v < (k.vshed : Int) + k.hysteresis then .shed
    else .caution := by
  unfold stateAfter
  by_cases hup : (k.vcau : Int) ≤ v ∨ (k.vshed : Int) + k.hysteresis ≤ v
  · rw [if_pos hup, if_neg (c := v < k.vcau ∧ _) (by omega)]
  · rw [if_neg hup, if_pos (c := v < k.vcau ∧ _) (by omega)]

theorem baseTarget_judged (p : Pack) (k : Thresholds) (st : ProtState) (m : VMin) : baseTarget p k st (some m) =
    if st = .precheck ∨ st = .cutoff then p.servoReserve
    else if (k.vcau : Int) ≤ m.volts then p.amax
    else if (k.vcut : Int) ≤ m.volts then
      p.servoReserve + (p.amax - p.servoReserve) * (m.volts - k.vcut).toNat / (k.vcau - k.vcut)
    else p.servoReserve := rfl

theorem evaluatedProtection_rests (v : Protection) (m : VMin) :
    ((evaluatedProtection v m).state = .precheck ∨ (evaluatedProtection v m).state = .cutoff)
      ↔ (v.state = .precheck ∨ v.state = .cutoff) := by
  unfold evaluatedProtection
  cases hjudging : judging v.state with
  | false => rw [if_neg Bool.false_ne_true]
  | true =>
    rw [if_pos rfl]
    have hafter := (judging_iff _).mp (stateAfter_ne v.thresholds hjudging m.volts)
    have hbefore := (judging_iff _).mp hjudging
    exact iff_of_false (not_or.mpr hafter) (not_or.mpr hbefore)

/-- The record of Pack Protection as it stands at a completion, with the minimum it judges. -/
def judgedProtection (s : State) (m : VMin) : Protection :=
  { s.protection with thresholds := thresholdsOf s.profile.pack, vmin := some m }

/-- The whole record after a sweep with a resolved count, the recovery dwell and its first condition aside (R130 to R141). -/
theorem cellsComplete_protection_of_counted {s : State} {k : Nat} (hcount : s.sense.count = some k) (hk : k ≠ 0)
    (codes : Vector Code 6) : ∃ m c r, (cellsComplete codes s).protection =
      { evaluatedProtection (judgedProtection s m) m with
        target := targetFor s.profile.pack (evaluatedProtection (judgedProtection s m) m)
        allowance := min (evaluatedProtection (judgedProtection s m) m).allowance
          (targetFor s.profile.pack (evaluatedProtection (judgedProtection s m) m))
        cellOk := c, recovery := r } := by
  obtain ⟨m, hm, -⟩ := correctedMin_isLeast (takeThresholds (s.setSense (cellsSwept codes s))) hk
  have hjudged : (cellsJudged codes s).protection = judgedProtection s m := by
    rw [cellsJudged_protection, cellsSwept_count hcount, Option.getD_some, hm]
    rfl
  obtain ⟨c, r, htested⟩ := recoveryCellTest_protection (retarget (evaluateState (cellsJudged codes s)))
  have hevaluated : (evaluateState (cellsJudged codes s)).protection = evaluatedProtection (judgedProtection s m) m := by
    rw [evaluateState_protection (m := m) (by rw [hjudged]; rfl), hjudged]
  have hprofile : (evaluateState (cellsJudged codes s)).profile = s.profile :=
    evaluateState_frame_only _ .profile (by decide)
  refine ⟨m, c, r, ?_⟩
  rw [cellsComplete_of_counted hcount, htested, retarget_protection, hevaluated, hprofile]

theorem evaluatedProtection_other (v : Protection) (m : VMin) :
    (evaluatedProtection v m).vmin = v.vmin ∧ (evaluatedProtection v m).blind = v.blind
      ∧ (evaluatedProtection v m).thresholds = v.thresholds ∧ (evaluatedProtection v m).allowance = v.allowance := by
  unfold evaluatedProtection
  split <;> exact ⟨rfl, rfl, rfl, rfl⟩

theorem evaluatedProtection_of_judging {v : Protection} (h : judging v.state = true) (m : VMin) : evaluatedProtection v m =
    { v with state := stateAfter v.thresholds v.state m.volts, dwell := dwellAfter v.thresholds m.volts v.dwell } := if_pos h

theorem evaluatedProtection_of_not_judging {v : Protection} (h : judging v.state = false) (m : VMin) :
    evaluatedProtection v m = v := if_neg (by rw [h]; decide)

/-- The notices follow the change of state alone (R139). -/
theorem cellsComplete_notices_of_counted {s : State} {k : Nat} (hcount : s.sense.count = some k) (codes : Vector Code 6) :
    (cellsComplete codes s).notices = (evaluateState (cellsJudged codes s)).notices := by
  rw [cellsComplete_of_counted hcount, recoveryCellTest_frame_notices]
  rfl

theorem cellsComplete_state_of_counted {s : State} {k : Nat} (hcount : s.sense.count = some k) (codes : Vector Code 6) :
    (cellsComplete codes s).protection.state = (evaluateState (cellsJudged codes s)).protection.state := by
  obtain ⟨c, r, htested⟩ := recoveryCellTest_protection (retarget (evaluateState (cellsJudged codes s)))
  rw [cellsComplete_of_counted hcount, htested]
  rfl

/-! ### The end of PRECHECK -/

theorem blindTaken_protection (b : Bool) (s : State) : ∃ tg al, (blindTaken b s).protection =
    { s.protection with blind := b, target := tg, allowance := al } := by
  unfold blindTaken
  split
  · exact ⟨s.protection.target, s.protection.allowance, rfl⟩
  · exact ⟨_, _, rfl⟩

theorem leadsChecked_protection (codes : Vector LeadCodes 6) (s : State) : (leadsChecked codes s).protection = s.protection :=
  raiseLeadOpen_frame_only _ _ .protection (by decide)

theorem stateAtStart_ne_precheck (k : Thresholds) (v : Int) : stateAtStart k v ≠ .precheck := by
  unfold stateAtStart
  split
  · decide
  · split <;> decide

theorem leadsChecked_profile (codes : Vector LeadCodes 6) (s : State) : (leadsChecked codes s).profile = s.profile :=
  raiseLeadOpen_frame_only _ _ .profile (by decide)

/-! ### A sweep in CUTOFF -/

theorem nopackHanded_of_cutoff {s : State} (h : s.protection.state = .cutoff) : nopackHanded s =
    (s.setRetained { s.retained with latch := some .nopack }).setProtection { s.protection with recovery := none } := if_pos h

/-- The record that a sweep in CUTOFF leaves before the first recovery condition is tested: a NOPACK result has stopped
the recovery dwell (R127, R135). -/
def cutoffProtection (codes : Vector Code 6) (s : State) : Protection :=
  { (cellsJudged codes s).protection with
    recovery := if foundNopack s.sense ((cellsSwept codes s).count.getD 0) then none else s.protection.recovery }

/-- What a NOPACK result in CUTOFF leaves of the retained store (R135). -/
def cutoffRetained (codes : Vector Code 6) (s : State) : Retained :=
  if foundNopack s.sense ((cellsSwept codes s).count.getD 0) then { s.retained with latch := some .nopack } else s.retained

/-- What a sweep in CUTOFF leaves before the first recovery condition is tested. -/
def cutoffJudged (codes : Vector Code 6) (s : State) : State :=
  retarget (((cellsJudged codes s).setRetained (cutoffRetained codes s)).setProtection (cutoffProtection codes s))

/-- A sweep in CUTOFF moves no state: the conditions are tested on what it read (R132, R135, R137). -/
theorem cellsComplete_of_cutoff {s : State} (hcutoff : s.protection.state = .cutoff) (codes : Vector Code 6) :
    cellsComplete codes s = recoveryCellTest (cutoffJudged codes s) := by
  have hjudged : (cellsJudged codes s).protection.state = .cutoff := hcutoff
  have hhanded : (if foundNopack s.sense ((cellsSwept codes s).count.getD 0) then nopackHanded (cellsJudged codes s)
      else cellsJudged codes s)
        = ((cellsJudged codes s).setRetained (cutoffRetained codes s)).setProtection (cutoffProtection codes s) := by
    unfold cutoffRetained cutoffProtection
    split
    · rw [nopackHanded_of_cutoff hjudged]
      rfl
    · rfl
  rw [cellsComplete_eq, hhanded, evaluateState_of_not_judging, cutoffJudged]
  rw [State.setProtection_protection, cutoffProtection, hjudged]
  rfl

theorem cellOkNow_iff (s : State) : cellOkNow s = true ↔
    2 ≤ s.sense.count.getD 0 ∧ ∃ m, s.protection.vmin = some m ∧ (s.protection.thresholds.vrecover : Int) ≤ m.volts := by
  unfold cellOkNow
  cases s.protection.vmin with
  | none => simp
  | some m => simp

/-- The first recovery condition tested in CUTOFF: the recovery dwell starts, runs on or stops (R137). -/
theorem recoveryCellTest_of_cutoff {s : State} (hcutoff : s.protection.state = .cutoff) : (recoveryCellTest s).protection =
    { s.protection with
      cellOk := cellOkNow s
      recovery :=
        if cellOkNow s = true ∧ s.protection.currentOk = true ∧ s.protection.driveOk = true then
          some (s.protection.recovery.getD 0)
        else none } := by
  rw [recoveryCellTest, recoveryTest_protection]
  exact congrArg (fun r : Option Nat => { s.protection with cellOk := cellOkNow s, recovery := r }) (if_pos hcutoff)

theorem cellsComplete_frame_cutoff {s : State} (hcutoff : s.protection.state = .cutoff) (codes : Vector Code 6) :
    SameExcept [.sense, .protection, .retained] s (cellsComplete codes s) := by
  rw [cellsComplete_of_cutoff hcutoff]
  exact ((((setSense_frame_only s _).mono (by decide)).trans ((setProtection_frame_only _ _).mono (by decide))).trans
    (((setRetained_frame_only _ _).mono (by decide)).trans ((setProtection_frame_only _ _).mono (by decide)))).trans
    (((retarget_frame_only _).mono (by decide)).trans ((recoveryCellTest_frame_only _).mono (by decide)))

/-- Settles O46. -/
theorem protectionStateMoves : Obligations.ProtectionStateMoves := by
  refine ⟨fun s codes k hcount hk => ?sweep, fun s codes m hpre hswept hmin => ?precheck, fun s codes hcutoff => ?cutoff⟩
  case sweep =>
    intro p
    obtain ⟨m, c, r, hafter⟩ := cellsComplete_protection_of_counted hcount hk codes
    obtain ⟨hvmin, hblind, hthresholds, hallowance⟩ := evaluatedProtection_other (judgedProtection s m) m
    have hjudging : ∀ {st}, s.protection.state = st → judging st = true →
        evaluatedProtection (judgedProtection s m) m =
          { judgedProtection s m with
            state := stateAfter (thresholdsOf p) st m.volts
            dwell := dwellAfter (thresholdsOf p) m.volts s.protection.dwell } := fun hst h => by
      rw [evaluatedProtection_of_judging (by rw [← hst] at h; exact h), ← hst]
      rfl
    have hstill : s.protection.state = .precheck ∨ s.protection.state = .cutoff →
        evaluatedProtection (judgedProtection s m) m = judgedProtection s m := fun h =>
      evaluatedProtection_of_not_judging (by rw [judgedProtection]; obtain h | h := h <;> rw [h] <;> rfl) m
    refine ⟨_, m, exec_cellSweepComplete codes s, ?_⟩
    rw [hafter]
    refine ⟨hvmin, fun h => ?_, fun h => ?_, fun h => ?_, fun h => ?_, fun h => ?_, fun h => ?_, fun h => ?_, ?_⟩
    · exact congrArg Protection.state (hjudging h rfl)
    · exact (congrArg Protection.state (hjudging h rfl)).trans (stateAfter_caution _ _)
    · exact (congrArg Protection.state (hjudging h rfl)).trans (stateAfter_shed _ _)
    · have hsame := hstill h
      exact ⟨(congrArg Protection.state hsame :), (congrArg Protection.dwell hsame :)⟩
    · have hjudges : judging s.protection.state = true := by obtain h | h | h := h <;> rw [h] <;> rfl
      exact congrArg Protection.dwell (hjudging rfl hjudges)
    · have hmoves : (cellsComplete codes s).protection.state ≠ s.protection.state := by rw [hafter]; exact h
      rw [cellsComplete_state_of_counted hcount] at hmoves
      exact ((raised_evaluateState hmoves).of_profile rfl).of_notices (cellsComplete_notices_of_counted hcount codes)
    · have hstays : (cellsComplete codes s).protection.state = s.protection.state := by rw [hafter]; exact h
      rw [cellsComplete_state_of_counted hcount] at hstays
      rw [cellsComplete_notices_of_counted hcount]
      exact evaluateState_notices hstays
    · have htarget : targetFor p (evaluatedProtection (judgedProtection s m) m) =
          if s.protection.blind then
            min (baseTarget p (thresholdsOf p) s.protection.state (some m)) (p.amax * p.blindCap / 100)
          else baseTarget p (thresholdsOf p) s.protection.state (some m) := by
        have hbase : baseTarget p (thresholdsOf p) (evaluatedProtection (judgedProtection s m) m).state (some m)
            = baseTarget p (thresholdsOf p) s.protection.state (some m) := by
          rw [baseTarget_judged, baseTarget_judged]
          exact if_congr (evaluatedProtection_rests _ m) rfl rfl
        rw [targetFor, hvmin, hblind, hthresholds]
        show (if s.protection.blind = true then min (baseTarget p (thresholdsOf p) _ (some m)) _ else
          baseTarget p (thresholdsOf p) _ (some m)) = _
        rw [hbase]
        rfl
      exact ⟨htarget, congrArg (min · _) hallowance⟩
  case precheck =>
    obtain ⟨tg, al, hblind⟩ := blindTaken_protection ((leadsChecked codes s).sense.openSet != 0) (leadsChecked codes s)
    have hbefore := (leadsChecked_protection codes s)
    have hsense : (blindTaken ((leadsChecked codes s).sense.openSet != 0) (leadsChecked codes s)).sense.swept = true := by
      rw [(blindTaken_frame_only _ _ .sense (by decide) : (blindTaken _ _).sense = _), leadsChecked_sense]
      exact hswept
    rw [hbefore] at hblind
    have hhanded : openSetHanded (leadsChecked codes s) = _ := (openSetHanded_eq _).trans
      (endPrecheck_of_runs (m := m) (by rw [hblind]; exact hmin) ⟨by rw [hblind]; exact hpre, hsense⟩)
    refine ⟨_, exec_leadCheckComplete codes s, ?_, ?_⟩
    · rw [leadsComplete_protection, hhanded, hblind]
      rfl
    · have hne : (blindTaken ((leadsChecked codes s).sense.openSet != 0) (leadsChecked codes s)).protection.state ≠
          stateAtStart s.protection.thresholds m.volts := by
        rw [hblind]
        refine fun h => ?_
        have hstart : stateAtStart s.protection.thresholds m.volts = .precheck := h.symm.trans hpre
        exact stateAtStart_ne_precheck _ _ hstart
      have hraised := raised_setProtState hne
      have hprofile : s.profile = (blindTaken ((leadsChecked codes s).sense.openSet != 0) (leadsChecked codes s)).profile :=
        ((blindTaken_frame_only _ _ .profile (by decide)).trans (leadsChecked_profile codes s)).symm
      refine (hraised.of_profile hprofile.symm).of_notices ?_
      rw [leadsComplete_eq, (answerLeads_frame_only _ _ .notices (by decide) : (answerLeads _ _).notices = _), hhanded, hblind]
      rfl
  case cutoff =>
    refine ⟨_, exec_cellSweepComplete codes s, ?tested, ?frame⟩
    case tested =>
      have hsense := cellsComplete_sense codes s
      have hmeasures := cellsComplete_measures codes s
      have htested := recoveryCellTest_of_cutoff (s := cutoffJudged codes s) hcutoff
      rw [← cellsComplete_of_cutoff hcutoff] at htested
      have hok := cellOkNow_iff (cutoffJudged codes s)
      intro cellOk all
      have hcells : (cellsComplete codes s).protection.cellOk = true ↔ cellOk := by
        have hflag : (cellsComplete codes s).protection.cellOk = cellOkNow (cutoffJudged codes s) := congrArg Protection.cellOk htested
        rw [hflag, hok]
        show _ ↔ 2 ≤ (cellsComplete codes s).sense.count.getD 0 ∧ _
        rw [hsense, hmeasures.vmin]
        exact Iff.rfl
      have hcurrent : (cellsComplete codes s).protection.currentOk = s.protection.currentOk := hmeasures.currentOk
      have hdrive : (cellsComplete codes s).protection.driveOk = s.protection.driveOk :=
        (congrArg Protection.driveOk htested :)
      have hrecovery : (cellsComplete codes s).protection.recovery =
          if (cellsComplete codes s).protection.cellOk = true ∧ s.protection.currentOk = true ∧ s.protection.driveOk = true then
            some ((cutoffProtection codes s).recovery.getD 0)
          else none := by
        rw [htested]
        rfl
      refine ⟨(congrArg Protection.state htested).trans hcutoff, hcells, hcurrent, hdrive, fun hall => ?_, fun hnot => ?_⟩
      · have hstands : foundNopack s.sense ((cellsSwept codes s).count.getD 0) = false := by
          have htwo : 2 ≤ (cellsSwept codes s).count.getD 0 := by
            rw [← hsense]
            exact hall.1.1
          simp [foundNopack]
          omega
        rw [hrecovery, if_pos ⟨hcells.mpr hall.1, hall.2⟩, cutoffProtection, hstands]
        rfl
      · rw [hrecovery, if_neg fun h => hnot ⟨hcells.mp h.1, h.2⟩]
    case frame => exact cellsComplete_frame_cutoff hcutoff codes

end Sys2Proof.Machine
end

section
/-! PROOFS. What a resolution leaves of the function it resolves, and of the functions it does not. -/
namespace Sys2Proof.Machine

/-! ### The deciding levels -/

theorem deciding_iff (t : State) (m : Master) (f : Fn) : Deciding t m f ↔ decides t m f = true := by
  rw [Deciding, decides, Bool.and_eq_true]

theorem trimFor_of_deciding {t : State} {m r : Master} {f : Fn} (hauth : (authOf t f).trim = some r)
    (htrim : trimmable f = true) (hne : r ≠ m) (h : Deciding t r f) :
    trimFor t m f = (slotValue t r f * (authOf t f).trimLimit).tdiv 1000 := by
  unfold trimFor
  rw [hauth]
  exact if_pos ⟨htrim, hne, (deciding_iff t r f).mp h⟩

theorem trimFor_of_none {t : State} {m : Master} {f : Fn}
    (h : ∀ r, (authOf t f).trim = some r → r = m ∨ ¬Deciding t r f) : trimFor t m f = 0 := by
  unfold trimFor
  cases hauth : (authOf t f).trim with
  | none => rfl
  | some r =>
    refine if_neg fun hall => ?_
    obtain rfl | hnot := h r hauth
    · exact hall.2.1 rfl
    · exact hnot ((deciding_iff t r f).mpr hall.2.2)

theorem trimmedValue_decidedValue (t : State) (m : Master) (f : Fn) : TrimmedValue t m f (decidedValue t m f) := by
  unfold TrimmedValue decidedValue
  refine ⟨fun h => by rw [h]; rfl, fun h r hauth hne hdec => ?_, fun h hnone => ?_⟩
  · rw [if_pos h, trimFor_of_deciding hauth h hne hdec]
    rfl
  · rw [if_pos h, trimFor_of_none hnone, Int.add_zero]
    rfl

theorem secondaryOf_eq_some {t : State} {f : Fn} {m : Master} (h : secondaryOf t f = some m) :
    (authOf t f).secondary = some m ∧ Deciding t m f := by
  unfold secondaryOf at h
  split at h
  next r hr =>
    split at h
    next hdec =>
      cases h
      exact ⟨hr, (deciding_iff t m f).mpr hdec⟩
    next => cases h
  next => cases h

theorem secondaryOf_eq_none {t : State} {f : Fn} (h : secondaryOf t f = none) :
    ¬∃ m, (authOf t f).secondary = some m ∧ Deciding t m f := by
  rintro ⟨m, hm, hdec⟩
  unfold secondaryOf at h
  rw [hm] at h
  dsimp only at h
  rw [if_pos ((deciding_iff t m f).mp hdec)] at h
  cases h

theorem decides_decision (t : State) (f : Fn) :
    Decides t f (decision t f).level (decision t f).source (decision t f).value := by
  unfold Decides decision
  by_cases hgrant : (grantOf t f).held.isSome = true
  · rw [if_pos hgrant]
    exact ⟨fun _ => ⟨rfl, rfl, rfl⟩, fun h => absurd hgrant h, fun h => absurd hgrant h, fun h => absurd hgrant h⟩
  · rw [if_neg hgrant]
    by_cases hfirst : decides t (authOf t f).primary f = true
    · have hdec := (deciding_iff t _ f).mpr hfirst
      rw [if_pos hfirst]
      exact ⟨fun h => absurd h hgrant, fun _ _ => ⟨rfl, rfl, _, rfl, trimmedValue_decidedValue _ _ _⟩,
        fun _ h => absurd hdec h, fun _ h => absurd hdec h⟩
    · have hnot : ¬Deciding t (authOf t f).primary f := fun h => hfirst ((deciding_iff t _ f).mp h)
      rw [if_neg hfirst]
      refine ⟨fun h => absurd h hgrant, fun _ h => absurd h hnot, fun _ _ hsecond => ?_, fun _ _ hsecond => ?_⟩
      · cases hsec : secondaryOf t f with
        | none => exact absurd hsecond (secondaryOf_eq_none hsec)
        | some m =>
          obtain ⟨hm, -⟩ := secondaryOf_eq_some hsec
          exact ⟨rfl, m, hm, rfl, _, rfl, trimmedValue_decidedValue _ _ _⟩
      · cases hsec : secondaryOf t f with
        | none => exact ⟨rfl, rfl, rfl⟩
        | some m => exact absurd ⟨m, secondaryOf_eq_some hsec⟩ hsecond

/-! ### The entry that a resolution gives -/

theorem mastersChange_iff (a b : Src) : mastersChange a b = true ↔ Passes a b := by
  cases a <;> cases b <;> simp [mastersChange, Passes]

theorem mastersChange_self (a : Src) : mastersChange a a = false := by cases a <;> rfl

theorem entryFrom_of_locked {t : State} {f : Fn} (h : locked t f = true) (old : Eff) (byMark : Bool) :
    entryFrom t f old byMark =
      { value := lockValue t f, level := .lockout, source := .none, blend := none, target := lockValue t f,
        underlying := (decision t f).value.getD old.underlying } := if_pos h

theorem entryFrom_of_plain {t : State} {f : Fn} (h : locked t f = false)
    (hplain : isNumeric f = false ∨ (decision t f).level = .failsafe) (old : Eff) (byMark : Bool) :
    entryFrom t f old byMark =
      { value := (decision t f).value.getD old.value, level := (decision t f).level, source := (decision t f).source
        blend := none, target := (decision t f).value.getD old.value
        underlying := (decision t f).value.getD old.value } := by
  refine (if_neg (by rw [h]; decide)).trans (if_neg ?_)
  obtain hnum | hlevel := hplain
  · rw [hnum]
    exact Bool.false_ne_true
  · rw [hlevel, Bool.and_eq_true]
    exact fun h => absurd h.2 (by decide)

theorem entryFrom_of_blending {t : State} {f : Fn} (h : locked t f = false) (hnum : isNumeric f = true)
    (hlevel : (decision t f).level ≠ .failsafe) (old : Eff) (byMark : Bool) :
    entryFrom t f old byMark =
      blendEntry old (decision t f) ((decision t f).value.getD old.value) (authOf t f).handover byMark := by
  refine (if_neg (by rw [h]; decide)).trans (if_pos ?_)
  rw [hnum, Bool.true_and]
  exact bne_iff_ne.mpr hlevel

/-- An entry is resolved with level, source and value, its blend aside. -/
structure EntryOf (d : Decision) (r : Int) (e : Eff) : Prop where
  level : e.level = d.level
  source : e.source = d.source
  target : e.target = r
  underlying : e.underlying = r

theorem blendEntry_entryOf (old : Eff) (d : Decision) (r : Int) (handover : Nat) (byMark : Bool) :
    EntryOf d r (blendEntry old d r handover byMark) := by
  unfold blendEntry
  split
  · split
    · exact ⟨rfl, rfl, rfl, rfl⟩
    · split
      · split <;> exact ⟨rfl, rfl, rfl, rfl⟩
      · exact ⟨rfl, rfl, rfl, rfl⟩
  · split <;> exact ⟨rfl, rfl, rfl, rfl⟩

/-- A blend begins with a change between the masters (R48, R50). -/
theorem blendEntry_of_starts {old : Eff} {d : Decision} {handover : Nat} {byMark : Bool} (r : Int)
    (hpass : Passes old.source d.source) (hhandover : handover ≠ 0) (hmark : ¬(byMark = true ∧ old.blend.isSome = true)) :
    (blendEntry old d r handover byMark).value = old.value
      ∧ (blendEntry old d r handover byMark).blend = some ⟨old.value, 0, handover, 10⟩ := by
  have hchange := (mastersChange_iff _ _).mpr hpass
  unfold blendEntry
  cases hblend : old.blend with
  | none =>
    dsimp only
    rw [if_pos ⟨hchange, hhandover⟩]
    exact ⟨rfl, rfl⟩
  | some b =>
    have hno : ¬byMark = true := fun h => hmark ⟨h, by rw [hblend]; rfl⟩
    dsimp only
    rw [if_neg hno, if_pos hchange, if_neg hhandover]
    exact ⟨rfl, rfl⟩

/-- A blend goes on under the same master (R48). -/
theorem blendEntry_of_goesOn {old : Eff} {d : Decision} {byMark : Bool} (r : Int) (handover : Nat)
    (hblend : old.blend.isSome = true) (hmark : byMark = false) (hpass : ¬Passes old.source d.source) :
    (blendEntry old d r handover byMark).value = old.value ∧ (blendEntry old d r handover byMark).blend = old.blend := by
  have hchange : ¬mastersChange old.source d.source = true := fun h => hpass ((mastersChange_iff _ _).mp h)
  obtain ⟨b, hb⟩ := Option.isSome_iff_exists.mp hblend
  unfold blendEntry
  rw [hb, hmark]
  dsimp only
  rw [if_neg Bool.false_ne_true, if_neg hchange]
  exact ⟨rfl, rfl⟩

/-- Without a blend to begin or to go on with, the resolved value rules at once (R48, R50). -/
theorem blendEntry_of_ends {old : Eff} {d : Decision} {handover : Nat} {byMark : Bool} (r : Int)
    (hstarts : ¬(Passes old.source d.source ∧ handover ≠ 0 ∧ ¬(byMark = true ∧ old.blend.isSome = true)))
    (hgoesOn : ¬(old.blend.isSome = true ∧ byMark = false ∧ ¬Passes old.source d.source)) :
    (blendEntry old d r handover byMark).value = r ∧ (blendEntry old d r handover byMark).blend = none := by
  rw [← mastersChange_iff] at hstarts hgoesOn
  unfold blendEntry
  cases hblend : old.blend with
  | none =>
    dsimp only
    rw [if_neg fun h => hstarts ⟨h.1, h.2, by rw [hblend]; simp⟩]
    exact ⟨rfl, rfl⟩
  | some b =>
    rw [hblend] at hstarts hgoesOn
    dsimp only
    cases byMark with
    | true => exact ⟨rfl, rfl⟩
    | false =>
      have hchange : mastersChange old.source d.source = true := by
        by_contra h
        exact hgoesOn ⟨rfl, rfl, h⟩
      have hzero : handover = 0 := by
        by_contra h
        exact hstarts ⟨hchange, h, fun h => absurd h.1 Bool.false_ne_true⟩
      rw [if_neg Bool.false_ne_true, if_pos hchange, if_pos hzero]
      exact ⟨rfl, rfl⟩

/-- The entry of a resolution is what the rules of the resolver say (R40 to R50). -/
theorem resolved_of_entry {t : State} {f : Fn} {old : Eff} {byMark : Bool} (h : effOf t f = entryFrom t f old byMark) :
    Resolved old byMark t f := by
  refine ⟨_, _, _, decides_decision t f, fun hlock => ?_, fun hlock => ?_⟩
  · rw [h, entryFrom_of_locked hlock]
    refine ⟨rfl, rfl, rfl, ?_, rfl, rfl⟩
    exact if_congr Iff.rfl rfl rfl
  · by_cases hblends : isNumeric f = true ∧ (decision t f).level ≠ .failsafe
    · rw [h, entryFrom_of_blending hlock hblends.1 hblends.2]
      have hentry := blendEntry_entryOf old (decision t f) ((decision t f).value.getD old.value) (authOf t f).handover byMark
      refine ⟨hentry.level, hentry.source, hentry.target, hentry.underlying, fun _ hstarts => ?_, fun _ _ hgoesOn => ?_,
        fun hrest => ?_⟩
      · exact blendEntry_of_starts _ hstarts.1 hstarts.2.1 hstarts.2.2
      · exact blendEntry_of_goesOn _ _ hgoesOn.1 hgoesOn.2.1 hgoesOn.2.2
      · obtain hnot | ⟨hstarts, hgoesOn⟩ := hrest
        · exact absurd hblends hnot
        · exact blendEntry_of_ends _ hstarts hgoesOn
    · have hplain : isNumeric f = false ∨ (decision t f).level = .failsafe := by
        by_contra hnot
        exact hblends ⟨by simpa using fun h => hnot (.inl h), fun h => hnot (.inr h)⟩
      rw [h, entryFrom_of_plain hlock hplain]
      exact ⟨rfl, rfl, rfl, rfl, fun h => absurd h hblends, fun h => absurd h hblends, fun _ => ⟨rfl, rfl⟩⟩

/-- The entry decided above FAILSAFE without a blend. -/
def plainEntry (d : Decision) (r : Int) : Eff :=
  { value := r, level := d.level, source := d.source, blend := none, target := r, underlying := r }

theorem blendEntry_cases (old : Eff) (d : Decision) (r : Int) (handover : Nat) (byMark : Bool) :
    blendEntry old d r handover byMark = plainEntry d r
      ∨ ∃ b, blendEntry old d r handover byMark = { plainEntry d r with value := old.value, blend := some b } := by
  unfold blendEntry
  split
  · split
    · exact .inl rfl
    · split
      · split
        · exact .inl rfl
        · exact .inr ⟨_, rfl⟩
      · exact .inr ⟨_, rfl⟩
  · split
    · exact .inr ⟨_, rfl⟩
    · exact .inl rfl

theorem blendEntry_of_same_master {e : Eff} {d : Decision} {b : Blend} (hblend : e.blend = some b)
    (hsame : mastersChange e.source d.source = false) (r : Int) (handover : Nat) :
    blendEntry e d r handover false = { plainEntry d r with value := e.value, blend := some b } := by
  unfold blendEntry
  rw [hblend, hsame]
  rfl

theorem blendEntry_idem (old : Eff) (d : Decision) (handover : Nat) (byMark : Bool) :
    blendEntry (blendEntry old d (d.value.getD old.value) handover byMark) d
        (d.value.getD (blendEntry old d (d.value.getD old.value) handover byMark).value) handover false
      = blendEntry old d (d.value.getD old.value) handover byMark := by
  have hsame : ∀ v, (v = d.value.getD old.value ∨ v = old.value) → d.value.getD v = d.value.getD old.value := by
    rintro v (rfl | rfl)
    · cases d.value <;> rfl
    · rfl
  have hself : ∀ p : Prop, ¬(mastersChange d.source d.source = true ∧ p) := fun p h => by
    rw [mastersChange_self] at h
    exact Bool.false_ne_true h.1
  obtain h | ⟨b, h⟩ := blendEntry_cases old d (d.value.getD old.value) handover byMark
  · rw [h, show (plainEntry d (d.value.getD old.value)).value = d.value.getD old.value from rfl, hsame _ (.inl rfl)]
    exact if_neg (hself _)
  · rw [h]
    refine (blendEntry_of_same_master (b := b) ?_ ?_ _ _).trans ?_
    · rfl
    · exact mastersChange_self d.source
    · rw [hsame _ (.inr rfl)]

/-- A second resolution that finds the same to decide changes nothing. -/
theorem entryFrom_idem (t : State) (f : Fn) (old : Eff) (byMark : Bool) :
    entryFrom t f (entryFrom t f old byMark) false = entryFrom t f old byMark := by
  cases hlock : locked t f with
  | true =>
    rw [entryFrom_of_locked hlock, entryFrom_of_locked hlock]
    cases (decision t f).value <;> rfl
  | false =>
    by_cases hplain : isNumeric f = false ∨ (decision t f).level = .failsafe
    · rw [entryFrom_of_plain hlock hplain, entryFrom_of_plain hlock hplain]
      cases (decision t f).value <;> rfl
    · have hnum : isNumeric f = true := by simpa using fun h => hplain (.inl h)
      have hlevel : (decision t f).level ≠ .failsafe := fun h => hplain (.inr h)
      rw [entryFrom_of_blending hlock hnum hlevel, entryFrom_of_blending hlock hnum hlevel]
      exact blendEntry_idem _ _ _ _

/-! ### Functions that an event leaves alone -/

theorem steering_state_handOn {f : Fn} (h : f ≠ .steermode) (s : State) :
    (handOn f s).steering.state = s.steering.state := by
  cases f with
  | steermode => exact absurd rfl h
  | drive =>
    exact congrArg Steering.state
      ((lampResolve_frame (driveHanded s) .steering (by decide)).trans (driveHanded_frame s .steering (by decide)))
  | steer =>
    have hframe : (steerHanded s).steering = { s.steering with heldSteer := effective s .steer } :=
      lampResolve_frame _ .steering (by decide)
    exact (congrArg Steering.state hframe :)
  | winch => exact congrArg Steering.state (winchHanded_frame s .steering (by decide))
  | drag =>
    exact congrArg Steering.state
      ((lampResolve_frame (dragHanded s) .steering (by decide)).trans (dragHanded_frame s .steering (by decide)))
  | range => exact congrArg Steering.state (rangeHanded_frame s .steering (by decide))
  | scene => exact congrArg Steering.state (sceneHanded_frame s .steering (by decide))

theorem steering_state_commitEff {f : Fn} (h : f ≠ .steermode) (e : Eff) (s : State) :
    (commitEff f e s).steering.state = s.steering.state := by
  have hhand : ∀ z u, (handUnderlying z u).steering = u.steering := fun z u => handUnderlying_frame z u .steering (by decide)
  rw [commitEff, hhand]
  split
  · rfl
  · rw [steering_state_handOn h]
    rfl

theorem steering_state_resolve {f : Fn} (h : f ≠ .steermode) (byMark : Bool) (s : State) :
    (resolve f byMark s).steering.state = s.steering.state := by
  rw [resolve_of_free (consumerBusy_of_ne h s), steering_state_commitEff h]
  exact congrArg Steering.state (takeSlots_frame f s .steering (by decide))

/-- What decides a function, its entry, grant and slots, and whether its consumer is busy, are as they were. -/
structure Untouched (f : Fn) (s t : State) : Prop where
  deciders : SameDeciders f s t
  eff : effOf t f = effOf s f
  grant : grantOf t f = grantOf s f
  slots : ∀ m, slotOf t m f = slotOf s m f
  busy : consumerBusy t f = consumerBusy s f

theorem Untouched.refl (f : Fn) (s : State) : Untouched f s s := ⟨.refl f s, rfl, rfl, fun _ => rfl, rfl⟩

theorem Untouched.trans {f : Fn} {s t u : State} (h : Untouched f s t) (h' : Untouched f t u) : Untouched f s u where
  deciders := h.deciders.trans h'.deciders
  eff := h'.eff.trans h.eff
  grant := h'.grant.trans h.grant
  slots m := (h'.slots m).trans (h.slots m)
  busy := h'.busy.trans h.busy

theorem untouched_of_frame {l : List Block} {s t : State} (h : SameExcept l s t)
    (hl : ∀ b ∈ [Block.radio, .comp, .slots, .resolver, .profile, .steering], b ∉ l) (f : Fn) : Untouched f s t where
  deciders := sameDeciders_of_frame h (fun b hb => hl b (by
    rw [List.mem_cons, List.mem_cons, List.mem_cons, List.mem_cons, List.mem_singleton] at hb
    rcases hb with rfl | rfl | rfl | rfl | rfl <;> decide)) f
  eff := h.effOf (hl _ (by decide)) f
  grant := h.grantOf (hl _ (by decide)) f
  slots m := h.slotOf (hl _ (by decide)) m f
  busy := by
    have hsteering : t.steering = s.steering := h .steering (hl _ (by decide))
    unfold consumerBusy busy
    rw [hsteering]

theorem untouched_raise (k : Notice) (f : Fn) (s : State) : Untouched f s (raise k s) :=
  untouched_of_frame (raise_frame k s) (by decide) f

theorem consumerBusy_congr {s t : State} {f : Fn} (h : t.steering.state = s.steering.state) :
    consumerBusy t f = consumerBusy s f := by
  unfold consumerBusy busy
  rw [h]

theorem untouched_resolve {f g : Fn} (h : g ≠ f) (byMark : Bool) (s : State) : Untouched g s (resolve f byMark s) where
  deciders := sameDeciders_resolve f g byMark s
  eff := effOf_resolve_ne h byMark s
  grant := grantOf_resolve f byMark s g
  slots := slotOf_resolve_ne h byMark s
  busy := by
    by_cases hg : g = .steermode
    · exact consumerBusy_congr (steering_state_resolve (fun hf => h (hg.trans hf.symm)) byMark s)
    · rw [consumerBusy_of_ne hg, consumerBusy_of_ne hg]

theorem untouched_setGrant {f g : Fn} (h : g ≠ f) (x : Grant) (s : State) : Untouched g s (setGrant s f x) where
  deciders := ⟨rfl, by rw [grantOf_setGrant_ne s h], fun _ => rfl, fun _ => rfl, fun _ => rfl, rfl⟩
  eff := rfl
  grant := grantOf_setGrant_ne s h x
  slots _ := rfl
  busy := rfl

theorem untouched_lampsIfHeld (b : Bool) (f : Fn) (s : State) : Untouched f s (lampsIfHeld b s) :=
  untouched_of_frame (lampsIfHeld_frame b s) (by decide) f

theorem endGrant_of_none {why : EndReason} {f : Fn} {s : State} (h : (grantOf s f).held.isSome = false) :
    endGrant why f s = s := if_neg (by rw [h]; decide)

theorem endGrant_of_held {why : EndReason} {f : Fn} {s : State} (h : (grantOf s f).held.isSome = true) :
    endGrant why f s = lampsIfHeld (anyHeld s) (resolve f false (raise .grantEnded (setGrant s f ⟨none, some why⟩))) :=
  if_pos h

theorem untouched_endGrant {f g : Fn} (h : g ≠ f) (why : EndReason) (s : State) : Untouched g s (endGrant why f s) := by
  cases hheld : (grantOf s f).held.isSome with
  | false =>
    rw [endGrant_of_none hheld]
    exact .refl g s
  | true =>
    rw [endGrant_of_held hheld]
    exact (((untouched_setGrant h _ s).trans (untouched_raise _ g _)).trans (untouched_resolve h false _)).trans
      (untouched_lampsIfHeld _ g _)

/-- A step per function, each leaving the other functions alone: a function not named is left alone, and one that is named
sees its own step alone. -/
theorem foldl_untouched {step : Fn → State → State} (hstep : ∀ f g s, g ≠ f → Untouched g s (step f s)) {g : Fn} :
    ∀ (fs : List Fn) (s : State), g ∉ fs → Untouched g s (fs.foldl (fun s f => step f s) s)
  | [], s, _ => .refl g s
  | f :: fs, s, h =>
    (hstep f g s fun hg => h (hg ▸ List.mem_cons_self)).trans
      (foldl_untouched hstep fs _ fun hmem => h (List.mem_cons_of_mem _ hmem))

theorem foldl_own_step {step : Fn → State → State} (hstep : ∀ f g s, g ≠ f → Untouched g s (step f s)) {g : Fn} {fs : List Fn}
    (hnodup : fs.Nodup) (hmem : g ∈ fs) (s : State) :
    ∃ u, Untouched g s u ∧ Untouched g (step g u) (fs.foldl (fun s f => step f s) s) := by
  induction fs generalizing s with
  | nil => cases hmem
  | cons f fs ih =>
    obtain ⟨hf, hnodup⟩ := List.nodup_cons.mp hnodup
    obtain rfl | hmem := List.mem_cons.mp hmem
    · exact ⟨s, .refl _ s, foldl_untouched hstep fs _ hf⟩
    · obtain ⟨u, hbefore, hafter⟩ := ih hnodup hmem (step f s)
      exact ⟨u, (hstep f g s fun h => hf (h ▸ hmem)).trans hbefore, hafter⟩

/-! ### Functions that an event resolves -/

/-- The function has the entry of one resolution, its FRESH slots are taken, and its grant stands (R22, R40). -/
structure ResolvedOnce (f : Fn) (byMark : Bool) (s t : State) : Prop where
  deciders : SameDeciders f s t
  eff : effOf t f = entryFrom s f (effOf s f) byMark
  grant : grantOf t f = grantOf s f
  slots : ∀ m, slotOf t m f = takenSlot (slotOf s m f)

theorem resolvedOnce_resolve {f : Fn} {s : State} (h : consumerBusy s f = false) (byMark : Bool) :
    ResolvedOnce f byMark s (resolve f byMark s) where
  deciders := sameDeciders_resolve f f byMark s
  eff := effOf_resolve_of_free h byMark
  grant := grantOf_resolve f byMark s f
  slots := slotOf_resolve_of_free h byMark

theorem Untouched.resolvedOnce {f : Fn} {byMark : Bool} {s t u : State} (h : Untouched f s t) (h' : ResolvedOnce f byMark t u) :
    ResolvedOnce f byMark s u where
  deciders := h.deciders.trans h'.deciders
  eff := by rw [h'.eff, h.eff, h.deciders.entryFrom]
  grant := h'.grant.trans h.grant
  slots m := by rw [h'.slots, h.slots]

theorem ResolvedOnce.untouched {f : Fn} {byMark : Bool} {s t u : State} (h : ResolvedOnce f byMark s t) (h' : Untouched f t u) :
    ResolvedOnce f byMark s u where
  deciders := h.deciders.trans h'.deciders
  eff := h'.eff.trans h.eff
  grant := h'.grant.trans h.grant
  slots m := (h'.slots m).trans (h.slots m)

theorem takenSlot_takenSlot (x : Slot) : takenSlot (takenSlot x) = takenSlot x := by
  unfold takenSlot
  split
  · exact if_neg (by simp)
  · rfl

theorem ResolvedOnce.again {f : Fn} {byMark : Bool} {s t u : State} (h : ResolvedOnce f byMark s t)
    (h' : ResolvedOnce f false t u) : ResolvedOnce f byMark s u where
  deciders := h.deciders.trans h'.deciders
  eff := by rw [h'.eff, h.deciders.entryFrom, h.eff, entryFrom_idem]
  grant := h'.grant.trans h.grant
  slots m := by rw [h'.slots, h.slots, takenSlot_takenSlot]

/-- The entry of a resolution, in the words of the rules. -/
theorem ResolvedOnce.resolved {f : Fn} {byMark : Bool} {s t : State} (h : ResolvedOnce f byMark s t) :
    Resolved (effOf s f) byMark t f := resolved_of_entry (h.eff.trans (h.deciders.entryFrom _ _).symm)

/-- The function was resolved where its consumer was free, and is else left alone (R40, R45). -/
structure Visited (f : Fn) (byMark : Bool) (s t : State) : Prop where
  free : consumerBusy s f = false → ResolvedOnce f byMark s t
  busy : consumerBusy s f = true → Untouched f s t

theorem visited_resolve (f : Fn) (byMark : Bool) (s : State) : Visited f byMark s (resolve f byMark s) :=
  ⟨fun h => resolvedOnce_resolve h byMark, fun h => by rw [resolve_of_busy h]; exact .refl f s⟩

theorem Untouched.visited {f : Fn} {byMark : Bool} {s t u : State} (h : Untouched f s t) (h' : Visited f byMark t u) :
    Visited f byMark s u where
  free hfree := h.resolvedOnce (h'.free (h.busy.trans hfree))
  busy hbusy := h.trans (h'.busy (h.busy.trans hbusy))

theorem Visited.untouched {f : Fn} {byMark : Bool} {s t u : State} (h : Visited f byMark s t) (h' : Untouched f t u) :
    Visited f byMark s u where
  free hfree := (h.free hfree).untouched h'
  busy hbusy := (h.busy hbusy).trans h'

/-- Resolved twice with the same to decide is resolved once. -/
theorem Visited.again {f : Fn} {byMark : Bool} {s t u : State} (h : Visited f byMark s t) (h' : Visited f false t u) :
    Visited f byMark s u where
  free hfree := by
    cases hbusy : consumerBusy t f with
    | false => exact (h.free hfree).again (h'.free hbusy)
    | true => exact (h.free hfree).untouched (h'.busy hbusy)
  busy hbusy := (h.busy hbusy).trans (h'.busy ((h.busy hbusy).busy.trans hbusy))

theorem Visited.deciders {f : Fn} {byMark : Bool} {s t : State} (h : Visited f byMark s t) : SameDeciders f s t := by
  cases hbusy : consumerBusy s f with
  | false => exact (h.free hbusy).deciders
  | true => exact (h.busy hbusy).deciders

theorem Visited.grant {f : Fn} {byMark : Bool} {s t : State} (h : Visited f byMark s t) : grantOf t f = grantOf s f := by
  cases hbusy : consumerBusy s f with
  | false => exact (h.free hbusy).grant
  | true => exact (h.busy hbusy).grant

theorem visited_resolveList {f : Fn} {fs : List Fn} (hnodup : fs.Nodup) (hmem : f ∈ fs) (marks : Fn → Bool) (s : State) :
    Visited f (marks f) s (resolveList fs marks s) := by
  obtain ⟨u, hbefore, hafter⟩ := foldl_own_step (step := fun g => resolve g (marks g))
    (fun g _ s hne => untouched_resolve hne (marks g) s) hnodup hmem s
  exact (hbefore.visited (visited_resolve f (marks f) u)).untouched hafter

theorem untouched_resolveList {f : Fn} {fs : List Fn} (hmem : f ∉ fs) (marks : Fn → Bool) (s : State) :
    Untouched f s (resolveList fs marks s) :=
  foldl_untouched (step := fun g => resolve g (marks g)) (fun g _ s hne => untouched_resolve hne (marks g) s) fs s hmem

theorem Fn.nodup_all : Fn.all.Nodup := by decide

/-! ### Grants that end -/

theorem Untouched.setGrant {f : Fn} {s t : State} (h : Untouched f s t) (g : Grant) :
    Untouched f (setGrant s f g) (setGrant t f g) where
  deciders := ⟨h.deciders.lockout, by rw [grantOf_setGrant_same, grantOf_setGrant_same], h.deciders.present, h.deciders.usable,
    h.deciders.value, h.deciders.profile⟩
  eff := h.eff
  grant := by rw [grantOf_setGrant_same, grantOf_setGrant_same]
  slots := h.slots
  busy := h.busy

/-- A grant that ends leaves its function resolved without it (R51). -/
theorem visited_endGrant {why : EndReason} {f : Fn} {s : State} (h : (grantOf s f).held.isSome = true) :
    Visited f false (Machine.setGrant s f ⟨none, some why⟩) (endGrant why f s) := by
  rw [endGrant_of_held h]
  exact (Untouched.visited (untouched_raise _ f _) (visited_resolve f false _)).untouched (untouched_lampsIfHeld _ f _)

theorem untouched_endGrants {f : Fn} {why : EndReason} {which : Fn → Bool} {s : State}
    (h : (grantOf s f).held.isSome = false ∨ which f = false) : Untouched f s (endGrants why which s) := by
  by_cases hmem : f ∈ Fn.all.filter which
  · obtain ⟨u, hbefore, hafter⟩ := foldl_own_step (step := endGrant why) (fun g f s hne => untouched_endGrant hne why s)
      (Fn.nodup_all.filter which) hmem s
    have hnone : (grantOf u f).held.isSome = false := by
      rw [hbefore.grant]
      exact h.resolve_right fun hwhich => by simp [hwhich] at hmem
    rw [endGrant_of_none hnone] at hafter
    exact hbefore.trans hafter
  · exact foldl_untouched (step := endGrant why) (fun g f s hne => untouched_endGrant hne why s) _ s hmem

theorem visited_endGrants {f : Fn} {why : EndReason} {which : Fn → Bool} {s : State}
    (hheld : (grantOf s f).held.isSome = true) (hwhich : which f = true) :
    Visited f false (Machine.setGrant s f ⟨none, some why⟩) (endGrants why which s) := by
  obtain ⟨u, hbefore, hafter⟩ := foldl_own_step (step := endGrant why) (fun g f s hne => untouched_endGrant hne why s)
    (Fn.nodup_all.filter which) (List.mem_filter.mpr ⟨Fn.mem_all f, hwhich⟩) s
  have hstill : (grantOf u f).held.isSome = true := by rw [hbefore.grant]; exact hheld
  exact ((hbefore.setGrant _).visited (visited_endGrant hstill)).untouched hafter

/-- Each function in `which` has the entry of one resolution from a state with its entry and the slots given, and each other
is left alone from such a state. -/
theorem resolvedWhere_of {which : Fn → Prop} {marks : Fn → Bool} {slots : Master → Fn → Slot} {s t : State}
    (h : ∀ f, ∃ u, effOf u f = effOf s f ∧ (∀ m, slotOf u m f = slots m f)
      ∧ (which f → ResolvedOnce f (marks f) u t) ∧ (¬which f → Untouched f u t)) :
    ResolvedWhere which marks slots s t := by
  intro f
  obtain ⟨u, heff, hslots, hon, hoff⟩ := h f
  refine ⟨fun h => ?_, fun h => (hoff h).eff.trans heff, fun m => ⟨fun h hfresh => ?_, fun h => ?_⟩⟩
  · rw [← heff]
    exact (hon h).resolved
  · rw [(hon h).slots, hslots, takenSlot_of_fresh hfresh]
  · by_cases hwhich : which f
    · rw [(hon hwhich).slots, hslots, takenSlot_of_not_fresh (h.resolve_left fun hnot => hnot hwhich)]
    · rw [(hoff hwhich).slots, hslots]

/-- Every function was visited: each is resolved where its consumer is free (R40, R45). -/
theorem resolvedWhere_of_visited {marks : Fn → Bool} {slots : Master → Fn → Slot} {s t : State}
    (h : ∀ f, ∃ u, effOf u f = effOf s f ∧ (∀ m, slotOf u m f = slots m f) ∧ consumerBusy u f = consumerBusy s f
      ∧ Visited f (marks f) u t) :
    ResolvedWhere (Resolvable s) marks slots s t := by
  refine resolvedWhere_of fun f => ?_
  obtain ⟨u, heff, hslots, hbusy, hvisited⟩ := h f
  refine ⟨u, heff, hslots, fun hfree => hvisited.free ?_, fun hnot => hvisited.busy ?_⟩
  · rw [hbusy, consumerBusy_eq_false_iff]
    exact hfree
  · rw [hbusy]
    by_contra hbusy
    exact hnot ((consumerBusy_eq_false_iff s f).mp (by simpa using hbusy))

end Sys2Proof.Machine
end

section
/-! PROOFS. Grants that begin and end, and the steps of a blend. -/
namespace Sys2Proof.Machine

/-! ### The deciding level of an entry -/

theorem decision_of_held {t : State} {f : Fn} (h : (grantOf t f).held.isSome = true) :
    decision t f = ⟨.grant, .companion, some (slotValue t .companion f)⟩ := if_pos h

theorem decision_level_ne_grant {t : State} {f : Fn} (h : (grantOf t f).held = none) : (decision t f).level ≠ .grant := by
  unfold decision
  rw [h, if_neg (by simp)]
  split
  · exact fun h => by cases h
  · split <;> exact fun h => by cases h

theorem entryFrom_entryOf {t : State} {f : Fn} (h : locked t f = false) (old : Eff) (byMark : Bool) :
    EntryOf (decision t f) ((decision t f).value.getD old.value) (entryFrom t f old byMark) := by
  by_cases hplain : isNumeric f = false ∨ (decision t f).level = .failsafe
  · rw [entryFrom_of_plain h hplain]
    exact ⟨rfl, rfl, rfl, rfl⟩
  · rw [entryFrom_of_blending h (by simpa using fun h => hplain (.inl h)) fun h => hplain (.inr h)]
    exact blendEntry_entryOf _ _ _ _ _

theorem entryFrom_level_ne_grant {t : State} {f : Fn} (h : (grantOf t f).held = none) (old : Eff) (byMark : Bool) :
    (entryFrom t f old byMark).level ≠ .grant := by
  cases hlock : locked t f with
  | true =>
    rw [entryFrom_of_locked hlock]
    exact fun h => by cases h
  | false =>
    rw [(entryFrom_entryOf hlock old byMark).level]
    exact decision_level_ne_grant h

/-! ### Notices of a resolution -/

theorem noticesStay_goLimit (st : WinchState) (s : State) : NoticesStay s (goLimit st s) :=
  (noticesStay_raise .winchLimit s).trans (.of_notices (goLimit_frame_notices st s))

theorem noticesStay_lampsIfWinch (st : WinchState) (s : State) : NoticesStay s (lampsIfWinch st s) :=
  .of_notices (lampsIfWinch_frame_only st s .notices (by decide))

theorem noticesStay_setWinch (w : WinchUnit) (s : State) : NoticesStay s (s.setWinch w) := .of_notices rfl

theorem noticesStay_winchActs (s : State) : NoticesStay s (winchActs s) := by
  have hdriven : ∀ st w, NoticesStay s (lampsIfWinch st (s.setWinch w)) := fun st w =>
    (noticesStay_setWinch w s).trans (noticesStay_lampsIfWinch st _)
  refine winchActs_cases (P := NoticesStay s) (.of_notices rfl) (hdriven _ _) ?_ ?_ fun _ _ => noticesStay_setWinch _ s
  · unfold goInward
    split
    · exact noticesStay_goLimit _ s
    · exact hdriven _ _
  · unfold goOutward
    split
    · exact noticesStay_goLimit _ s
    · exact hdriven _ _

theorem handOn_notices_of_ne {f : Fn} (h : f ≠ .winch) (s : State) : (handOn f s).notices = s.notices := by
  cases f with
  | winch => exact absurd rfl h
  | drive =>
    exact (lampResolve_frame (driveHanded s) .notices (by decide)).trans (driveHanded_frame s .notices (by decide))
  | steer => exact steerHanded_frame s .notices (by decide)
  | steermode => exact modeHanded_frame s .notices (by decide)
  | drag => exact (lampResolve_frame (dragHanded s) .notices (by decide)).trans (dragHanded_frame s .notices (by decide))
  | range => exact rangeHanded_frame s .notices (by decide)
  | scene => exact sceneHanded_frame s .notices (by decide)

theorem noticesStay_handOn (f : Fn) (s : State) : NoticesStay s (handOn f s) := by
  by_cases h : f = .winch
  · rw [h]
    exact (noticesStay_setWinch _ s).trans (noticesStay_winchActs _)
  · exact .of_notices (handOn_notices_of_ne h s)

theorem noticesStay_commitEff (f : Fn) (e : Eff) (s : State) : NoticesStay s (commitEff f e s) := by
  have hhand : ∀ z u, (handUnderlying z u).notices = u.notices := fun z u => handUnderlying_frame z u .notices (by decide)
  unfold commitEff
  refine NoticesStay.trans ?_ (.of_notices (hhand _ _))
  split
  · exact .of_notices rfl
  · exact (NoticesStay.of_notices (t := setEff s f e) rfl).trans (noticesStay_handOn f _)

theorem noticesStay_resolve (f : Fn) (byMark : Bool) (s : State) : NoticesStay s (resolve f byMark s) := by
  cases h : consumerBusy s f with
  | true =>
    rw [resolve_of_busy h]
    exact .of_notices rfl
  | false =>
    rw [resolve_of_free h]
    exact (NoticesStay.of_notices (takeSlots_frame f s .notices (by decide))).trans (noticesStay_commitEff f _ _)

theorem noticesStay_foldl {α : Type} {step : State → α → State} (h : ∀ s x, NoticesStay s (step s x)) :
    ∀ (xs : List α) (s : State), NoticesStay s (xs.foldl step s)
  | [], _ => .of_notices rfl
  | x :: xs, s => (h s x).trans (noticesStay_foldl h xs _)

theorem noticesStay_resolveList (fs : List Fn) (marks : Fn → Bool) (s : State) : NoticesStay s (resolveList fs marks s) :=
  noticesStay_foldl (fun _ f => noticesStay_resolve f (marks f) _) fs s

theorem raised_endGrant {why : EndReason} {f : Fn} {s : State} (h : (grantOf s f).held.isSome = true) :
    Raised .grantEnded s (endGrant why f s) := by
  rw [endGrant_of_held h]
  have hraised : Raised .grantEnded s (raise .grantEnded (setGrant s f ⟨none, some why⟩)) :=
    (raised_raise .grantEnded _).of_profile rfl
  exact (hraised.stay (noticesStay_resolve f false _)).stay (.of_notices (lampsIfHeld_frame _ _ .notices (by decide)))

theorem noticesStay_endGrant (why : EndReason) (f : Fn) (s : State) : NoticesStay s (endGrant why f s) := by
  cases h : (grantOf s f).held.isSome with
  | false =>
    rw [endGrant_of_none h]
    exact .of_notices rfl
  | true =>
    rw [endGrant_of_held h]
    exact (((NoticesStay.of_notices rfl).trans (noticesStay_raise .grantEnded (setGrant s f ⟨none, some why⟩))).trans
      (noticesStay_resolve f false _)).trans (.of_notices (lampsIfHeld_frame _ _ .notices (by decide)))

theorem raised_endGrants {why : EndReason} {which : Fn → Bool} {f : Fn} {s : State}
    (h : (grantOf s f).held.isSome = true) (hwhich : which f = true) : Raised .grantEnded s (endGrants why which s) := by
  have hfold : ∀ (fs : List Fn) (t : State), (grantOf t f).held.isSome = true → f ∈ fs →
      Raised .grantEnded t (fs.foldl (fun s g => endGrant why g s) t) := by
    intro fs
    induction fs with
    | nil => exact fun t _ hmem => by cases hmem
    | cons g gs ih =>
      intro t ht hmem
      have hprofile : (endGrant why g t).profile = t.profile := endGrant_frame why g t .profile (by decide)
      by_cases hg : f = g
      · subst hg
        exact (raised_endGrant ht).stay (noticesStay_foldl (fun s g => noticesStay_endGrant why g s) gs _)
      · have hkept : (grantOf (endGrant why g t) f).held.isSome = true := by rw [held_endGrant, if_neg hg]; exact ht
        exact (ih _ hkept ((List.mem_cons.mp hmem).resolve_left hg)).of_profile hprofile
  exact hfold _ s h (List.mem_filter.mpr ⟨Fn.mem_all f, hwhich⟩)

/-! ### The end of a grant -/

/-- What the end of a HELD grant leaves (R51). -/
theorem endGrant_ends {why : EndReason} {f : Fn} {s : State} (h : (grantOf s f).held.isSome = true) :
    grantOf (endGrant why f s) f = ⟨none, some why⟩ ∧ Raised .grantEnded s (endGrant why f s)
      ∧ (Resolvable s f → (effOf (endGrant why f s) f).level ≠ .grant)
      ∧ (∀ g, g ≠ f → grantOf (endGrant why f s) g = grantOf s g) := by
  have hvisited := visited_endGrant (why := why) h
  have hgrant : grantOf (endGrant why f s) f = ⟨none, some why⟩ := hvisited.grant.trans (grantOf_setGrant_same ..)
  refine ⟨hgrant, raised_endGrant h, fun hfree => ?_, fun g hg => (untouched_endGrant hg why s).grant⟩
  have honce := hvisited.free ((consumerBusy_eq_false_iff s f).mpr hfree)
  rw [honce.eff]
  exact entryFrom_level_ne_grant (by rw [grantOf_setGrant_same]) _ _

theorem fnOfNumber_eq_none {n : Nat} (h : 6 < n) : fnOfNumber n = none := by
  obtain ⟨k, rfl⟩ := Nat.exists_eq_add_of_le' h
  rfl

theorem checkRelease_of_fn {s : State} {n : Nat} {f : Fn} (h : fnOfNumber n = some f) : checkRelease s n =
    if !(fnMask s .companion).getLsbD (fnNumber f) then .error .reach
    else if (grantOf s f).held.isSome then .ok f
    else .error .noGrant := by
  unfold checkRelease
  rw [h]

theorem checkRelease_of_no_fn {s : State} {n : Nat} (h : fnOfNumber n = none) : checkRelease s n = .error .value := by
  unfold checkRelease
  rw [h]

/-- A RELEASE that its checks refuse (R54). -/
theorem release_refused {s : State} (hready : RequestReady s) {n : Byte} {c : Cause}
    (hcheck : checkRelease s n.toNat = .error c) : Refuses (.release n) c 0x03 s := by
  refine refuses_of_ready hready (q := .release n) (k := .release) rfl ?_
  show runRelease n (heard s) = _
  have hheard : checkRelease (heard s) n.toNat = .error c := hcheck
  rw [runRelease, hheard]

theorem exec_grantExpiry (f : Fn) (s : State) : exec (.grantExpiry f) s = .next (endGrant .expiry f s) := rfl

/-- Settles O29. -/
theorem grantEnds : Obligations.GrantEnds := by
  intro s f
  refine ⟨fun hheld => ?expires, fun hnone => ?nothing, fun n hready hfn => ⟨fun hreach hheld => ?released,
    fun hreach hnone => ?noGrant, fun hreach => ?reach⟩, fun n hready hn => ?value⟩
  case expires =>
    obtain ⟨hgrant, hraised, hlevel, hothers⟩ := endGrant_ends (why := .expiry) hheld
    exact ⟨_, exec_grantExpiry f s, hgrant, hraised, hlevel, hothers, endGrant_frame _ _ _⟩
  case nothing => rw [exec_grantExpiry, endGrant_of_none (by rw [hnone]; rfl)]
  case released =>
    obtain ⟨hgrant, hraised, hlevel, hothers⟩ := endGrant_ends (why := .release) (f := f) (s := heard s) hheld
    have hcheck : checkRelease (heard s) n.toNat = .ok f := by
      have hbefore : checkRelease s n.toNat = .ok f := by
        rw [checkRelease_of_fn hfn, hreach, hheld]
        rfl
      exact hbefore
    have hrun : runRequest (.release n) (heard s) = answer .release okPayload (endGrant .release f (heard s)) := by
      show runRelease n (heard s) = _
      rw [runRelease, hcheck]
    have hcomp : (endGrant .release f (heard s)).comp = (heard s).comp := endGrant_frame _ _ _ .comp (by decide)
    refine ⟨_, (exec_of_ready hready (q := .release n) rfl).trans (congrArg Host.Outcome.next hrun), ?_⟩
    have hframe := answer_frame .release okPayload (endGrant .release f (heard s))
    refine ⟨?_, ?_, fun h => ?_, fun g hg => ?_, answered_answer _ _ (congrArg CompCtx.accepted hcomp :), ?_⟩
    · rw [hframe.grantOf (by decide)]
      exact hgrant
    · exact (hraised.of_profile rfl).of_notices (hframe .notices (by decide))
    · rw [hframe.effOf (by decide)]
      exact hlevel h
    · rw [hframe.grantOf (by decide)]
      exact hothers g hg
    · exact (((heard_frame s).mono (by decide)).trans ((endGrant_frame _ _ _).mono (by decide))).trans (hframe.mono (by decide))
  case noGrant =>
    refine release_refused hready ?_
    rw [checkRelease_of_fn hfn, hreach, hnone]
    rfl
  case reach =>
    refine release_refused hready ?_
    rw [checkRelease_of_fn hfn, hreach]
    rfl
  case value => exact release_refused hready (checkRelease_of_no_fn (fnOfNumber_eq_none hn))

/-! ### The beginning of a grant -/

/-- A grant that begins leaves its function resolved with it (R52). -/
theorem visited_beginGrant (f : Fn) (d : Nat) (s : State) :
    Visited f false (setGrant s f { grantOf s f with held := some ⟨d, 0⟩ }) (beginGrant f d s) :=
  (visited_resolve f false _).untouched (untouched_lampsIfHeld _ f _)

theorem untouched_beginGrant {f g : Fn} (h : g ≠ f) (d : Nat) (s : State) : Untouched g s (beginGrant f d s) :=
  ((untouched_setGrant h _ s).trans (untouched_resolve h false _)).trans (untouched_lampsIfHeld _ g _)

theorem checkGrant_of_fn {s : State} {n : Nat} {f : Fn} (h : fnOfNumber n = some f) : checkGrant s n =
    if s.comp.barred then .error .barred
    else if !(fnMask s .companion).getLsbD (fnNumber f) then .error .reach
    else if (grantOf s f).held.isSome then .error .grantHeld
    else if locked s f then .error .locked
    else if !(authOf s f).takeover then .error .denied
    else if !usable s .companion f then .error .denied
    else if (authOf s f).tethered && !present s .radio then .error .denied
    else if !radioQuiet s f then .error .denied
    else .ok f := by
  unfold checkGrant
  rw [h]

/-- A GRANT that its checks refuse (R52). -/
theorem grant_refused {s : State} (hready : RequestReady s) {n : Byte} {duration : BitVec 16} {c : Cause}
    (hcheck : checkGrant s n.toNat = .error c) : Refuses (.grant n duration) c 0x02 s := by
  refine refuses_of_ready hready (q := .grant n duration) (k := .grant) rfl ?_
  show runGrant n duration (heard s) = _
  have hheard : checkGrant (heard s) n.toNat = .error c := hcheck
  rw [runGrant, hheard]

theorem present_radio_iff (s : State) : present s .radio = true ↔ s.radio.state = .live := by simp [present]

theorem radioQuiet_eq_true_iff (s : State) (f : Fn) : radioQuiet s f = true ↔
    ((authOf s f).tethered = true → isNumeric f = true → (slotValue s .radio f).natAbs < (authOf s f).breakaway / 2) := by
  unfold radioQuiet
  cases (authOf s f).tethered <;> cases isNumeric f <;> simp

/-- Settles O27. -/
theorem grantBeginsOrIsRefused : Obligations.GrantBeginsOrIsRefused := by
  refine ⟨fun s n duration f hready hbarred hfn hreach hnone hlock htakeover husable hpresent hquiet => ?begins,
    fun s n duration hready => ⟨fun hn => ?value, fun f hfn => ⟨fun hbarred => ?barred, fun hbarred => ⟨fun hreach => ?reach,
      fun hreach => ⟨fun hheld => ?held, fun hnone => ⟨fun hlock => ?locked, fun hlock hdenied => ?denied⟩⟩⟩⟩⟩⟩
  case begins =>
    intro d
    have hcheck : checkGrant (heard s) n.toNat = .ok f := by
      have hbefore : checkGrant s n.toNat = .ok f := by
        have htether : ((authOf s f).tethered && !present s .radio) = false := by
          cases htethered : (authOf s f).tethered with
          | false => rfl
          | true => rw [(present_radio_iff s).mpr (hpresent htethered)]; rfl
        rw [checkGrant_of_fn hfn, hbarred, hreach, hnone, hlock, htakeover, husable, htether,
          (radioQuiet_eq_true_iff s f).mpr hquiet]
        rfl
      exact hbefore
    have hrun : runRequest (.grant n duration) (heard s) = answer .grant (okPayload ++ putU 2 d) (beginGrant f d (heard s)) := by
      show runGrant n duration (heard s) = _
      rw [runGrant, hcheck]
      rfl
    have hvisited := visited_beginGrant f d (heard s)
    have hcomp : (beginGrant f d (heard s)).comp = (heard s).comp := beginGrant_frame _ _ _ .comp (by decide)
    have hframe := answer_frame .grant (okPayload ++ putU 2 d) (beginGrant f d (heard s))
    refine ⟨_, (exec_of_ready hready (q := .grant n duration) rfl).trans (congrArg Host.Outcome.next hrun), ?_⟩
    refine ⟨?_, fun g hg => ?_, fun hfree => ?_, answered_answer _ _ (congrArg CompCtx.accepted hcomp :), ?_⟩
    · rw [hframe.grantOf (by decide), hvisited.grant, grantOf_setGrant_same]
      rfl
    · rw [hframe.grantOf (by decide), (untouched_beginGrant hg d _).grant]
      rfl
    · rw [hframe.effOf (by decide), (hvisited.free ((consumerBusy_eq_false_iff s f).mpr hfree)).eff]
      have hentry := entryFrom_entryOf (t := setGrant (heard s) f { grantOf (heard s) f with held := some ⟨d, 0⟩ }) (f := f)
        hlock (effOf s f) false
      rw [decision_of_held (by rw [grantOf_setGrant_same]; rfl)] at hentry
      exact ⟨hentry.level, hentry.source, hentry.target⟩
    · exact (((heard_frame s).mono (by decide)).trans ((beginGrant_frame _ _ _).mono (by decide))).trans (hframe.mono (by decide))
  case value =>
    refine grant_refused hready ?_
    unfold checkGrant
    rw [fnOfNumber_eq_none hn]
  case barred => exact grant_refused hready (by rw [checkGrant_of_fn hfn, hbarred]; rfl)
  case reach => exact grant_refused hready (by rw [checkGrant_of_fn hfn, hbarred, hreach]; rfl)
  case held => exact grant_refused hready (by rw [checkGrant_of_fn hfn, hbarred, hreach, hheld]; rfl)
  case locked => exact grant_refused hready (by rw [checkGrant_of_fn hfn, hbarred, hreach, hnone, hlock]; rfl)
  case denied =>
    refine grant_refused hready ?_
    rw [checkGrant_of_fn hfn, hbarred, hreach, hnone, hlock]
    simp only [Bool.false_eq_true, if_false, Bool.not_true, Option.isSome_none]
    have hradio : present s .radio = false ↔ s.radio.state ≠ .live := by
      rw [Bool.eq_false_iff, ne_eq, present_radio_iff]
    obtain htakeover | husable | ⟨htethered, hgone⟩ | ⟨htethered, hnum, hloud⟩ := hdenied
    · rw [htakeover]; rfl
    · rw [husable]
      simp
    · rw [htethered, hradio.mpr hgone]
      simp
    · have hnot : radioQuiet s f = false := by
        rw [Bool.eq_false_iff, ne_eq, radioQuiet_eq_true_iff]
        exact fun h => absurd (h htethered hnum) (Nat.not_lt.mpr hloud)
      rw [hnot]
      simp

end Sys2Proof.Machine
end

section
/-! PROOFS. A master that ceases to be present, the entry to CUTOFF and the end of it, and the steps of a blend. -/
namespace Sys2Proof.Machine

/-! ### A master that is lost -/

/-- What the end of some grants and a resolution of every function leave of one function, whose grant ended. -/
theorem visited_lost_of_held {why : EndReason} {which : Fn → Bool} {f : Fn} {s : State}
    (hheld : (grantOf s f).held.isSome = true) (hwhich : which f = true) :
    Visited f false (setGrant s f ⟨none, some why⟩) (resolveList Fn.all (fun _ => false) (endGrants why which s)) :=
  (visited_endGrants hheld hwhich).again (visited_resolveList Fn.nodup_all (Fn.mem_all f) (fun _ => false) _)

theorem visited_lost_of_not {why : EndReason} {which : Fn → Bool} {f : Fn} {s : State}
    (h : (grantOf s f).held.isSome = false ∨ which f = false) :
    Visited f false s (resolveList Fn.all (fun _ => false) (endGrants why which s)) :=
  (untouched_endGrants h).visited (visited_resolveList Fn.nodup_all (Fn.mem_all f) (fun _ => false) _)

/-- A function's entry, slots, grant and consumer are the same in both states. -/
structure SameFn (f : Fn) (s u : State) : Prop where
  eff : effOf u f = effOf s f
  slots : ∀ m, slotOf u m f = slotOf s m f
  grant : grantOf u f = grantOf s f
  busy : consumerBusy u f = consumerBusy s f

theorem sameFn_of_frame {l : List Block} {s t : State} (h : SameExcept l s t)
    (hl : ∀ b ∈ [Block.slots, .resolver, .steering], b ∉ l) (f : Fn) : SameFn f s t where
  eff := h.effOf (hl _ (by decide)) f
  slots m := h.slotOf (hl _ (by decide)) m f
  grant := h.grantOf (hl _ (by decide)) f
  busy := consumerBusy_congr (congrArg Steering.state (h .steering (hl _ (by decide))))

/-- The functions after a loss: all resolved, without the grants that ended (R2, R56). -/
theorem resolvedWhere_lost {why : EndReason} {which : Fn → Bool} {s u : State} (hsame : ∀ f, SameFn f s u) :
    ResolvedWhere (Resolvable s) (fun _ => false) (slotOf s) s
      (resolveList Fn.all (fun _ => false) (endGrants why which u)) := by
  refine resolvedWhere_of_visited fun f => ?_
  by_cases hends : (grantOf u f).held.isSome = true ∧ which f = true
  · exact ⟨setGrant u f ⟨none, some why⟩, (hsame f).eff, (hsame f).slots, (hsame f).busy, visited_lost_of_held hends.1 hends.2⟩
  · refine ⟨u, (hsame f).eff, (hsame f).slots, (hsame f).busy, visited_lost_of_not ?_⟩
    rw [not_and_or, Bool.not_eq_true, Bool.not_eq_true] at hends
    exact hends

theorem grantsEnd_lost {why : EndReason} {which : Fn → Bool} {s u : State} (hsame : ∀ f, SameFn f s u)
    (hprofile : u.profile = s.profile) :
    GrantsEnd why (fun f => which f = true) s (resolveList Fn.all (fun _ => false) (endGrants why which u)) := by
  refine fun f => ⟨fun hheld hwhich => ?_, fun h => ?_⟩
  · rw [← (hsame f).grant] at hheld
    refine ⟨?_, ((raised_endGrants hheld hwhich).of_profile hprofile).stay (noticesStay_resolveList _ _ _)⟩
    rw [(visited_lost_of_held hheld hwhich).grant, grantOf_setGrant_same]
  · refine ((visited_lost_of_not (f := f) (s := u) ?_).grant).trans (hsame f).grant
    rw [(hsame f).grant]
    exact h.imp (fun h => by rw [h]; rfl) fun h => by simpa using h

theorem grantsEnd_congr {why : EndReason} {p q : Fn → Prop} {s t : State} (hpq : ∀ f, p f ↔ q f) (h : GrantsEnd why p s t) :
    GrantsEnd why q s t := by
  have heq : p = q := funext fun f => propext (hpq f)
  exact heq ▸ h

/-- The radio's silence (R9). -/
def radioSilent (s : State) : State :=
  raise .radioLapsed (s.setRadio { s.radio with state := .lapsed, timer := 0, lastSeq := none, flags := 0 })

/-- The companion's silence (R9). -/
def compSilent (s : State) : State := s.setComp { s.comp with state := .lapsed, timer := 0, flags := 0 }

theorem lapse_radio_eq {s : State} (h : s.radio.state = .live) : lapse .radio s =
    resolveList Fn.all (fun _ => false) (endGrants .tether (fun f => (authOf s f).tethered) (radioSilent s)) := by
  have hgone : present (radioSilent s) .radio = false := rfl
  rw [lapse, if_pos h]
  exact presenceChanged_radio_gone hgone _

theorem lapse_companion_eq {s : State} (h : s.comp.state = .live) : lapse .companion s =
    if s.comp.barred then compSilent s
    else resolveList Fn.all (fun _ => false) (endGrants .lapse (fun _ => true) (compSilent s)) := by
  have hgone : present (compSilent s) .companion = false := rfl
  rw [lapse, if_pos h, ← presenceChanged_companion_gone hgone]
  rfl

theorem radioSilent_frame (s : State) : SameExcept [.radio, .notices] s (radioSilent s) :=
  ((setRadio_frame_only s _).mono (by decide)).trans ((raise_frame _ _).mono (by decide))

theorem compSilent_frame (s : State) : SameExcept [.comp] s (compSilent s) := setComp_frame_only s _

/-- Settles O23. -/
theorem silenceExpiryLapses : Obligations.SilenceExpiryLapses := by
  refine fun s => ⟨fun hlive => ?radio, fun hlive => ?companion, fun hnot => ?radioRests, fun hnot => ?companionRests⟩
  case radio =>
    have hsame := sameFn_of_frame (radioSilent_frame s) (by decide)
    have hlost : MasterLost .radio s (lapse .radio s) := by
      rw [lapse_radio_eq hlive]
      exact ⟨resolvedWhere_lost hsame, fun h => (by cases h), fun _ => grantsEnd_lost hsame rfl⟩
    refine ⟨_, exec_silenceTimerExpiry .radio s, ?_, ?_, fun f htethered => ?_, fun f => ⟨(hlost.1 f).1, (hlost.1 f).2.1⟩, hlost, ?_⟩
    · rw [lapse_radio_eq hlive, (resolveList_frame _ _ _ .radio (by decide) : (resolveList _ _ _).radio = _),
        (endGrants_frame _ _ _ .radio (by decide) : (endGrants _ _ _).radio = _)]
      rfl
    · rw [lapse_radio_eq hlive]
      have hraised : Raised .radioLapsed s (radioSilent s) := (raised_raise .radioLapsed _).of_profile rfl
      exact (hraised.stay (noticesStay_foldl (fun _ f => noticesStay_endGrant _ f _) _ _)).stay (noticesStay_resolveList _ _ _)
    · obtain ⟨hends, hstands⟩ := hlost.2.2 rfl f
      cases hheld : (grantOf s f).held with
      | none => rw [hstands (.inl hheld), hheld]
      | some h => rw [(hends (by rw [hheld]; rfl) htethered).1]
    · rw [lapse_radio_eq hlive]
      exact (((radioSilent_frame s).mono (by decide)).trans ((endGrants_frame _ _ _).mono (by decide))).trans
        ((resolveList_frame _ _ _).mono (by decide))
  case companion =>
    have hsame := sameFn_of_frame (compSilent_frame s) (by decide)
    have hlost : s.comp.barred = false → MasterLost .companion s (lapse .companion s) := by
      intro hbarred
      rw [lapse_companion_eq hlive, if_neg (by rw [hbarred]; decide)]
      exact ⟨resolvedWhere_lost hsame, fun _ => grantsEnd_congr (fun _ => ⟨fun _ => trivial, fun _ => rfl⟩)
        (grantsEnd_lost hsame rfl), fun h => (by cases h)⟩
    refine ⟨_, exec_silenceTimerExpiry .companion s, ?_, fun hbarred f => ?_,
      fun hbarred => ⟨fun f => ⟨((hlost hbarred).1 f).1, ((hlost hbarred).1 f).2.1⟩, hlost hbarred⟩, fun hbarred => ?_, ?_⟩
    · rw [lapse_companion_eq hlive]
      split
      · rfl
      · rw [(resolveList_frame _ _ _ .comp (by decide) : (resolveList _ _ _).comp = _),
          (endGrants_frame _ _ _ .comp (by decide) : (endGrants _ _ _).comp = _)]
        rfl
    · obtain ⟨hends, hstands⟩ := (hlost hbarred).2.1 rfl f
      cases hheld : (grantOf s f).held with
      | none => rw [hstands (.inl hheld), hheld]
      | some h => rw [(hends (by rw [hheld]; rfl) trivial).1]
    · rw [lapse_companion_eq hlive, if_pos hbarred]
      exact compSilent_frame s
    · rw [lapse_companion_eq hlive]
      split
      · exact (compSilent_frame s).mono (by decide)
      · exact (((compSilent_frame s).mono (by decide)).trans ((endGrants_frame _ _ _).mono (by decide))).trans
          ((resolveList_frame _ _ _).mono (by decide))
  case radioRests =>
    rw [exec_silenceTimerExpiry, lapse]
    exact congrArg Host.Outcome.next (if_neg hnot)
  case companionRests =>
    rw [exec_silenceTimerExpiry, lapse]
    exact congrArg Host.Outcome.next (if_neg hnot)

/-! ### Blend steps -/

/-- The entry that a blend step starts from: the elapsed time 10 ms further (R49). -/
def steppedFrom (e : Eff) (b : Blend) : Eff := { e with blend := some { b with elapsed := b.elapsed + 10, next := 10 } }

theorem exec_blendStep (f : Fn) (s : State) : exec (.blendStep f) s = .next (blendStep f s) := rfl

theorem blendStep_of_none {f : Fn} {s : State} (h : (effOf s f).blend = none) : blendStep f s = s := by
  unfold blendStep
  rw [h]

theorem blendStep_of_some {f : Fn} {s : State} {b : Blend} (h : (effOf s f).blend = some b) : blendStep f s =
    commitEff f (steppedEntry (entryFrom s f (steppedFrom (effOf s f) b) false))
      (takeSlots f (setEff s f (steppedFrom (effOf s f) b))) := by
  have hentry : resolvedEntry (takeSlots f (setEff s f (steppedFrom (effOf s f) b))) f false
      = entryFrom s f (steppedFrom (effOf s f) b) false := by
    rw [resolvedEntry_eq, ((sameDeciders_setEff s f f _).trans (sameDeciders_takeSlots f f _)).entryFrom,
      (takeSlots_frame f _).effOf (by decide), effOf_setEff_same]
  rw [← hentry]
  unfold blendStep
  rw [h]
  rfl

theorem effOf_blendStep_same {f : Fn} {s : State} {b : Blend} (h : (effOf s f).blend = some b) :
    effOf (blendStep f s) f = steppedEntry (entryFrom s f (steppedFrom (effOf s f) b) false) := by
  rw [blendStep_of_some h, effOf_commitEff_same]

theorem effOf_blendStep_ne {f g : Fn} (h : g ≠ f) (s : State) : effOf (blendStep f s) g = effOf s g := by
  cases hblend : (effOf s f).blend with
  | none => rw [blendStep_of_none hblend]
  | some b =>
    rw [blendStep_of_some hblend, effOf_commitEff_ne h, (takeSlots_frame f _).effOf (by decide), effOf_setEff_ne _ h]

theorem steppedEntry_of_running {e : Eff} {b : Blend} (h : e.blend = some b) (hstarted : b.elapsed ≠ 0) (hshort : b.elapsed < b.time) :
    steppedEntry e = { e with value := b.start + ((e.target - b.start) * (b.elapsed : Int)).tdiv b.time } := by
  unfold steppedEntry
  rw [h]
  exact (if_neg hstarted).trans (if_pos hshort)

theorem steppedEntry_of_over {e : Eff} {b : Blend} (h : e.blend = some b) (hstarted : b.elapsed ≠ 0) (hover : b.time ≤ b.elapsed) :
    steppedEntry e = { e with value := e.target, blend := none } := by
  unfold steppedEntry
  rw [h]
  exact (if_neg hstarted).trans (if_neg (Nat.not_lt.mpr hover))

/-- A step moves the value and the blend alone. -/
theorem steppedEntry_keeps (e : Eff) : (steppedEntry e).target = e.target ∧ (steppedEntry e).level = e.level := by
  unfold steppedEntry
  split
  · split
    · exact ⟨rfl, rfl⟩
    · split <;> exact ⟨rfl, rfl⟩
  · exact ⟨rfl, rfl⟩

/-- Settles O30. -/
theorem blendStepMoves : Obligations.BlendStepMoves := by
  refine fun s f => ⟨fun b v hblend hnum hlock hlevel hvalue hmasters => ?steps, fun hnone => ?rests⟩
  case rests => rw [exec_blendStep, blendStep_of_none hnone]
  case steps =>
    have hentry : entryFrom s f (steppedFrom (effOf s f) b) false =
        { plainEntry (decision s f) v with
          value := effective s f, blend := some { b with elapsed := b.elapsed + 10, next := 10 } } := by
      rw [entryFrom_of_blending hlock hnum hlevel, hvalue]
      exact blendEntry_of_same_master (e := steppedFrom (effOf s f) b) rfl hmasters _ _
    have heff := effOf_blendStep_same hblend
    rw [hentry] at heff
    refine ⟨_, exec_blendStep f s, ?_, ?_, fun hshort => ?_, fun hover => ?_, fun g hg => effOf_blendStep_ne hg s,
      blendStep_frame f s⟩
    · rw [heff, (steppedEntry_keeps _).1]
      rfl
    · rw [heff, (steppedEntry_keeps _).2]
      rfl
    · rw [steppedEntry_of_running (b := { b with elapsed := b.elapsed + 10, next := 10 }) rfl (Nat.succ_ne_zero _) hshort] at heff
      exact ⟨(congrArg Eff.value heff :), (congrArg Eff.blend heff :)⟩
    · rw [steppedEntry_of_over (b := { b with elapsed := b.elapsed + 10, next := 10 }) rfl (Nat.succ_ne_zero _) hover] at heff
      exact ⟨(congrArg Eff.value heff :), (congrArg Eff.blend heff :)⟩

/-! ### The lockout set filled -/

theorem lockout_endGrants (why : EndReason) (which : Fn → Bool) (s : State) :
    (endGrants why which s).resolver.lockout = s.resolver.lockout := by
  by_cases h : (grantOf s .scene).held.isSome = true ∧ which .scene = true
  · exact (visited_endGrants h.1 h.2).deciders.lockout
  · rw [not_and_or, Bool.not_eq_true, Bool.not_eq_true] at h
    exact (untouched_endGrants h).deciders.lockout

/-- The functions of the lockout set, in the order of their resolution. -/
theorem lockable_iff_mem (f : Fn) : lockable f = true ↔ f ∈ [Fn.drive, .winch, .drag] := by cases f <;> decide

/-- The lockout set is marked filled (R41). -/
def lockoutSet (b : Bool) (s : State) : State := s.setResolver { s.resolver with lockout := b }

/-- Filling the lockout set ends the grants on its functions, which take their lockout values (R41). -/
theorem fillLockout_locks {f : Fn} (hf : lockable f = true) (s : State) :
    (grantOf (fillLockout s) f).held = none ∧ (effOf (fillLockout s) f).level = .lockout
      ∧ effective (fillLockout s) f = lockValue s f := by
  have hvisited := visited_resolveList (by decide) ((lockable_iff_mem f).mp hf) (fun _ => false)
    (endGrants .lockout lockable (lockoutSet true s))
  have hlock : locked (endGrants .lockout lockable (lockoutSet true s)) f = true := by
    rw [locked, lockout_endGrants, hf]
    rfl
  have hprofile : (endGrants .lockout lockable (lockoutSet true s)).profile = s.profile :=
    endGrants_frame .lockout lockable (lockoutSet true s) .profile (by decide)
  have honce := hvisited.free (consumerBusy_of_ne (by rintro rfl; cases hf) _)
  have heff : effOf (fillLockout s) f = _ := honce.eff
  refine ⟨?_, ?_, ?_⟩
  · exact (congrArg Grant.held hvisited.grant).trans (held_endGrants_of_which hf _)
  · rw [heff, entryFrom_of_locked hlock]
  · rw [effective, heff, entryFrom_of_locked hlock, lockValue, hprofile]
    rfl

/-! ### The entry to CUTOFF -/

/-- Pack Protection's record is `v`, but for the third recovery condition and a recovery dwell that has not run. -/
def CutoffRecord (v : Protection) (s : State) : Prop :=
  ∃ r d, s.protection = { v with recovery := r, driveOk := d } ∧ r.getD 0 = 0

theorem cutoffRecord_recoveryDriveTest {v : Protection} {s : State} (h : CutoffRecord v s) :
    CutoffRecord v (recoveryDriveTest s) := by
  obtain ⟨r, d, hrecord, hrests⟩ := h
  refine ⟨(recoveryDriveTest s).protection.recovery, underlyingInBand s, ?_, ?_⟩
  · rw [recoveryDriveTest, recoveryTest_protection, State.setProtection_protection, hrecord]
  · rw [recoveryDriveTest, recoveryTest_protection, State.setProtection_protection, hrecord]
    dsimp only
    split
    · split
      · exact hrests
      · rfl
    · exact hrests

theorem resolverKept_cutoffRecord (v : Protection) : ResolverKept (CutoffRecord v) :=
  resolverKept_of_protection
    (fun _ _ hsame hs => by
      obtain ⟨r, d, hrecord, hrests⟩ := hs
      exact ⟨r, d, (hsame .protection (by decide)).trans hrecord, hrests⟩)
    cutoffRecord_recoveryDriveTest

theorem cutoffFilled_record (why : LatchReason) (s : State) :
    CutoffRecord (cutoffSet why s).protection (cutoffFilled why s) :=
  (resolverKept_cutoffRecord _).fillLockout (fun _ h => h) ⟨none, (cutoffSet why s).protection.driveOk, rfl, rfl⟩

/-- The state before the third recovery condition is tested at the entry to CUTOFF. -/
def cutoffEnds (why : LatchReason) (s : State) : State := lampResolve (raise .packState (retarget (cutoffFilled why s)))

theorem enterCutoff_of_ends (why : LatchReason) (s : State) : enterCutoff why s = recoveryDriveTest (cutoffEnds why s) := rfl

theorem cutoffEnds_frame (why : LatchReason) (s : State) :
    SameExcept [.protection, .notices, .lamps] (cutoffFilled why s) (cutoffEnds why s) :=
  (((retarget_frame_only _).mono (by decide)).trans ((raise_frame _ _).mono (by decide))).trans
    ((lampResolve_frame _).mono (by decide))

theorem cutoffFilled_profile (why : LatchReason) (s : State) : (cutoffFilled why s).profile = s.profile :=
  fillLockout_frame _ .profile (by decide)

theorem enterCutoff_frame_filled (why : LatchReason) (s : State) :
    SameExcept [.protection, .notices, .lamps] (cutoffFilled why s) (enterCutoff why s) :=
  (cutoffEnds_frame why s).trans ((recoveryDriveTest_frame_only _).mono (by decide))

/-- The allowance target in CUTOFF (R140, log entry 22). -/
theorem targetFor_of_cutoff {p : Pack} {v : Protection} (h : v.state = .cutoff) : targetFor p v =
    if v.blind then min p.servoReserve (p.amax * p.blindCap / 100) else p.servoReserve := by
  have hbase : baseTarget p v.thresholds v.state v.vmin = p.servoReserve := if_pos (.inr h)
  rw [targetFor, hbase]
  rfl

/-- Pack Protection's record after the entry to CUTOFF (R135, R137, R140). -/
theorem enterCutoff_protection (why : LatchReason) (s : State) :
    ∃ d, (enterCutoff why s).protection =
      { s.protection with
        state := .cutoff, dwell := none, driveOk := d
        recovery :=
          if s.protection.cellOk = true ∧ s.protection.currentOk = true
              ∧ inBand s (effOf (enterCutoff why s) .drive).underlying = true then some 0 else none
        target := targetFor s.profile.pack (cutoffSet why s).protection
        allowance := min s.protection.allowance (targetFor s.profile.pack (cutoffSet why s).protection) } := by
  obtain ⟨r, d, hrecord, hrests⟩ := cutoffFilled_record why s
  have hends : (cutoffEnds why s).protection = (retarget (cutoffFilled why s)).protection := raised_ends_protection _
  have hprofile : (cutoffEnds why s).profile = s.profile :=
    (cutoffEnds_frame why s .profile (by decide)).trans (cutoffFilled_profile why s)
  have hband : underlyingInBand (cutoffEnds why s) = inBand s (effOf (enterCutoff why s) .drive).underlying := by
    rw [enterCutoff_of_ends, (recoveryDriveTest_frame_only _).effOf (by decide), underlyingInBand, inBand, inBand, hprofile]
  refine ⟨underlyingInBand (cutoffEnds why s), ?_⟩
  rw [← hband, enterCutoff_of_ends, recoveryDriveTest, recoveryTest_protection, State.setProtection_protection, hends,
    retarget_protection, cutoffFilled_profile, hrecord]
  dsimp only
  rw [hrests, if_pos (show (cutoffSet why s).protection.state = .cutoff from rfl)]
  rfl

theorem enterCutoff_retained (why : LatchReason) (s : State) : (enterCutoff why s).retained.latch = some why := by
  have hfilled : (cutoffFilled why s).retained = (cutoffSet why s).retained := fillLockout_frame _ .retained (by decide)
  rw [(enterCutoff_frame_filled why s .retained (by decide) : (enterCutoff why s).retained = _), hfilled]
  rfl

theorem enterCutoff_lockout (why : LatchReason) (s : State) : (enterCutoff why s).resolver.lockout = true := by
  obtain ⟨d, hrecord⟩ := enterCutoff_protection why s
  exact (lockSafe_enterCutoff why s).flags.state.mp (congrArg Protection.state hrecord)

theorem raised_enterCutoff (why : LatchReason) (s : State) : Raised .packState s (enterCutoff why s) := by
  have hraised : Raised .packState (cutoffFilled why s) (raise .packState (retarget (cutoffFilled why s))) :=
    (raised_raise .packState _).of_profile rfl
  refine ((hraised.of_profile (cutoffFilled_profile why s)).of_notices ?_)
  rw [enterCutoff_of_ends, (recoveryDriveTest_frame_only _ .notices (by decide) : (recoveryDriveTest _).notices = _)]
  exact lampResolve_frame _ .notices (by decide)

theorem enterCutoff_locks {f : Fn} (hf : lockable f = true) (why : LatchReason) (s : State) :
    (grantOf (enterCutoff why s) f).held = none ∧ (effOf (enterCutoff why s) f).level = .lockout
      ∧ effective (enterCutoff why s) f = lockValue s f := by
  have hframe := enterCutoff_frame_filled why s
  have hlocks := fillLockout_locks hf (cutoffSet why s)
  rw [hframe.grantOf (by decide), hframe.effOf (by decide), hframe.effective (by decide)]
  exact hlocks

theorem dwellExpires_of_runs {s : State} (hjudging : judging s.protection.state = true) (hdwell : s.protection.dwell.isSome = true) :
    dwellExpires s = enterCutoff .undervolt s := if_pos (by rw [hjudging, hdwell]; rfl)

theorem dwellExpires_of_rests {s : State} (h : s.protection.dwell = none ∨ judging s.protection.state = false) :
    dwellExpires s = s := if_neg (by obtain h | h := h <;> simp [h])

theorem exec_cutoffDwellExpiry (s : State) : exec .cutoffDwellExpiry s = .next (dwellExpires s) := rfl

/-- A sweep that resolves a count below 2 enters CUTOFF (R127, R135). -/
theorem cellsComplete_of_nopack {s : State} (hcount : s.sense.count = none) (hstate : s.protection.state ≠ .cutoff)
    (codes : Vector Code 6) (hfew : (cellsSwept codes s).count.getD 0 < 2) :
    SameExcept [.protection] (enterCutoff .nopack (cellsJudged codes s)) (cellsComplete codes s)
      ∧ (cellsComplete codes s).protection.state = .cutoff := by
  have hnopack : foundNopack s.sense ((cellsSwept codes s).count.getD 0) = true := by
    rw [foundNopack, hcount]
    exact decide_eq_true hfew
  obtain ⟨d, hrecord⟩ := enterCutoff_protection .nopack (cellsJudged codes s)
  have hhanded : nopackHanded (cellsJudged codes s) = enterCutoff .nopack (cellsJudged codes s) := if_neg hstate
  have hstill : evaluateState (enterCutoff .nopack (cellsJudged codes s)) = enterCutoff .nopack (cellsJudged codes s) :=
    evaluateState_of_not_judging (by rw [hrecord]; rfl)
  obtain ⟨c, r, htested⟩ := recoveryCellTest_protection (retarget (enterCutoff .nopack (cellsJudged codes s)))
  rw [cellsComplete_eq, if_pos hnopack, hhanded, hstill]
  refine ⟨(retarget_frame_only _).trans (recoveryCellTest_frame_only _), ?_⟩
  rw [htested, retarget_protection, hrecord]

/-- Settles O47. -/
theorem cutoffEntered : Obligations.CutoffEntered := by
  refine ⟨fun s hstate hdwell => ?undervolt, fun s hrests => ?rests, fun s codes hcount hstate => ?nopack,
    fun s codes hcount hcutoff => ?again⟩
  case undervolt =>
    intro reserve target
    have hjudging : judging s.protection.state = true := by obtain h | h | h := hstate <;> rw [h] <;> rfl
    obtain ⟨d, hrecord⟩ := enterCutoff_protection .undervolt s
    have htarget : targetFor s.profile.pack (cutoffSet .undervolt s).protection = target := targetFor_of_cutoff rfl
    rw [htarget] at hrecord
    refine ⟨enterCutoff .undervolt s, by rw [exec_cutoffDwellExpiry, dwellExpires_of_runs hjudging hdwell],
      (congrArg Protection.state hrecord :), enterCutoff_retained _ s, (congrArg Protection.dwell hrecord :),
      enterCutoff_lockout _ s, ?_, (enterCutoff_locks rfl _ s).2.2, (enterCutoff_locks rfl _ s).2.2,
      (enterCutoff_locks rfl _ s).2.2, fun f hf => ⟨(enterCutoff_locks hf _ s).2.1, (enterCutoff_locks hf _ s).1⟩,
      (congrArg Protection.target hrecord :), (congrArg Protection.allowance hrecord :), raised_enterCutoff _ s,
      enterCutoff_frame _ s, fun hs => ?_⟩
    · refine (congrArg Protection.recovery hrecord : _ = _).trans ?_
      exact if_congr (and_congr Iff.rfl (and_congr Iff.rfl (inBand_eq_true_iff s _))) rfl rfl
    · have hstops := packKept_stopping.enterCutoff .undervolt hs
      have hdriven := hstops.winch (hstops.held.trans (enterCutoff_locks rfl _ s).2.2)
      exact ⟨hstops.drive (enterCutoff_locks rfl _ s).2.2, hdriven, hstops.duty hdriven⟩
  case rests =>
    have hnot : s.protection.dwell = none ∨ judging s.protection.state = false := by
      obtain h | h | h := hrests
      · exact .inl h
      · exact .inr (by rw [h]; rfl)
      · exact .inr (by rw [h]; rfl)
    rw [exec_cutoffDwellExpiry, dwellExpires_of_rests hnot]
  case nopack =>
    refine ⟨_, exec_cellSweepComplete codes s, fun hfew => ?_⟩
    rw [cellsComplete_sense] at hfew
    obtain ⟨hframe, hcutoff⟩ := cellsComplete_of_nopack hcount hstate codes hfew
    have hresolver : (cellsComplete codes s).resolver = _ := hframe .resolver (by decide)
    have hretained : (cellsComplete codes s).retained = _ := hframe .retained (by decide)
    refine ⟨hcutoff, by rw [hretained]; exact enterCutoff_retained _ _, by rw [hresolver]; exact enterCutoff_lockout _ _, ?_, ?_, ?_⟩
    · rw [hframe.effective (by decide)]
      exact (enterCutoff_locks rfl _ _).2.2
    · rw [hframe.effective (by decide)]
      exact (enterCutoff_locks rfl _ _).2.2
    · exact ((raised_enterCutoff .nopack (cellsJudged codes s)).of_profile rfl).of_notices (hframe .notices (by decide))
  case again =>
    have htested := recoveryCellTest_of_cutoff (s := cutoffJudged codes s) hcutoff
    rw [← cellsComplete_of_cutoff hcutoff] at htested
    have hretained : (cellsComplete codes s).retained = cutoffRetained codes s := by
      rw [cellsComplete_of_cutoff hcutoff]
      exact recoveryCellTest_frame_only _ .retained (by decide)
    have hsense := cellsComplete_sense codes s
    refine ⟨_, exec_cellSweepComplete codes s, fun hfew => ⟨?_, ?_, ?_⟩, fun hmany => ?_, cellsComplete_frame_cutoff hcutoff codes⟩
    · rw [htested]
      exact hcutoff
    · rw [hsense] at hfew
      rw [hretained, cutoffRetained, if_pos]
      rw [foundNopack, hcount]
      exact decide_eq_true hfew
    · have hnot : ¬cellOkNow (cutoffJudged codes s) = true := fun h => by
        have htwo : 2 ≤ (cellsSwept codes s).count.getD 0 := ((cellOkNow_iff _).mp h).1
        rw [hsense] at hfew
        exact absurd htwo (Nat.not_le.mpr hfew)
      rw [htested]
      exact if_neg fun h => hnot h.1
    · rw [hsense] at hmany
      rw [hretained, cutoffRetained, if_neg]
      rw [foundNopack, hcount]
      simp
      omega

/-! ### The end of CUTOFF -/

theorem exec_recoveryDwellExpiry (s : State) : exec .recoveryDwellExpiry s = .next (recoveryExpires s) := rfl

/-- The latch is cleared and the state is NORMAL (R138). -/
def cutoffCleared (s : State) : State :=
  (s.setRetained { s.retained with latch := none }).setProtection { s.protection with state := .normal, recovery := none }

theorem leaveCutoff_eq (s : State) :
    leaveCutoff s = lampResolve (raise .packState (retarget (emptyLockout (cutoffCleared s)))) := rfl

theorem leaveCutoff_frame_emptied (s : State) :
    SameExcept [.protection, .notices, .lamps] (emptyLockout (cutoffCleared s)) (leaveCutoff s) :=
  (((retarget_frame_only _).mono (by decide)).trans ((raise_frame _ _).mono (by decide))).trans
    ((lampResolve_frame _).mono (by decide))

/-- Outside CUTOFF a resolution moves no recovery dwell (R137). -/
theorem resolverKept_normal (r : Option Nat) :
    ResolverKept fun s => s.protection.state = .normal ∧ s.protection.recovery = r :=
  resolverKept_of_protection
    (fun s t hsame hs => by
      have hprotection : t.protection = s.protection := hsame .protection (by decide)
      rw [hprotection]
      exact hs)
    fun {s} hs => by
      rw [recoveryDriveTest, recoveryTest_protection, State.setProtection_protection]
      exact ⟨hs.1, (if_neg (by rw [hs.1]; decide)).trans hs.2⟩

/-- An entry that no source decided takes the resolved value at once (R41, R48). -/
theorem entryFrom_of_uncontrolled {t : State} {f : Fn} {old : Eff} {v : Int} (hlock : locked t f = false) (hsource : old.source = .none)
    (hblend : old.blend = none) (hvalue : (decision t f).value = some v) :
    (entryFrom t f old false).value = v ∧ (entryFrom t f old false).blend = none
      ∧ (entryFrom t f old false).level = (decision t f).level := by
  refine and_assoc.mp ⟨?_, (entryFrom_entryOf hlock old false).level⟩
  by_cases hplain : isNumeric f = false ∨ (decision t f).level = .failsafe
  · rw [entryFrom_of_plain hlock hplain, hvalue]
    exact ⟨rfl, rfl⟩
  · rw [entryFrom_of_blending hlock (by simpa using fun h => hplain (.inl h)) fun h => hplain (.inr h), hvalue]
    refine blendEntry_of_ends _ (fun h => ?_) fun h => ?_
    · obtain ⟨h, -⟩ | ⟨h, -⟩ := h.1 <;> rw [hsource] at h <;> cases h
    · rw [hblend] at h
      cases h.1

/-- Settles O48. -/
theorem cutoffLeft : Obligations.CutoffLeft := by
  refine fun s => ⟨fun hcutoff hrecovery => ?leaves, fun hrests => ?rests⟩
  case rests =>
    have hnot : ¬(s.protection.state = .cutoff ∧ s.protection.recovery.isSome = true) := by
      obtain h | h := hrests
      · exact fun h' => h h'.1
      · rw [h]
        exact fun h' => by cases h'.2
    rw [exec_recoveryDwellExpiry]
    exact congrArg Host.Outcome.next (if_neg hnot)
  case leaves =>
    have hemptied := (resolverKept_normal none).emptyLockout (fun _ h => h) (s := cutoffCleared s) ⟨rfl, rfl⟩
    have hframe := leaveCutoff_frame_emptied s
    have hprotection : (leaveCutoff s).protection = (retarget (emptyLockout (cutoffCleared s))).protection :=
      raised_ends_protection _
    have hretained : (emptyLockout (cutoffCleared s)).retained = { s.retained with latch := none } :=
      emptyLockout_frame _ .retained (by decide)
    have hprofile : (emptyLockout (cutoffCleared s)).profile = s.profile := emptyLockout_frame _ .profile (by decide)
    refine ⟨leaveCutoff s, by rw [exec_recoveryDwellExpiry]; exact congrArg Host.Outcome.next (if_pos ⟨hcutoff, hrecovery⟩),
      ?_, ?_, ?_, ?_, ?_, fun f v hf hsource hblend hvalue => ?_, fun f hf => ?_, leaveCutoff_frame s⟩
    · rw [hprotection]
      exact hemptied.1
    · rw [hprotection]
      exact hemptied.2
    · rw [(hframe .retained (by decide) : (leaveCutoff s).retained = _), hretained]
    · rw [(hframe .resolver (by decide) : (leaveCutoff s).resolver = _)]
      exact (visited_resolveList (f := .drive) (by decide) (by decide) (fun _ => false) _).deciders.lockout
    · have hraised : Raised .packState (emptyLockout (cutoffCleared s)) (raise .packState (retarget (emptyLockout (cutoffCleared s)))) :=
        (raised_raise .packState _).of_profile rfl
      exact (hraised.of_profile hprofile).of_notices (lampResolve_frame _ .notices (by decide))
    · have honce := (visited_resolveList (by decide) ((lockable_iff_mem f).mp hf) (fun _ => false)
        (lockoutSet false (cutoffCleared s))).free (consumerBusy_of_ne (by rintro rfl; cases hf) _)
      have heff : effOf (leaveCutoff s) f = entryFrom (lockoutSet false (cutoffCleared s)) f (effOf s f) false := by
        rw [hframe.effOf (by decide)]
        exact honce.eff
      rw [effective, heff]
      exact entryFrom_of_uncontrolled (t := lockoutSet false (cutoffCleared s)) rfl hsource hblend hvalue
    · rw [hframe.effOf (by decide)]
      exact (untouched_resolveList (fun hmem => by rw [(lockable_iff_mem f).mpr hmem] at hf; cases hf) _ _).eff

end Sys2Proof.Machine
end

section
/-! PROOFS. The Lamp Unit: lamp resolutions, the blink generator, the sequencer and the writes of patterns. -/
namespace Sys2Proof.Machine

/-! ### A lamp resolution -/

theorem setLamps_frame_only (s : State) (v : LampUnit) : SameExcept [.lamps] s (s.setLamps v) := by
  intro b hb; cases b <;> first | exact (hb (by decide)).elim | rfl

/-- The results of the Lamp Unit's four stages stand in its record. -/
structure LampsAt (t : State) : Prop where
  role : ∀ i, (t.lamps.channels.get i).role = roleLevel t (roleOf t i) (baseLevel (t.lamps.channels.get i))
  wished : ∀ i, (t.lamps.channels.get i).wished = wishedLevel t (roleOf t i) (t.lamps.channels.get i).role
  output : ∀ i, (t.lamps.channels.get i).output = outputLevel (t.lamps.channels.get i).wished t.lamps.claim t.lamps.grant
  claim : t.lamps.claim =
    ((List.finRange 8).map fun i => (t.profile.lamps.channels.get i).rated * (t.lamps.channels.get i).wished / 1000).sum

theorem channel_lampResolve (s : State) (i : Fin 8) : (lampResolve s).lamps.channels.get i =
    { s.lamps.channels.get i with
      role := roleLevel s (roleOf s i) (baseLevel (s.lamps.channels.get i))
      wished := wishOf s i
      output := outputLevel (wishOf s i) (lampClaim s) s.lamps.grant } := vector_get_ofFn _ i

theorem baseLevel_lampResolve (s : State) (i : Fin 8) :
    baseLevel ((lampResolve s).lamps.channels.get i) = baseLevel (s.lamps.channels.get i) := by
  rw [channel_lampResolve]
  rfl

theorem headLit_lampResolve (s : State) : headLit (lampResolve s) = headLit s := by
  unfold headLit
  refine congrArg (List.any (List.finRange 8)) (funext fun i => ?_)
  rw [baseLevel_lampResolve]
  rfl

theorem roleLevel_lampResolve (s : State) (r : Role) (base : Nat) : roleLevel (lampResolve s) r base = roleLevel s r base := by
  cases r with
  | tail =>
    unfold roleLevel
    rw [headLit_lampResolve]
    rfl
  | _ => rfl

theorem lampsAt_lampResolve (s : State) : LampsAt (lampResolve s) where
  role i := by
    rw [baseLevel_lampResolve, roleLevel_lampResolve, channel_lampResolve]
    rfl
  wished i := by
    rw [channel_lampResolve]
    rfl
  output i := by
    rw [channel_lampResolve]
    rfl
  claim := by
    have hwished : ∀ i, ((lampResolve s).lamps.channels.get i).wished = wishOf s i := fun i => by rw [channel_lampResolve]
    simp only [hwished]
    rfl

theorem headLit_iff (s : State) :
    headLit s = true ↔ ∃ i, roleOf s i = .head ∧ 0 < baseLevel (s.lamps.channels.get i) := by
  unfold headLit
  simp

theorem anyHeld_iff (s : State) : anyHeld s = true ↔ ∃ f, (grantOf s f).held.isSome = true := by
  unfold anyHeld
  simp

theorem winchDriven_eq_true_iff (w : WinchUnit) : winchDriven w = true ↔ w.state = .inward ∨ w.state = .outward := by
  simp [winchDriven]

/-- The record of a lamp resolution is what the four stages say (R154 to R157). -/
theorem lampsResolved_of_at {t : State} (h : LampsAt t) : LampsResolved t := by
  unfold LampsResolved
  intro l role base blink rest lit prot
  have hbase : ∀ i, base i = baseLevel (t.lamps.channels.get i) := by
    intro i
    simp only [base, baseLevel]
    cases (t.lamps.channels.get i).patterned <;> cases (t.lamps.channels.get i).pattern <;> rfl
  have hrest : rest ↔ atRest t = true := (atRest_iff t).symm
  have hlit : lit ↔ headLit t = true := by
    rw [headLit_iff]
    exact exists_congr fun i => and_congr Iff.rfl (by rw [hbase])
  refine ⟨fun i => ?_, h.claim⟩
  intro c
  have hrole : ∀ r, role i = r → c.role = roleLevel t r (base i) := fun r hr => by rw [hbase, ← hr]; exact h.role i
  have hwished : c.wished = wishedLevel t (role i) c.role := h.wished i
  refine ⟨fun hr => ?_, fun hr => ⟨fun hall => ?_, fun hnot => ?_⟩, fun hr => ⟨fun hyes => ?_, fun hno => ?_⟩, fun hr => hrole _ hr,
    fun hr => hrole _ hr, fun hr => hrole _ hr, fun hr => ?_, fun hr => ⟨fun hyes => ?_, fun hno => ?_⟩, fun hp => ?_, fun hp => ?_,
    fun hp => ?_, fun hp => ?_, h.output i⟩
  · obtain hr | hr | hr := hr <;> exact hrole _ hr
  · exact (hrole _ hr).trans (if_pos ⟨hrest.mp hall.1, hall.2⟩)
  · exact (hrole _ hr).trans (if_neg fun hall => hnot ⟨hrest.mpr hall.1, hall.2⟩)
  · exact (hrole _ hr).trans (if_pos (hlit.mp hyes))
  · exact (hrole _ hr).trans (if_neg fun hyes => hno (hlit.mpr hyes))
  · exact (hrole _ hr).trans (if_congr (winchDriven_eq_true_iff _) rfl rfl)
  · exact (hrole _ hr).trans (if_pos ((anyHeld_iff t).mpr hyes))
  · refine (hrole _ hr).trans (if_neg fun hyes => ?_)
    obtain ⟨f, hf⟩ := (anyHeld_iff t).mp hyes
    rw [hno f] at hf
    cases hf
  · rw [hwished, wishedLevel]
    obtain hp | hp := hp <;> rw [show t.protection.state = _ from hp]
  · rw [hwished, wishedLevel, show t.protection.state = _ from hp]
    rfl
  · rw [hwished, wishedLevel, show t.protection.state = _ from hp]
  · rw [hwished, wishedLevel, show t.protection.state = _ from hp]
    rfl

theorem lampsResolved_lampResolve (s : State) : LampsResolved (lampResolve s) := lampsResolved_of_at (lampsAt_lampResolve s)

theorem exec_blinkToggle (s : State) : exec .blinkToggle s = .next (blinkExpires s) := rfl

/-- Settles O50. -/
theorem blinkToggleResolvesTheLamps : Obligations.BlinkToggleResolvesTheLamps := by
  refine fun s => ⟨_, exec_blinkToggle s, rfl, rfl, lampsResolved_lampResolve _, fun i => ?_, rfl, rfl, rfl, ?_⟩
  · have hchannel := channel_lampResolve (s.setLamps { s.lamps with blinkOn := !s.lamps.blinkOn, blinkTimer := s.profile.lamps.halfPeriod }) i
    rw [blinkExpires, hchannel]
    exact ⟨rfl, rfl, rfl⟩
  · exact (setLamps_frame_only _ _).trans (lampResolve_frame _)

/-! ### The sequencer -/

theorem stepExpires_of_none {s : State} (h : s.lamps.position = none) : stepExpires s = s := by
  unfold stepExpires
  rw [h]

theorem stepExpires_of_next {s : State} {p : Position} {j : Nat} (h : s.lamps.position = some p)
    (hmid : p.step ≠ cycleEnd (activeBank s.lamps)) (hnext : findStep (activeBank s.lamps) (p.step + 1) = some j) :
    stepExpires s = lampResolve (startStep j s) := by
  unfold stepExpires
  rw [h]
  dsimp only
  rw [if_neg hmid, hnext]

theorem stepExpires_of_end {s : State} {p : Position} (h : s.lamps.position = some p)
    (hend : p.step = cycleEnd (activeBank s.lamps) ∨ findStep (activeBank s.lamps) (p.step + 1) = none) :
    stepExpires s = lampResolve (wrapCycle s) := by
  unfold stepExpires
  rw [h]
  dsimp only
  by_cases hlast : p.step = cycleEnd (activeBank s.lamps)
  · rw [if_pos hlast]
  · rw [if_neg hlast, hend.resolve_left hlast]

theorem pattern_lampResolve (s : State) (i : Fin 8) :
    ((lampResolve s).lamps.channels.get i).pattern = (s.lamps.channels.get i).pattern := by rw [channel_lampResolve]

theorem pattern_startStep (j : Nat) (s : State) (i : Fin 8) : ((startStep j s).lamps.channels.get i).pattern =
    if (stepAt (activeBank s.lamps) j).mask.getLsbD i.val then some (stepAt (activeBank s.lamps) j).level
    else (s.lamps.channels.get i).pattern := by
  have hchannel : (startStep j s).lamps.channels.get i =
      if (stepAt (activeBank s.lamps) j).mask.getLsbD i.val then
        { s.lamps.channels.get i with pattern := some (stepAt (activeBank s.lamps) j).level }
      else s.lamps.channels.get i := vector_get_ofFn _ i
  rw [hchannel]
  split <;> rfl

theorem startStep_frame_only (j : Nat) (s : State) : SameExcept [.lamps] s (startStep j s) := setLamps_frame_only s _

/-- The lamps after a pending switch is taken at the wrap (R150). -/
theorem takeSwitch_lamps (s : State) : (takeSwitch s).lamps =
    { s.lamps with active := s.lamps.active != s.lamps.switchPending, switchPending := false } := by
  unfold takeSwitch
  cases h : s.lamps.switchPending with
  | true =>
    rw [if_pos rfl, (raise_frame .bankSwitched _ .lamps (by decide) : (raise .bankSwitched _).lamps = _)]
    simp
  | false =>
    rw [if_neg Bool.false_ne_true, Bool.bne_false, ← h]

theorem takeSwitch_notices {s : State} (h : s.lamps.switchPending = false) : (takeSwitch s).notices = s.notices := by
  unfold takeSwitch
  rw [h]
  rfl

theorem raised_takeSwitch {s : State} (h : s.lamps.switchPending = true) : Raised .bankSwitched s (takeSwitch s) := by
  unfold takeSwitch
  rw [if_pos h]
  exact (raised_raise .bankSwitched _).of_profile rfl

theorem takeSwitch_frame_only (s : State) : SameExcept [.lamps, .notices] s (takeSwitch s) := by
  unfold takeSwitch
  split
  · exact ((setLamps_frame_only s _).mono (by decide)).trans ((raise_frame _ _).mono (by decide))
  · exact .refl _ s

/-- The wrap, before the active bank's first step starts (R150). -/
def wrapped (s : State) : State := takeSwitch (clearPattern s)

theorem wrapped_lamps (s : State) : (wrapped s).lamps =
    { (clearPattern s).lamps with active := s.lamps.active != s.lamps.switchPending, switchPending := false } :=
  takeSwitch_lamps _

theorem activeBank_wrapped (s : State) : activeBank (wrapped s).lamps =
    if (s.lamps.active != s.lamps.switchPending) then s.lamps.bank1 else s.lamps.bank0 := by
  rw [wrapped_lamps]
  rfl

theorem pattern_wrapped (s : State) (i : Fin 8) : ((wrapped s).lamps.channels.get i).pattern = none := by
  have hchannel : (clearPattern s).lamps.channels.get i = { s.lamps.channels.get i with pattern := none } := vector_get_ofFn _ i
  rw [wrapped_lamps]
  exact congrArg LampChannel.pattern hchannel

theorem wrapCycle_of_none {s : State} (h : findStep (activeBank (wrapped s).lamps) 0 = none) : wrapCycle s = wrapped s := by
  unfold wrapCycle
  rw [show takeSwitch (clearPattern s) = wrapped s from rfl]
  dsimp only
  rw [h]

theorem wrapCycle_of_some {s : State} {j : Nat} (h : findStep (activeBank (wrapped s).lamps) 0 = some j) :
    wrapCycle s = startStep j (wrapped s) := by
  unfold wrapCycle
  rw [show takeSwitch (clearPattern s) = wrapped s from rfl]
  dsimp only
  rw [h]

/-- What a wrap changes beside the lamps is its notice alone. -/
theorem wrapCycle_notices (s : State) : (wrapCycle s).notices = (wrapped s).notices := by
  cases h : findStep (activeBank (wrapped s).lamps) 0 with
  | none => rw [wrapCycle_of_none h]
  | some j => rw [wrapCycle_of_some h]; rfl

/-- The lamps after the wrap: the banks stand, a pending switch is taken, and the first step found starts (R150). -/
theorem wrapCycle_lamps (s : State) :
    (wrapCycle s).lamps.active = (s.lamps.active != s.lamps.switchPending) ∧ (wrapCycle s).lamps.switchPending = false
      ∧ (wrapCycle s).lamps.bank0 = s.lamps.bank0 ∧ (wrapCycle s).lamps.bank1 = s.lamps.bank1
      ∧ (wrapCycle s).lamps.position = ((findStep (activeBank (wrapped s).lamps) 0).map fun j =>
          ⟨j, (stepAt (activeBank (wrapped s).lamps) j).duration * 10⟩) := by
  cases h : findStep (activeBank (wrapped s).lamps) 0 with
  | none =>
    rw [wrapCycle_of_none h, wrapped_lamps]
    exact ⟨rfl, rfl, rfl, rfl, rfl⟩
  | some j =>
    have hstart : (wrapCycle s).lamps = (startStep j (wrapped s)).lamps := by rw [wrapCycle_of_some h]
    rw [hstart, startStep]
    dsimp only [State.setLamps_lamps]
    rw [wrapped_lamps]
    exact ⟨rfl, rfl, rfl, rfl, rfl⟩

theorem wrapCycle_frame_only (s : State) : SameExcept [.lamps, .notices] s (wrapCycle s) := by
  have hwrapped : SameExcept [.lamps, .notices] s (wrapped s) :=
    ((setLamps_frame_only s _).mono (by decide)).trans (takeSwitch_frame_only _)
  cases h : findStep (activeBank (wrapped s).lamps) 0 with
  | none => rw [wrapCycle_of_none h]; exact hwrapped
  | some j => rw [wrapCycle_of_some h]; exact hwrapped.trans ((startStep_frame_only j _).mono (by decide))

/-! ### The cycle end and the search -/

theorem cycleEnd_spec (b : Vector Step 32) : cycleEnd b ≤ 31
    ∧ ((stepAt b (cycleEnd b)).isEnd = true ∨ cycleEnd b = 31) ∧ ∀ j, j < cycleEnd b → (stepAt b j).isEnd = false := by
  unfold cycleEnd
  cases h : (List.range 31).find? fun i => (stepAt b i).isEnd with
  | none =>
    refine ⟨Nat.le_refl _, .inr rfl, fun j hj => ?_⟩
    have hnone := List.find?_range_eq_none.mp h j hj
    simpa using hnone
  | some i =>
    obtain ⟨hend, hmem, hfirst⟩ := List.find?_range_eq_some.mp h
    have hi : i < 31 := List.mem_range.mp hmem
    exact ⟨Nat.le_of_lt hi, .inl hend, fun j hj => by simpa using hfirst j hj⟩

theorem findStep_eq_some_iff (b : Vector Step 32) (i j : Nat) : findStep b i = some j ↔
    i ≤ j ∧ j ≤ cycleEnd b ∧ (stepAt b j).isEmpty = false ∧ ∀ k, i ≤ k → k < j → (stepAt b k).isEmpty = true := by
  have hend := (cycleEnd_spec b).1
  unfold findStep
  rw [List.find?_range_eq_some]
  simp only [Bool.and_eq_true, decide_eq_true_eq, Bool.not_eq_true', List.mem_range]
  constructor
  · rintro ⟨⟨⟨hij, hj⟩, hempty⟩, -, hfirst⟩
    refine ⟨hij, hj, hempty, fun k hik hkj => ?_⟩
    have hk := hfirst k hkj
    simp only [Bool.and_eq_false_iff, decide_eq_false_iff_not, Bool.not_eq_false'] at hk
    obtain (hk | hk) | hk := hk
    · exact absurd hik hk
    · exact absurd (Nat.le_trans (Nat.le_of_lt hkj) hj) hk
    · exact hk
  · rintro ⟨hij, hj, hempty, hfirst⟩
    refine ⟨⟨⟨hij, hj⟩, hempty⟩, by omega, fun k hkj => ?_⟩
    by_cases hik : i ≤ k
    · simp [hfirst k hik hkj]
    · simp [hik]

theorem findStep_eq_none_iff (b : Vector Step 32) (i : Nat) :
    findStep b i = none ↔ ∀ k, i ≤ k → k ≤ cycleEnd b → (stepAt b k).isEmpty = true := by
  have hend := (cycleEnd_spec b).1
  unfold findStep
  rw [List.find?_range_eq_none]
  constructor
  · intro h k hik hk
    simpa [hik, hk] using h k (by omega)
  · intro h k _
    by_cases hk : i ≤ k ∧ k ≤ cycleEnd b
    · simp [h k hk.1 hk.2]
    · rw [not_and_or] at hk
      obtain hk | hk := hk <;> simp [hk]

theorem exec_stepTimerExpiry (s : State) : exec .stepTimerExpiry s = .next (stepExpires s) := rfl

/-- Settles O51. -/
theorem stepTimerPlaysTheCycle : Obligations.StepTimerPlaysTheCycle := by
  refine ⟨fun s => ⟨fun hnone => ?wrap, fun p hp => ?step⟩, fun b i => ?bank⟩
  case wrap => rw [exec_stepTimerExpiry, stepExpires_of_none hnone]
  case bank =>
    obtain ⟨hle, hend, hbefore⟩ := cycleEnd_spec b
    exact ⟨hle, hend, hbefore, findStep_eq_some_iff b i, findStep_eq_none_iff b i⟩
  case step =>
    intro b
    refine ⟨fun j hmid hnext => ?next, fun hend => ?wraps⟩
    case next =>
      have hexpires := stepExpires_of_next hp hmid hnext
      refine ⟨_, exec_stepTimerExpiry s, ?_⟩
      rw [hexpires]
      exact ⟨rfl, rfl, rfl, fun i => (pattern_lampResolve _ i).trans (pattern_startStep j s i),
        (startStep_frame_only j s).trans (lampResolve_frame _)⟩
    case wraps =>
      have hexpires := stepExpires_of_end hp hend
      obtain ⟨hactive, hpending, hbank0, hbank1, hposition⟩ := wrapCycle_lamps s
      refine ⟨_, exec_stepTimerExpiry s, ?_⟩
      rw [hexpires]
      intro active nb
      have hnb : activeBank (wrapped s).lamps = nb := activeBank_wrapped s
      rw [hnb] at hposition
      have hnotices : (lampResolve (wrapCycle s)).notices = (wrapped s).notices :=
        (lampResolve_frame _ .notices (by decide)).trans (wrapCycle_notices s)
      refine ⟨hactive, hpending, fun hswitch => ?_, fun hno => ?_, fun hnone => ⟨?_, fun i => ?_⟩, fun j hj => ⟨?_, fun i => ?_⟩,
        hbank0, hbank1, ((wrapCycle_frame_only s).mono (by decide)).trans ((lampResolve_frame _).mono (by decide))⟩
      · exact ((raised_takeSwitch (s := clearPattern s) hswitch).of_profile rfl).of_notices hnotices
      · exact hnotices.trans (takeSwitch_notices (s := clearPattern s) hno)
      · exact hposition.trans (by rw [hnone]; rfl)
      · rw [pattern_lampResolve, wrapCycle_of_none (by rw [hnb]; exact hnone), pattern_wrapped]
      · exact hposition.trans (by rw [hj]; rfl)
      · rw [pattern_lampResolve, wrapCycle_of_some (by rw [hnb]; exact hj), pattern_startStep, pattern_wrapped, hnb]

/-! ### Writes of patterns -/

/-- PATTERN_WRITE whose checks refuse it (R152). -/
theorem pattern_refused {s : State} (hready : RequestReady s) {bank first : Byte} {steps : List StepBytes}
    (hsized : 3 + 5 * steps.length ≤ 120) {c : Cause} (hcheck : checkPattern s bank.toNat first.toNat steps = .error c) :
    Refuses (.patternWrite bank first steps) c 0x0B s := by
  refine refuses_of_ready hready (q := .patternWrite bank first steps) (k := .patternWrite) (decide_eq_true hsized) ?_
  show runPattern bank first steps (heard s) = _
  have hheard : checkPattern (heard s) bank.toNat first.toNat steps = .error c := hcheck
  rw [runPattern, hheard]

theorem patternFits_iff (bank first count : Nat) :
    patternFits bank first count = true ↔ bank ≤ 1 ∧ 1 ≤ count ∧ count ≤ 8 ∧ first + count ≤ 32 := by
  simp [patternFits, and_assoc]

/-- The steps as the write stores them, from the first index upward (R152). -/
theorem get_writeSteps (b : Vector Step 32) (first : Nat) (steps : List StepBytes) (i : Fin 32) :
    (writeSteps b first steps).get i =
      if h : first ≤ i.val ∧ i.val - first < steps.length then storedStep (steps[i.val - first]'h.2) else b.get i := by
  rw [writeSteps, vector_get_ofFn]
  by_cases hfirst : first ≤ i.val
  · rw [if_pos hfirst]
    by_cases hlast : i.val - first < steps.length
    · rw [dif_pos ⟨hfirst, hlast⟩, List.getElem?_eq_getElem hlast]
    · rw [dif_neg fun h => hlast h.2, List.getElem?_eq_none (Nat.not_lt.mp hlast)]
  · rw [if_neg hfirst, dif_neg fun h => hfirst h.1]

theorem writePattern_of_one {bank : Nat} (h : bank = 1) (first : Nat) (steps : List StepBytes) (s : State) :
    writePattern bank first steps s = s.setLamps { s.lamps with bank1 := writeSteps s.lamps.bank1 first steps } := by
  rw [h]
  rfl

theorem writePattern_of_zero {bank : Nat} (h : bank = 0) (first : Nat) (steps : List StepBytes) (s : State) :
    writePattern bank first steps s = s.setLamps { s.lamps with bank0 := writeSteps s.lamps.bank0 first steps } := by
  rw [h]
  rfl

theorem writePattern_frame_only (bank first : Nat) (steps : List StepBytes) (s : State) :
    SameExcept [.lamps] s (writePattern bank first steps s) := by
  unfold writePattern
  split <;> exact setLamps_frame_only s _

/-- A switch to the other bank is pending (R151). -/
def switchWaits (s : State) : State := s.setLamps { s.lamps with switchPending := true }

/-- Settles O52. -/
theorem patternWriteAndBankSwitch : Obligations.PatternWriteAndBankSwitch := by
  refine ⟨fun s bank first steps hready hsized => ?write, fun s hready => ⟨fun p hp => ?pending, fun hnone => ?taken⟩⟩
  case write =>
    intro fits isActive stored
    have hfits : patternFits bank.toNat first.toNat steps.length = true ↔ fits := patternFits_iff _ _ _
    have hbank : bank.toNat = 1 ↔ bank = 1 := by
      rw [← BitVec.toNat_inj]
      rfl
    have hactive : (decide (bank.toNat = 1) == s.lamps.active) = true ↔ isActive := by
      rw [beq_iff_eq]
      show _ ↔ (bank = 1 ↔ s.lamps.active = true)
      rw [← hbank, Bool.eq_iff_iff, decide_eq_true_iff]
    have hmarks : steps.all marksFit = true ↔ ∀ x ∈ steps, x.marks.toNat < 4 := by simp [marksFit]
    refine ⟨fun hnot => ?_, fun hfit hact => ?_, fun hfit hact hmark => ?_, fun hfit hact hmark => ?_⟩
    · refine pattern_refused hready hsized ?_
      unfold checkPattern
      have hno : patternFits bank.toNat first.toNat steps.length = false := by
        rw [Bool.eq_false_iff, ne_eq, hfits]
        exact hnot
      rw [hno]
      rfl
    · refine pattern_refused hready hsized ?_
      unfold checkPattern
      rw [if_neg (by simp [hfits, hfit]), if_pos (hactive.mpr hact)]
    · refine pattern_refused hready hsized ?_
      have hnot : ¬steps.all marksFit = true := by
        rw [hmarks]
        obtain ⟨x, hx, hfour⟩ := hmark
        exact fun h => absurd (h x hx) (Nat.not_lt.mpr hfour)
      unfold checkPattern
      rw [if_neg (by simp [hfits, hfit]), if_neg fun h => hact (hactive.mp h), if_pos (by simpa using hnot)]
    · have hcheck : checkPattern (heard s) bank.toNat first.toNat steps = .ok () := by
        have hbefore : checkPattern s bank.toNat first.toNat steps = .ok () := by
          unfold checkPattern
          rw [if_neg (by simp [hfits, hfit]), if_neg fun h => hact (hactive.mp h), if_neg (by simp [hmarks.mpr hmark])]
        exact hbefore
      have hrun : runRequest (.patternWrite bank first steps) (heard s)
          = answer .patternWrite okPayload (writePattern bank.toNat first.toNat steps (heard s)) := by
        show runPattern bank first steps (heard s) = _
        rw [runPattern, hcheck]
      have hzero : bank ≠ 1 → bank.toNat = 0 := fun hne => by
        have hle : bank.toNat ≤ 1 := hfit.1
        have hnot : bank.toNat ≠ 1 := fun h => hne (hbank.mp h)
        omega
      refine ⟨_, (exec_of_ready hready (q := .patternWrite bank first steps) (decide_eq_true hsized)).trans
        (congrArg Host.Outcome.next hrun), answered_answer _ _ ?_, fun i => ?_, ?_, ?_⟩
      · have hcomp : (writePattern bank.toNat first.toNat steps (heard s)).comp = (heard s).comp :=
          writePattern_frame_only _ _ _ _ .comp (by decide)
        exact (congrArg CompCtx.accepted hcomp :)
      · show (if bank = 1 then (writePattern bank.toNat first.toNat steps (heard s)).lamps.bank1
          else (writePattern bank.toNat first.toNat steps (heard s)).lamps.bank0).get i = _
        by_cases hone : bank = 1
        · rw [if_pos hone, if_pos hone, writePattern_of_one (hbank.mpr hone)]
          exact get_writeSteps _ _ _ i
        · rw [if_neg hone, if_neg hone, writePattern_of_zero (hzero hone)]
          exact get_writeSteps _ _ _ i
      · show (writePattern bank.toNat first.toNat steps (heard s)).lamps = _
        by_cases hone : bank = 1
        · rw [if_pos hone]
          show _ = { s.lamps with bank1 := (writePattern bank.toNat first.toNat steps (heard s)).lamps.bank1 }
          rw [writePattern_of_one (hbank.mpr hone)]
          rfl
        · rw [if_neg hone]
          show _ = { s.lamps with bank0 := (writePattern bank.toNat first.toNat steps (heard s)).lamps.bank0 }
          rw [writePattern_of_zero (hzero hone)]
          rfl
      · exact (((heard_frame s).mono (by decide)).trans ((writePattern_frame_only _ _ _ _).mono (by decide))).trans
          ((answer_frame _ _ _).mono (by decide))
  case pending =>
    have hrun : runRequest .bankSwitch (heard s) = answer .bankSwitch okPayload (requestSwitch (heard s)) := rfl
    have hrequest : requestSwitch (heard s) = (heard s).setLamps { s.lamps with switchPending := true } := by
      unfold requestSwitch
      rw [show (heard s).lamps.position = some p from hp]
      rfl
    rw [hrequest] at hrun
    exact ⟨_, (exec_of_ready hready (q := .bankSwitch) rfl).trans (congrArg Host.Outcome.next hrun), answered_answer _ _ rfl, rfl,
      (((heard_frame s).mono (by decide)).trans ((setLamps_frame_only _ _).mono (by decide))).trans
          ((answer_frame _ _ _).mono (by decide))⟩
  case taken =>
    have hrun : runRequest .bankSwitch (heard s) = answer .bankSwitch okPayload (requestSwitch (heard s)) := rfl
    have hrequest : requestSwitch (heard s) = lampResolve (wrapCycle (switchWaits (heard s))) := by
      unfold requestSwitch
      rw [show (heard s).lamps.position = none from hnone]
      rfl
    rw [hrequest] at hrun
    refine ⟨_, (exec_of_ready hready (q := .bankSwitch) rfl).trans (congrArg Host.Outcome.next hrun), ?_⟩
    obtain ⟨hactive, hpending, hbank0, hbank1, hposition⟩ := wrapCycle_lamps (switchWaits (heard s))
    have hframe : SameExcept [.lamps, .notices] (heard s) (lampResolve (wrapCycle (switchWaits (heard s)))) :=
      (((setLamps_frame_only _ _).mono (by decide)).trans (wrapCycle_frame_only _)).trans ((lampResolve_frame _).mono (by decide))
    have hcomp : (lampResolve (wrapCycle (switchWaits (heard s)))).comp = (heard s).comp := hframe .comp (by decide)
    refine ⟨answered_answer _ _ (congrArg CompCtx.accepted hcomp :), ?_⟩
    intro nb
    have hnb : activeBank (wrapped (switchWaits (heard s))).lamps = nb := by
      rw [activeBank_wrapped]
      show (if (s.lamps.active != true) = true then s.lamps.bank1 else s.lamps.bank0) = _
      cases h : s.lamps.active <;> simp [nb, h]
    rw [hnb] at hposition
    refine ⟨hactive.trans (Bool.bne_true _), hpending, ?_, hposition, hbank0, hbank1, ?_⟩
    · have hraised := raised_takeSwitch (s := clearPattern (switchWaits (heard s))) rfl
      refine (hraised.of_profile rfl).of_notices ?_
      exact ((answer_frame _ _ _ .notices (by decide)).trans (lampResolve_frame _ .notices (by decide))).trans
        (wrapCycle_notices _)
    · exact (((heard_frame s).mono (by decide)).trans (hframe.mono (by decide))).trans ((answer_frame _ _ _).mono (by decide))

end Sys2Proof.Machine
end

section
/-! PROOFS. The steering update while a mode change waits or slews, and the turn geometry. -/
namespace Sys2Proof.Machine

/-! ### Stages of an update -/

/-- A STEERMODE that is handed over moves the steering state and the next mode alone (R62, R63). -/
theorem modeHanded_steering (s : State) :
    ∃ st m, (modeHanded s).steering = { s.steering with state := st, next := m } := by
  have hbegin : ∀ m, (enterSlew m s).steering = { s.steering with state := .slewing, next := some m } := fun m => rfl
  unfold modeHanded
  dsimp only
  split
  · split
    · exact ⟨_, _, rfl⟩
    · exact ⟨_, _, hbegin _⟩
  · split
    · exact ⟨_, _, rfl⟩
    · exact ⟨s.steering.state, _, rfl⟩
  · exact ⟨s.steering.state, s.steering.next, rfl⟩

theorem commitEff_steering_of_eq {f : Fn} {e : Eff} {s : State} (h : e.value = effective s f) :
    (commitEff f e s).steering = s.steering := by
  have hhand : ∀ z u, (handUnderlying z u).steering = u.steering := fun z u => handUnderlying_frame z u .steering (by decide)
  rw [commitEff, hhand, if_pos h]
  rfl

/-- A resolution of STEERMODE moves the steering state and the next mode alone, and those where the value changed. -/
theorem resolve_steermode_steering (byMark : Bool) (s : State) :
    (∃ st m, (resolve .steermode byMark s).steering = { s.steering with state := st, next := m })
      ∧ (effective (resolve .steermode byMark s) .steermode = effective s .steermode →
          (resolve .steermode byMark s).steering = s.steering) := by
  cases hbusy : consumerBusy s .steermode with
  | true =>
    rw [resolve_of_busy hbusy]
    exact ⟨⟨s.steering.state, s.steering.next, rfl⟩, fun _ => rfl⟩
  | false =>
    have htaken : (takeSlots .steermode s).steering = s.steering := takeSlots_frame _ _ .steering (by decide)
    have heff : effective (takeSlots .steermode s) .steermode = effective s .steermode :=
      (takeSlots_frame .steermode s).effective (by decide) _
    rw [resolve_of_free hbusy]
    refine ⟨?_, fun hsame => ?_⟩
    · by_cases hvalue : (entryFrom s .steermode (effOf s .steermode) byMark).value = effective (takeSlots .steermode s) .steermode
      · rw [commitEff_steering_of_eq hvalue, htaken]
        exact ⟨s.steering.state, s.steering.next, rfl⟩
      · have hhand : ∀ z u, (handUnderlying z u).steering = u.steering := fun z u =>
          handUnderlying_frame z u .steering (by decide)
        obtain ⟨st, m, hmoved⟩ := modeHanded_steering
          (setEff (takeSlots .steermode s) .steermode (entryFrom s .steermode (effOf s .steermode) byMark))
        refine ⟨st, m, ?_⟩
        rw [commitEff, hhand, if_neg hvalue]
        exact hmoved.trans (congrArg (fun v : Steering => { v with state := st, next := m }) htaken)
    · rw [effective, effOf_commitEff_same] at hsame
      rw [commitEff_steering_of_eq (hsame.trans heff.symm), htaken]

/-- The steering of an update whose targets are formed (R59, R60). -/
theorem targetStage_steering (s : State) : (targetStage s).steering =
    { s.steering with
      frontTarget := frontTargetOf (rulingMode s.steering) (baseAngle s.profile.geometry s.steering.heldSteer)
      frontOut := frontTargetOf (rulingMode s.steering) (baseAngle s.profile.geometry s.steering.heldSteer)
      rearTarget := rearTargetOf (rulingMode s.steering) (baseAngle s.profile.geometry s.steering.heldSteer)
        s.profile.geometry.rearRatio } := rfl

theorem rulingMode_of_slewing {v : Steering} {m : SteerMode} (hstate : v.state = .slewing) (hnext : v.next = some m) :
    rulingMode v = m := by
  unfold rulingMode
  rw [hstate, hnext]

/-- The rear output of a slew step (R65). -/
def slewed (s : State) : Int := approach s.steering.rearOut s.steering.rearTarget s.profile.geometry.rearSlew

theorem rearStage_of_short {s : State} (hstate : s.steering.state = .slewing) (hshort : slewed s ≠ s.steering.rearTarget) :
    rearStage s = s.setSteering { s.steering with rearOut := slewed s } := by
  unfold rearStage
  dsimp only
  rw [if_pos hstate]
  exact if_neg fun h => hshort h.2

theorem rearStage_of_reached {s : State} (hstate : s.steering.state = .slewing) (hreached : slewed s = s.steering.rearTarget) :
    rearStage s = settleMode (s.setSteering { s.steering with rearOut := slewed s }) := by
  unfold rearStage
  dsimp only
  rw [if_pos hstate]
  exact if_pos ⟨hstate, hreached⟩

/-- Outputs and geometry come last and move neither state, mode nor output (R61, R74). -/
theorem outputStage_frame (s : State) : SameExcept [.steering] s (outputStage s) := setSteering_frame_only s _

theorem exec_steeringUpdate_eq (s : State) :
    exec .steeringUpdate s = .next (outputStage (rearStage (targetStage (speedTest (beginFrame s))))) := rfl

/-- The state that a slewing update's rear stage finds. -/
def slewTargeted (s : State) : State := targetStage (beginFrame s)

theorem slewTargeted_frame (s : State) : SameExcept [.steering] s (slewTargeted s) :=
  (setSteering_frame_only s _).trans (setSteering_frame_only _ _)

theorem speedTest_of_slewing {s : State} (h : s.steering.state = .slewing) : speedTest (beginFrame s) = beginFrame s :=
  speedTest_of_ne_waiting (by rw [show (beginFrame s).steering.state = _ from h]; decide)

theorem slewTargeted_steering {s : State} {m : SteerMode} (hstate : s.steering.state = .slewing) (hnext : s.steering.next = some m) :
    (slewTargeted s).steering =
      { s.steering with
        frameTimer := s.profile.geometry.framePeriod, gate := s.profile.geometry.speedGate
        frontTarget := frontTargetOf m (baseAngle s.profile.geometry s.steering.heldSteer)
        frontOut := frontTargetOf m (baseAngle s.profile.geometry s.steering.heldSteer)
        rearTarget := rearTargetOf m (baseAngle s.profile.geometry s.steering.heldSteer) s.profile.geometry.rearRatio } := by
  rw [slewTargeted, targetStage_steering, rulingMode_of_slewing (v := (beginFrame s).steering) hstate hnext]
  rfl

/-- What a completed mode change leaves of the steering: the mode is the next mode, and STEERMODE's resolution may move the
state (R65). -/
theorem settleMode_steering {s : State} {m : SteerMode} (hnext : s.steering.next = some m) :
    (∃ st n, (settleMode s).steering = { s.steering with mode := m, state := st, next := n })
      ∧ (effective (settleMode s) .steermode = effective s .steermode →
          (settleMode s).steering = { s.steering with mode := m, state := .settled, next := none }) := by
  obtain ⟨⟨st, n, hmoved⟩, hstands⟩ := resolve_steermode_steering false
    (raise .modeSettled (s.setSteering { s.steering with mode := m, next := none, state := .settled }))
  have hmode : s.steering.next.getD s.steering.mode = m := by rw [hnext]; rfl
  unfold settleMode
  dsimp only
  rw [hmode]
  exact ⟨⟨st, n, hmoved⟩, hstands⟩

theorem settleMode_frame_only (s : State) : SameExcept resolveTouches s (settleMode s) :=
  (((setSteering_frame_only s _).mono (by decide)).trans ((raise_frame _ _).mono (by decide))).trans (resolve_frame _ _ _)

theorem raised_settleMode (s : State) : Raised .modeSettled s (settleMode s) := by
  have hraised : Raised .modeSettled s (raise .modeSettled
      (s.setSteering { s.steering with mode := s.steering.next.getD s.steering.mode, next := none, state := .settled })) :=
    (raised_raise .modeSettled _).of_profile rfl
  exact hraised.stay (noticesStay_resolve _ _ _)

theorem speedTest_steering_gate (s : State) : (speedTest s).steering.gate = s.steering.gate := by
  unfold speedTest
  split
  · split <;> rfl
  · rfl

theorem settleMode_gate (s : State) : (settleMode s).steering.gate = s.steering.gate := by
  obtain ⟨⟨st, n, hmoved⟩, -⟩ := resolve_steermode_steering false
    (raise .modeSettled (s.setSteering { s.steering with
      mode := s.steering.next.getD s.steering.mode, next := none, state := .settled }))
  exact (congrArg Steering.gate hmoved :)

theorem rearStage_gate (s : State) : (rearStage s).steering.gate = s.steering.gate := by
  by_cases hstate : s.steering.state = .slewing
  · by_cases hreached : slewed s = s.steering.rearTarget
    · rw [rearStage_of_reached hstate hreached]
      exact settleMode_gate _
    · rw [rearStage_of_short hstate hreached]
      rfl
  · rw [rearStage_of_ne_slewing hstate]
    rfl

theorem steeringUpdate_gate (s : State) : (steeringUpdate s).steering.gate = s.profile.geometry.speedGate := by
  have htargets : ∀ u, (targetStage u).steering.gate = u.steering.gate := fun _ => rfl
  exact (rearStage_gate _).trans ((htargets _).trans (speedTest_steering_gate _))

theorem speedTest_of_waiting {s : State} {m : SteerMode} (hstate : s.steering.state = .waiting) (hnext : s.steering.next = some m) :
    speedTest s = if meanSpeed s ≤ s.steering.gate then enterSlew m s else s := by
  unfold speedTest
  rw [hstate, hnext]

/-- The state after the slew step of an update (R65). -/
def slewStepped (s : State) : State :=
  (slewTargeted s).setSteering { (slewTargeted s).steering with rearOut := slewed (slewTargeted s) }

/-- Settles O32. -/
theorem slewStepsToSettled : Obligations.SlewStepsToSettled := by
  refine fun s m hnext => ⟨fun hstate => ?slews, fun hstate hslow => ?begins, fun hstate hfast => ?waits,
    ⟨_, exec_steeringUpdate s, steeringUpdate_gate s⟩⟩
  case slews =>
    intro a target rear
    have hupdate : steeringUpdate s = outputStage (rearStage (slewTargeted s)) := by
      rw [steeringUpdate, speedTest_of_slewing hstate]
      rfl
    have hsteering := slewTargeted_steering hstate hnext
    have hrear : slewed (slewTargeted s) = rear := by
      rw [slewed, hsteering]
      rfl
    have htarget : (slewTargeted s).steering.rearTarget = target := by rw [hsteering]
    have hslewing : (slewTargeted s).steering.state = .slewing := by rw [hsteering]; exact hstate
    refine ⟨_, exec_steeringUpdate s, ?_⟩
    rw [hupdate]
    by_cases hreached : rear = target
    · have hstage := rearStage_of_reached hslewing (hrear.trans (hreached.trans htarget.symm))
      obtain ⟨⟨st, n, hmoved⟩, hstands⟩ := settleMode_steering (s := slewStepped s) (m := m) (by
        rw [slewStepped, State.setSteering_steering, hsteering]
        exact hnext)
      have hstepped : (slewStepped s).steering = { (slewTargeted s).steering with rearOut := rear } := by
        rw [← hrear]
        rfl
      rw [hsteering] at hstepped
      rw [hstepped] at hmoved hstands
      have heff : ∀ f, effective (slewStepped s) f = effective s f := fun f =>
        ((slewTargeted_frame s).trans (setSteering_frame_only _ _)).effective (by decide) f
      have hframe : SameExcept resolveTouches s (settleMode (slewStepped s)) :=
        (((slewTargeted_frame s).trans (setSteering_frame_only _ _)).mono (by decide)).trans (settleMode_frame_only _)
      rw [show rearStage (slewTargeted s) = settleMode (slewStepped s) from hstage]
      refine ⟨?_, ?_, ?_, fun hshort => absurd hreached hshort, fun _ => ⟨?_, ?_, fun hsame => ?_, ?_⟩⟩
      · exact (congrArg Steering.rearOut hmoved :)
      · exact (congrArg Steering.rearTarget hmoved :)
      · exact (congrArg Steering.frontOut hmoved :)
      · exact (congrArg Steering.mode hmoved :)
      · exact (((raised_settleMode (slewStepped s)).of_profile
          (((slewTargeted_frame s).trans (setSteering_frame_only _ _)) .profile (by decide))).of_notices rfl)
      · have hsettled := hstands (((outputStage_frame _).effective (by decide) _).symm.trans (hsame.trans (heff _).symm))
        exact ⟨(congrArg Steering.state hsettled :), (congrArg Steering.next hsettled :)⟩
      · exact hframe.trans ((outputStage_frame _).mono (by decide))
    · have hstage := rearStage_of_short hslewing (by rw [hrear, htarget]; exact hreached)
      have hstepped : (slewStepped s).steering = { (slewTargeted s).steering with rearOut := rear } := by
        rw [← hrear]
        rfl
      rw [hsteering] at hstepped
      rw [show rearStage (slewTargeted s) = slewStepped s from hstage]
      refine ⟨(congrArg Steering.rearOut hstepped :), (congrArg Steering.rearTarget hstepped :),
        (congrArg Steering.frontOut hstepped :), fun _ => ⟨?_, ?_, (congrArg Steering.mode hstepped :), ?_⟩,
        fun h => absurd h hreached⟩
      · exact (congrArg Steering.state hstepped : _).trans hstate
      · exact (congrArg Steering.next hstepped : _).trans hnext
      · exact ((slewTargeted_frame s).trans (setSteering_frame_only _ _)).trans (outputStage_frame _)
  case begins =>
    have htest : speedTest (beginFrame s) = enterSlew m (beginFrame s) := by
      rw [speedTest_of_waiting (s := beginFrame s) hstate hnext]
      exact if_pos hslow
    have hslewing : (enterSlew m s).steering.state = .slewing := rfl
    refine ⟨?_, rfl⟩
    rw [exec_steeringUpdate, exec_steeringUpdate, steeringUpdate, steeringUpdate, htest, speedTest_of_slewing hslewing]
    rfl
  case waits =>
    have htest : speedTest (beginFrame s) = beginFrame s := by
      rw [speedTest_of_waiting (s := beginFrame s) hstate hnext]
      exact if_neg (Nat.not_le.mpr hfast)
    have hwaits : (targetStage (beginFrame s)).steering.state = .waiting := hstate
    have hupdate : steeringUpdate s = outputStage (rearStage (targetStage (beginFrame s))) := by rw [steeringUpdate, htest]
    refine ⟨_, exec_steeringUpdate s, ?_⟩
    rw [hupdate, rearStage_of_ne_slewing (by rw [hwaits]; decide)]
    exact ⟨hstate, hnext, rfl, ((slewTargeted_frame s).trans (setSteering_frame_only _ _)).trans (outputStage_frame _)⟩

/-! ### The tangent table -/

theorem tanTable_le (x : Nat) (h : x ∈ tanTable) : x ≤ 4096 := by
  have hparts : ∀ part ∈ [tanPart0, tanPart1, tanPart2, tanPart3, tanPart4, tanPart5, tanPart6, tanPart7, tanPart8, tanPart9],
      ∀ x ∈ part, x ≤ 4096 := by decide
  simp only [tanTable, List.mem_append] at h
  rcases h with ((((((((h | h) | h) | h) | h) | h) | h) | h) | h) | h <;> exact hparts _ (by simp) x h

theorem tanOf_bounds (a : Int) : -4096 ≤ tanOf a ∧ tanOf a ≤ 4096 := by
  have hentry : tanTable.getD a.natAbs 0 ≤ 4096 := by
    rw [List.getD_eq_getElem?_getD]
    cases h : tanTable[a.natAbs]? with
    | none => exact Nat.zero_le _
    | some x => exact tanTable_le x (List.mem_of_getElem? h)
  unfold tanOf
  split <;> omega

/-! ### The square root -/

/-- The trial of one bit at a time closes in on the square root (R70). -/
theorem isqrtFrom_spec (n k r : Nat) (hlow : r * r ≤ n) (hhigh : n < (r + 2 ^ k) * (r + 2 ^ k)) :
    isqrtFrom n k r * isqrtFrom n k r ≤ n ∧ n < (isqrtFrom n k r + 1) * (isqrtFrom n k r + 1) := by
  induction k generalizing r with
  | zero =>
    rw [Nat.pow_zero] at hhigh
    exact ⟨hlow, hhigh⟩
  | succ k ih =>
    rw [isqrtFrom]
    have hdouble : 2 ^ (k + 1) = 2 ^ k + 2 ^ k := by rw [Nat.pow_succ, Nat.mul_two]
    by_cases htake : (r + 2 ^ k) * (r + 2 ^ k) ≤ n
    · rw [if_pos htake]
      exact ih _ htake (by rw [Nat.add_assoc, ← hdouble]; exact hhigh)
    · rw [if_neg htake]
      exact ih _ hlow (Nat.not_le.mp htake)

theorem isqrt_eq_sqrt {n : Nat} (h : n < 2 ^ 48) : isqrt n = Nat.sqrt n := by
  obtain ⟨hlow, hhigh⟩ := isqrtFrom_spec n 24 0 (Nat.zero_le n) (by
    rw [Nat.zero_add, ← Nat.pow_add]
    exact h)
  exact (Nat.eq_sqrt.mpr ⟨hlow, hhigh⟩ : isqrt n = _)

/-! ### The centre -/

/-- A centre of a vehicle within its limits: off its middle line, and near enough for the square root (R69, R70). -/
structure CentreFits (g : Geometry) (x0 y0 : Int) : Prop where
  wheelbase : g.wheelbase ≤ 450
  track : 100 ≤ g.track ∧ g.track ≤ 350
  x : x0.natAbs ≤ 231000
  y : y0.natAbs ≤ 231000
  off : y0 ≠ 0

theorem natAbs_tdiv_le_of_le {z d : Int} {k : Nat} (h : z.natAbs ≤ d.natAbs * k) : (z.tdiv d).natAbs ≤ k := by
  rw [Int.natAbs_tdiv]
  exact Nat.div_le_of_le_mul h

theorem centreFits {g : Geometry} {front rear : Int} (hbase : 150 ≤ g.wheelbase ∧ g.wheelbase ≤ 450)
    (htrack : 100 ≤ g.track ∧ g.track ≤ 350) (hd : 16 ≤ (tanOf front - tanOf rear).natAbs) :
    CentreFits g (centreX g (centreY g (tanOf front - tanOf rear)) (tanOf front)) (centreY g (tanOf front - tanOf rear)) := by
  obtain ⟨hfront, hfront'⟩ := tanOf_bounds front
  obtain ⟨hrear, hrear'⟩ := tanOf_bounds rear
  have hfar : (2 * (g.wheelbase : Int) * 4096).natAbs = 8192 * g.wheelbase := by omega
  have hy : (centreY g (tanOf front - tanOf rear)).natAbs ≤ 230400 := by
    refine natAbs_tdiv_le_of_le ?_
    rw [hfar]
    calc 8192 * g.wheelbase ≤ 8192 * 450 := Nat.mul_le_mul_left _ hbase.2
      _ = 16 * 230400 := rfl
      _ ≤ _ := Nat.mul_le_mul_right _ hd
  have hoff : 1 ≤ (centreY g (tanOf front - tanOf rear)).natAbs := by
    rw [centreY, Int.natAbs_tdiv, hfar]
    refine (Nat.one_le_div_iff (by omega)).mpr ?_
    have hwide : (tanOf front - tanOf rear).natAbs ≤ 8192 := by omega
    omega
  have hshift : ((centreY g (tanOf front - tanOf rear) * tanOf front).tdiv 4096).natAbs ≤ 230400 := by
    refine natAbs_tdiv_le_of_le ?_
    rw [Int.natAbs_mul, Nat.mul_comm]
    exact Nat.mul_le_mul (by omega) hy
  exact ⟨hbase.2, htrack, by unfold centreX; omega, by omega, by omega⟩

/-! ### The distances -/

/-- The square of a wheel's distance to the centre (R70). -/
def squaredDistance (g : Geometry) (x0 y0 : Int) (w : Wheel) : Int :=
  (wheelX g w - x0) * (wheelX g w - x0) + (wheelY g w - y0) * (wheelY g w - y0)

theorem mul_self_le_of_natAbs_le {z : Int} {k : Nat} (h : z.natAbs ≤ k) : z * z ≤ k * k := by
  rw [← Int.natAbs_mul_self]
  exact_mod_cast Nat.mul_le_mul h h

theorem wheel_natAbs_le {g : Geometry} {x0 y0 : Int} (h : CentreFits g x0 y0) (w : Wheel) :
    (wheelX g w - x0).natAbs ≤ 232000 ∧ (wheelY g w - y0).natAbs ≤ 232000 := by
  obtain ⟨hbase, htrack, hx, hy, -⟩ := h
  cases w <;> simp only [wheelX, wheelY] <;> omega

theorem wheelDistance_eq {g : Geometry} {x0 y0 : Int} (h : CentreFits g x0 y0) (w : Wheel) :
    wheelDistance g x0 y0 w = Nat.sqrt (squaredDistance g x0 y0 w).natAbs := by
  obtain ⟨hx, hy⟩ := wheel_natAbs_le h w
  have hxx := mul_self_le_of_natAbs_le hx
  have hyy := mul_self_le_of_natAbs_le hy
  have hx0 := mul_self_nonneg (wheelX g w - x0)
  have hy0 := mul_self_nonneg (wheelY g w - y0)
  exact isqrt_eq_sqrt (by omega)

theorem wheelDistance_le {g : Geometry} {x0 y0 : Int} (h : CentreFits g x0 y0) {u v : Wheel} (hx : wheelX g u = wheelX g v)
    (hy : (wheelY g u - y0).natAbs ≤ (wheelY g v - y0).natAbs) : wheelDistance g x0 y0 u ≤ wheelDistance g x0 y0 v := by
  have hyy := mul_self_le_of_natAbs_le hy
  rw [← Int.natCast_mul, Int.natAbs_mul_self] at hyy
  have hxx := mul_self_nonneg (wheelX g v - x0)
  have hzero := mul_self_nonneg (wheelY g u - y0)
  rw [wheelDistance_eq h, wheelDistance_eq h]
  refine Nat.sqrt_le_sqrt ?_
  unfold squaredDistance
  rw [hx]
  omega

theorem wheelDistance_pos {g : Geometry} {x0 y0 : Int} (h : CentreFits g x0 y0) {w : Wheel} (hy : wheelY g w - y0 ≠ 0) :
    0 < wheelDistance g x0 y0 w := by
  have hxx := mul_self_nonneg (wheelX g w - x0)
  have hyy : 0 < (wheelY g w - y0) * (wheelY g w - y0) := mul_self_pos.mpr hy
  rw [wheelDistance_eq h, Nat.sqrt_pos]
  unfold squaredDistance
  omega

theorem acrossCentre_iff (g : Geometry) (y0 : Int) (w : Wheel) : acrossCentre g y0 w = true ↔
    wheelY g w - y0 ≠ 0 ∧ -y0 ≠ 0 ∧ (0 < wheelY g w - y0 ↔ -y0 < 0) := by
  rw [acrossCentre, decide_eq_true_iff, mul_neg_iff]
  omega

/-- The farthest wheel does not lie across the centre (R70, R71). -/
theorem exists_farthest {g : Geometry} {x0 y0 : Int} (h : CentreFits g x0 y0) :
    ∃ w, wheelDistance g x0 y0 w = maxDistance g x0 y0 ∧ 0 < wheelDistance g x0 y0 w ∧ acrossCentre g y0 w = false := by
  obtain ⟨-, htrack, -, -, hoff⟩ := id h
  have hclear : ∀ w, ¬(wheelY g w - y0 ≠ 0 ∧ -y0 ≠ 0 ∧ (0 < wheelY g w - y0 ↔ -y0 < 0)) → acrossCentre g y0 w = false :=
    fun w hnot => by rw [Bool.eq_false_iff, ne_eq, acrossCentre_iff]; exact hnot
  have hpick : ∀ p q : Wheel, maxDistance g x0 y0 = max (wheelDistance g x0 y0 p) (wheelDistance g x0 y0 q) →
      (∀ w, w = p ∨ w = q → 0 < wheelDistance g x0 y0 w ∧ acrossCentre g y0 w = false) →
      ∃ w, wheelDistance g x0 y0 w = maxDistance g x0 y0 ∧ 0 < wheelDistance g x0 y0 w ∧ acrossCentre g y0 w = false := by
    intro p q hmax hboth
    obtain hle | hle := Nat.le_total (wheelDistance g x0 y0 p) (wheelDistance g x0 y0 q)
    · exact ⟨q, by rw [hmax, Nat.max_eq_right hle], hboth q (.inr rfl)⟩
    · exact ⟨p, by rw [hmax, Nat.max_eq_left hle], hboth p (.inl rfl)⟩
  by_cases hside : 0 < y0
  · have hf : wheelDistance g x0 y0 .fl ≤ wheelDistance g x0 y0 .fr := wheelDistance_le h rfl (by simp only [wheelY]; omega)
    have hr : wheelDistance g x0 y0 .rl ≤ wheelDistance g x0 y0 .rr := wheelDistance_le h rfl (by simp only [wheelY]; omega)
    refine hpick .fr .rr (by unfold maxDistance; omega) fun w hw => ?_
    have hy : wheelY g w = -g.track := by obtain rfl | rfl := hw <;> rfl
    exact ⟨wheelDistance_pos h (by omega), hclear w (by omega)⟩
  · have hf : wheelDistance g x0 y0 .fr ≤ wheelDistance g x0 y0 .fl := wheelDistance_le h rfl (by simp only [wheelY]; omega)
    have hr : wheelDistance g x0 y0 .rr ≤ wheelDistance g x0 y0 .rl := wheelDistance_le h rfl (by simp only [wheelY]; omega)
    refine hpick .fl .rl (by unfold maxDistance; omega) fun w hw => ?_
    have hy : wheelY g w = g.track := by obtain rfl | rfl := hw <;> rfl
    exact ⟨wheelDistance_pos h (by omega), hclear w (by omega)⟩

theorem wheelDistance_le_max (g : Geometry) (x0 y0 : Int) (w : Wheel) : wheelDistance g x0 y0 w ≤ maxDistance g x0 y0 := by
  unfold maxDistance
  cases w <;> omega

/-! ### The ratios -/

theorem signedRatio_bounds (g : Geometry) (x0 y0 : Int) (w : Wheel) :
    -1024 ≤ signedRatio g x0 y0 w ∧ signedRatio g x0 y0 w ≤ 1024 := by
  have hshare : wheelDistance g x0 y0 w * 1024 / maxDistance g x0 y0 ≤ 1024 :=
    Nat.div_le_of_le_mul (Nat.mul_le_mul_right _ (wheelDistance_le_max g x0 y0 w))
  obtain ⟨n, hn, hle⟩ : ∃ n : Nat, ((wheelDistance g x0 y0 w : Int) * 1024 / (maxDistance g x0 y0 : Int)) = n ∧ n ≤ 1024 :=
    ⟨_, by push_cast; rfl, hshare⟩
  unfold signedRatio
  dsimp only
  rw [hn]
  split <;> omega

theorem pivotRatio_bounds {g : Geometry} {r : Int} (h : -1024 ≤ r ∧ r ≤ 1024) :
    -1024 ≤ pivotRatio g r ∧ pivotRatio g r ≤ 1024 := by
  unfold pivotRatio
  split <;> omega

theorem strengthRatio_bounds {g : Geometry} (hstrength : g.strength ≤ 100) {r : Int} (h : -1024 ≤ r ∧ r ≤ 1024) :
    -1024 ≤ strengthRatio g r ∧ strengthRatio g r ≤ 1024 := by
  have hgap : 0 ≤ 1024 - r := by omega
  have hproduct : 0 ≤ (1024 - r) * (g.strength : Int) := Int.mul_nonneg hgap (by omega)
  have hpart : (1024 - r) * (g.strength : Int) ≤ 2048 * 100 :=
    Int.mul_le_mul (by omega) (by omega) (by omega) (by omega)
  unfold strengthRatio
  rw [Int.tdiv_eq_ediv_of_nonneg hproduct]
  omega

theorem strengthRatio_full (g : Geometry) : strengthRatio g 1024 = 1024 := by
  unfold strengthRatio
  rw [Int.sub_self, Int.zero_mul, Int.zero_tdiv, Int.sub_zero]

theorem finalRatio_farthest {g : Geometry} {x0 y0 : Int} {w : Wheel} (hfar : wheelDistance g x0 y0 w = maxDistance g x0 y0)
    (hpos : 0 < wheelDistance g x0 y0 w) (hclear : acrossCentre g y0 w = false) : finalRatio g x0 y0 w = 1024 := by
  have hsigned : signedRatio g x0 y0 w = 1024 := by
    unfold signedRatio
    rw [hclear, ← hfar]
    exact Int.mul_ediv_cancel_left _ (by omega)
  rw [finalRatio, hsigned, pivotRatio, if_neg (by omega), strengthRatio_full]

theorem geometryOf_of_parallel {g : Geometry} {old : GeometryRec} {front rear : Int}
    (h : (tanOf front - tanOf rear).natAbs < 16) : geometryOf g old front rear =
      { ratios := ⟨1024, 1024, 1024, 1024⟩, parallel := true, pivot := false, x0 := 0, y0 := none, seq := old.seq + 1 } :=
  if_pos h

theorem geometryOf_of_turning {g : Geometry} {old : GeometryRec} {front rear : Int}
    (h : 16 ≤ (tanOf front - tanOf rear).natAbs) : geometryOf g old front rear =
      { ratios := PerWheel.of fun w => finalRatio g (centreX g (centreY g (tanOf front - tanOf rear)) (tanOf front))
          (centreY g (tanOf front - tanOf rear)) w
        parallel := false
        pivot := Wheel.all.any fun w => acrossCentre g (centreY g (tanOf front - tanOf rear)) w
        x0 := centreX g (centreY g (tanOf front - tanOf rear)) (tanOf front)
        y0 := some (centreY g (tanOf front - tanOf rear))
        seq := old.seq + 1 } := if_neg (Nat.not_lt.mpr h)

/-- Settles O33. -/
theorem turnRatios : Obligations.TurnRatios := by
  intro g old front rear hbase hbase' htrack htrack' hstrength _ _ _ _ r d
  by_cases hd : d.natAbs < 16
  · have hr : r = _ := geometryOf_of_parallel hd
    refine ⟨by rw [hr], fun _ => hr, fun h => absurd hd (Nat.not_lt.mpr h), fun w => ?_, .fl, by rw [hr]; rfl⟩
    have hget : r.ratios.get w = 1024 := by rw [hr]; cases w <;> rfl
    omega
  · have hturn : 16 ≤ d.natAbs := Nat.not_lt.mp hd
    have hr : r = _ := geometryOf_of_turning hturn
    have hfits := centreFits (front := front) (rear := rear) ⟨hbase, hbase'⟩ ⟨htrack, htrack'⟩ hturn
    have hratio : ∀ w, r.ratios.get w = finalRatio g (centreX g (centreY g d) (tanOf front)) (centreY g d) w := fun w => by
      rw [hr, PerWheel.get_of]
    refine ⟨by rw [hr], fun h => absurd h hd, fun _ => ⟨by rw [hr], ?_, centreY g d, by rw [hr], rfl, by rw [hr]; rfl,
      fun w => ?_⟩, fun w => ?_, ?_⟩
    · rw [hr]
      refine List.any_eq_true.trans ⟨fun ⟨w, _, hw⟩ => ⟨w, _, rfl, (acrossCentre_iff _ _ _).mp hw⟩, fun ⟨w, y, hy, hw⟩ => ?_⟩
      rw [← Option.some.inj hy] at hw
      exact ⟨w, Wheel.mem_all w, (acrossCentre_iff _ _ _).mpr hw⟩
    · have hx : r.x0 = centreX g (centreY g d) (tanOf front) := by rw [hr]
      intro share across signed kept
      have hsigned : signedRatio g (centreX g (centreY g d) (tanOf front)) (centreY g d) w = signed := by
        rw [← hx]
        exact if_congr (acrossCentre_iff _ _ _) rfl rfl
      rw [hratio, finalRatio, hsigned]
      rfl
    · rw [hratio]
      exact strengthRatio_bounds hstrength (pivotRatio_bounds (signedRatio_bounds _ _ _ _))
    · obtain ⟨w, hfar, hpos, hclear⟩ := exists_farthest hfits
      exact ⟨w, (hratio w).trans (finalRatio_farthest hfar hpos hclear)⟩

end Sys2Proof.Machine
end

section
/-! PROOFS. Where a field stands in a page, what the status pages, the telemetry pages and the radio replies carry, the reading
requests, and the reply window. -/
namespace Sys2Proof.Machine

/-! ### Fields of a page -/

/-- The bytes `xs` stand in `bs` from byte `i` on. -/
def Stands (bs : List Byte) (i : Nat) (xs : List Byte) : Prop := (bs.drop i).take xs.length = xs

@[simp] theorem stands_self (xs : List Byte) : Stands xs 0 xs := by simp [Stands]

@[simp] theorem stands_append_right {a b xs : List Byte} {i : Nat} (h : a.length ≤ i) :
    Stands (a ++ b) i xs ↔ Stands b (i - a.length) xs := by
  simp [Stands, List.drop_append, List.drop_eq_nil_of_le h]

@[simp] theorem stands_front (a b : List Byte) : Stands (a ++ b) 0 a := by simp [Stands]

@[simp] theorem stands_past_flag {x : Bool} {b xs : List Byte} {i : Nat} (h : 1 ≤ i) :
    Stands (putFlag x ++ b) i xs ↔ Stands b (i - 1) xs := stands_append_right h

/-- A field of a block that stands in a page stands in the page. -/
theorem Stands.within {bs ys xs : List Byte} {i j : Nat} (h : Stands bs i ys) (hx : Stands ys j xs)
    (hlen : j + xs.length ≤ ys.length) : Stands bs (i + j) xs := by
  have htake : ((ys.drop j).take xs.length) = ((bs.drop (i + j)).take xs.length) := by
    rw [← h, List.drop_take, List.take_take, List.drop_drop, Nat.min_eq_left (by omega)]
  rw [Stands, ← htake, hx]

theorem Stands.fieldAt {bs xs : List Byte} {i w : Nat} (h : Stands bs i xs) (hw : xs.length = w) :
    fieldAt bs i w = numberOf xs := by
  subst hw
  exact congrArg numberOf h

theorem Stands.number {bs : List Byte} {i w n : Nat} (h : Stands bs i (putU w n)) (hn : n < 256 ^ w) :
    Machine.fieldAt bs i w = n :=
  (h.fieldAt (length_putU w n)).trans (numberOf_putU hn)

theorem Stands.unsigned {bs : List Byte} {i w n : Nat} (h : Stands bs i (putU w n)) : CarriesU bs i w n := h.number

theorem numberOf_putI {w : Nat} {z : Int} (hlo : -(256 ^ w : Int) ≤ 2 * z) (hhi : 2 * z < 256 ^ w) :
    (numberOf (putI w z) : Int) = if 0 ≤ z then z else z + 256 ^ w := by
  have hpos : (0 : Int) < 256 ^ w := by positivity
  have hmod : z % 256 ^ w = if 0 ≤ z then z else z + 256 ^ w := by
    split
    · exact Int.emod_eq_of_lt (by omega) (by omega)
    · rw [← Int.add_emod_right]
      exact Int.emod_eq_of_lt (by omega) (by omega)
  have hlt := Int.emod_lt_of_pos z hpos
  have hnonneg := Int.emod_nonneg z hpos.ne'
  have hnat : (z % 256 ^ w).toNat < 256 ^ w := by
    rw [Int.toNat_lt hnonneg]
    push_cast
    exact hlt
  rw [putI, if_pos ⟨hlo, hhi⟩, numberOf_le, Nat.mod_eq_of_lt hnat, Int.toNat_of_nonneg hnonneg, hmod]

theorem Stands.signed {bs : List Byte} {i w : Nat} {z : Int} (h : Stands bs i (putI w z)) : CarriesI bs i w z :=
  fun hlo hhi => by rw [h.fieldAt (length_putI w z), numberOf_putI hlo hhi]

theorem Stands.optUnsigned {bs : List Byte} {i w : Nat} {x : Option Nat} (h : Stands bs i (putOptU w x)) :
    CarriesOptU bs i w x := by
  cases x with
  | some n => exact h.unsigned
  | none =>
    exact (h.fieldAt (length_le w _)).trans ((numberOf_le w _).trans (Nat.mod_eq_of_lt (Nat.sub_lt (by positivity) (by decide))))

theorem Stands.optSigned {bs : List Byte} {i w : Nat} {x : Option Int} (h : Stands bs i (putOptI w x)) :
    CarriesOptI bs i w x := by
  cases x with
  | some z => exact h.signed
  | none =>
    exact (h.fieldAt (length_le w _)).trans ((numberOf_le w _).trans (Nat.mod_eq_of_lt (Nat.div_lt_self (by positivity) (by decide))))

theorem Stands.flag {bs : List Byte} {i : Nat} {b : Bool} (h : Stands bs i (putFlag b)) : CarriesFlag bs i b :=
  (h.fieldAt rfl).trans (by cases b <;> rfl)

@[simp] theorem length_putZ (w : Nat) (z : Int) : (putZ w z).length = w := length_le w _

@[simp] theorem length_putOptZ (w : Nat) (x : Option Int) : (putOptZ w x).length = w := by
  cases x with
  | some z => exact length_putZ w z
  | none => exact length_le w _

@[simp] theorem length_putOptFlag (x : Option Bool) : (putOptFlag x).length = 1 := by
  cases x <;> rfl

@[simp] theorem length_putCrew (v : BitVec 4) : (putCrew v).length = 1 := length_putU 1 v.toNat

@[simp] theorem length_putOpen (s : State) : (putOpen s).length = 1 := length_putU 1 s.sense.openSet.toNat

theorem Stands.ofRange {bs : List Byte} {i w : Nat} {z : Int} (h : Stands bs i (putZ w z)) : CarriesZ bs i w z := by
  intro hz hn
  have hlt : z < 256 ^ w := by
    have := (Int.toNat_lt hz).mp hn
    push_cast at this
    exact this
  rw [h.fieldAt (length_putZ w z), putZ, if_pos ⟨hz, hlt⟩, numberOf_le, Nat.mod_eq_of_lt hn]

theorem Stands.noOptZ {bs : List Byte} {i w : Nat} (h : Stands bs i (putOptZ w none)) :
    Machine.fieldAt bs i w = 256 ^ w - 1 :=
  (h.fieldAt (length_le w _)).trans ((numberOf_le w _).trans (Nat.mod_eq_of_lt (Nat.sub_lt (by positivity) (by decide))))

/-- A flag that a function of one kind has and another has not: 255 where it is absent. -/
theorem Stands.optFlag {bs : List Byte} {i : Nat} {p b : Bool} (h : Stands bs i (putOptFlag (if p then some b else none))) :
    if p then CarriesFlag bs i b else Machine.fieldAt bs i 1 = 255 := by
  cases p with
  | true => exact h.flag
  | false => exact h.fieldAt rfl

/-! ### Values -/

@[simp] theorem length_putValue (f : Fn) (v : Option Int) : (putValue f v).length = valueWidth f := by
  cases f <;> simp [putValue, valueWidth, isNumeric]

theorem Stands.value {bs : List Byte} {i : Nat} {f : Fn} {v : Option Int} (h : Stands bs i (putValue f v)) :
    CarriesValue bs i f v := by
  unfold CarriesValue
  cases htrim : trimmable f with
  | true =>
    rw [if_pos rfl]
    cases f <;> cases htrim <;> exact h.optSigned
  | false =>
    rw [if_neg (by decide)]
    cases v with
    | some z => cases f <;> cases htrim <;> exact Stands.ofRange h
    | none => cases f <;> cases htrim <;> exact Stands.noOptZ h

/-! ### Status pages -/

theorem ctxCode_lt (x : CtxState) : ctxCode x < 256 := by cases x <;> decide
theorem slotCode_lt (x : SlotState) : slotCode x < 256 := by cases x <;> decide
theorem srcCode_lt (x : Src) : srcCode x < 256 := by cases x <;> decide
theorem levelCode_lt (x : Level) : levelCode x < 256 := by cases x <;> decide
theorem reasonCode_lt (x : EndReason) : reasonCode x < 256 := by cases x <;> decide
theorem modeCode_lt (x : SteerMode) : modeCode x < 256 := by cases x <;> decide
theorem steerCode_lt (x : SteerState) : steerCode x < 256 := by cases x <;> decide
theorem chanCode_lt (x : ChanState) : chanCode x < 256 := by cases x <;> decide
theorem winchCode_lt (x : WinchState) : winchCode x < 256 := by cases x <;> decide
theorem protCode_lt (x : ProtState) : protCode x < 256 := by cases x <;> decide
theorem resetCode_lt (x : ResetKind) : resetCode x < 256 := by cases x <;> decide

theorem toNat_lt_field {n : Nat} (v : BitVec n) {w : Nat} (h : 2 ^ n ≤ 256 ^ w) : v.toNat < 256 ^ w :=
  Nat.lt_of_lt_of_le v.isLt h

@[simp] theorem length_effBytes (s : State) (f : Fn) : (effBytes s f).length = 2 * valueWidth f + 3 := by
  simp [effBytes]
  omega

theorem carriesEff_of_stands {s : State} {bs : List Byte} {f : Fn} (h : Stands bs (effStart f) (effBytes s f)) :
    CarriesEff s bs f := by
  have hin {j : Nat} {xs : List Byte} (hx : Stands (effBytes s f) j xs) (hlen : j + xs.length ≤ 2 * valueWidth f + 3) :
      Stands bs (effStart f + j) xs := h.within hx (by rw [length_effBytes]; exact hlen)
  have hvalue : Stands bs (effStart f + 0) (putValue f (some (effOf s f).value)) :=
    hin (by simp [effBytes]) (by simp; omega)
  have hlevel : Stands bs (effStart f + valueWidth f) (putU 1 (levelCode (effOf s f).level)) :=
    hin (by simp [effBytes]) (by simp; omega)
  have hsource : Stands bs (effStart f + (valueWidth f + 1)) (putU 1 (srcCode (effOf s f).source)) :=
    hin (by simp [effBytes]) (by simp; omega)
  have hblend : Stands bs (effStart f + (valueWidth f + 2))
      (putOptFlag (if isNumeric f then some (effOf s f).blend.isSome else none)) :=
    hin (by simp [effBytes]) (by simp; omega)
  have htarget : Stands bs (effStart f + (valueWidth f + 3)) (putValue f (some (effOf s f).target)) :=
    hin (by simp [effBytes]) (by simp; omega)
  exact ⟨hvalue.value, hlevel.number (levelCode_lt _), hsource.number (srcCode_lt _), hblend.optFlag, htarget.value⟩

@[simp] theorem length_grantBytes (s : State) (f : Fn) : (grantBytes s f).length = 4 := by simp [grantBytes]

theorem carriesGrant_of_stands {s : State} {bs : List Byte} {f : Fn} (h : Stands bs (74 + 4 * fnNumber f) (grantBytes s f)) :
    CarriesGrant s bs f := by
  have hheld : Stands bs (74 + 4 * fnNumber f + 0) (putFlag (grantOf s f).held.isSome) :=
    h.within (by simp [grantBytes]) (by simp)
  have htime : Stands bs (74 + 4 * fnNumber f + 1) (putOptU 2 ((grantOf s f).held.map fun x => x.remaining)) :=
    h.within (by simp [grantBytes]) (by simp)
  have hend : Stands bs (74 + 4 * fnNumber f + 3) (putOptU 1 ((grantOf s f).lastEnd.map reasonCode)) :=
    h.within (by simp [grantBytes]) (by simp)
  exact ⟨hheld.flag, htime.optUnsigned, hend.optUnsigned⟩

/-- The fields of one page, from its front, in order. -/
theorem carriesStatus0 (s : State) : CarriesStatus0 s (statusPage0 s) := by
  have heff (f : Fn) : Stands (statusPage0 s) (effStart f) (effBytes s f) := by
    cases f <;> simp [statusPage0, effStart, Fn.all, valueWidth, isNumeric]
  have hgrant (f : Fn) : Stands (statusPage0 s) (74 + 4 * fnNumber f) (grantBytes s f) := by
    cases f <;> simp [statusPage0, fnNumber, Fn.all, valueWidth, isNumeric]
  refine ⟨by simp [statusPage0, Fn.all, valueWidth, isNumeric],
    Stands.number ?_ (ctxCode_lt _), Stands.number ?_ (ctxCode_lt _), Stands.flag ?_,
    Stands.number ?_ (toNat_lt_field _ (by decide)), Stands.number ?_ (toNat_lt_field _ (by decide)),
    Stands.number ?_ (toNat_lt_field _ (by decide)), Stands.number ?_ (toNat_lt_field _ (by decide)),
    Stands.unsigned ?_, Stands.unsigned ?_, Stands.unsigned ?_, Stands.unsigned ?_,
    Stands.number ?_ (toNat_lt_field _ (by decide)), Stands.number ?_ (resetCode_lt _), Stands.unsigned ?_,
    fun f => carriesEff_of_stands (heff f), fun f => carriesGrant_of_stands (hgrant f)⟩
  all_goals simp [statusPage0, putCrew]

theorem length_perWheelBytes {g : Channel → List Byte} {c : Nat} (hg : ∀ x, (g x).length = c) (s : State) :
    (perWheelBytes s g).length = c * 4 := length_flatMap_const hg _

theorem length_statusPage1 (s : State) : (statusPage1 s).length = 34 := by
  unfold statusPage1
  simp only [List.length_append, length_putU, length_putOptI, length_putOptU, length_putFlag, putHome]
  rw [length_perWheelBytes (c := 1) (fun _ => length_putU 1 _)]

theorem carriesStatus1 (s : State) : CarriesStatus1 s (statusPage1 s) := by
  refine ⟨length_statusPage1 s,
    Stands.number ?_ (steerCode_lt _), Stands.number ?_ (modeCode_lt _), Stands.optUnsigned ?_,
    Stands.number ?_ (chanCode_lt _), Stands.number ?_ (chanCode_lt _), Stands.number ?_ (chanCode_lt _),
    Stands.number ?_ (chanCode_lt _), Stands.flag ?_, Stands.number ?_ (winchCode_lt _), Stands.flag ?_,
    Stands.number ?_ (protCode_lt _), Stands.optSigned ?_, Stands.optUnsigned ?_, Stands.flag ?_, Stands.flag ?_,
    Stands.optUnsigned ?_, Stands.unsigned ?_, Stands.unsigned ?_, Stands.unsigned ?_, Stands.unsigned ?_,
    Stands.unsigned ?_, Stands.unsigned ?_, Stands.flag ?_, Stands.flag ?_, Stands.flag ?_⟩
  all_goals unfold statusPage1
  all_goals simp [perWheelBytes, PerWheel.list, PerWheel.get, chan, putHome]

/-! ### Telemetry pages -/

@[simp] theorem length_slotBytes (s : State) (m : Master) (f : Fn) : (slotBytes s m f).length = valueWidth f + 6 := by
  simp [slotBytes]

theorem carriesSlots (s : State) (m : Master) : CarriesSlots s m (Fn.all.flatMap (slotBytes s m)) := by
  refine ⟨by simp [Fn.all, valueWidth, isNumeric], fun f => ?_⟩
  have hslot : Stands (Fn.all.flatMap (slotBytes s m)) (slotStart f) (slotBytes s m f) := by
    cases f <;> simp [slotStart, Fn.all, valueWidth, isNumeric]
  have hin {j : Nat} {xs : List Byte} (hx : Stands (slotBytes s m f) j xs) (hlen : j + xs.length ≤ valueWidth f + 6) :
      Stands (Fn.all.flatMap (slotBytes s m)) (slotStart f + j) xs :=
    hslot.within hx (by rw [length_slotBytes]; exact hlen)
  have hvalue := hin (j := 0) (xs := putValue f (slotOf s m f).value) (by simp [slotBytes]) (by simp)
  have hstate := hin (j := valueWidth f) (xs := putU 1 (slotCode (slotOf s m f).state)) (by simp [slotBytes]) (by simp)
  have hage := hin (j := valueWidth f + 1) (xs := putU 2 (slotOf s m f).age) (by simp [slotBytes]) (by simp)
  have hseq := hin (j := valueWidth f + 3) (xs := putU 1 (slotOf s m f).seq.toNat) (by simp [slotBytes]) (by simp)
  have hsuper := hin (j := valueWidth f + 4) (xs := putU 1 (slotOf s m f).superseded) (by simp [slotBytes]) (by simp)
  have hmark := hin (j := valueWidth f + 5) (xs := putOptFlag (if hasMark f then some (slotOf s m f).confirmed else none))
    (by simp [slotBytes]) (by simp)
  exact ⟨hvalue.value, hstate.number (slotCode_lt _), hage.unsigned, hseq.number (toNat_lt_field _ (by decide)),
    hsuper.unsigned, hmark.optFlag⟩

theorem carriesSteering (s : State) : CarriesSteering s (steeringPage s) := by
  refine ⟨by simp [steeringPage, PerWheel.list], Stands.signed ?_, Stands.signed ?_, Stands.signed ?_, Stands.signed ?_,
    Stands.ofRange ?_, Stands.ofRange ?_, Stands.signed ?_, Stands.signed ?_, Stands.signed ?_, Stands.signed ?_,
    Stands.flag ?_, Stands.flag ?_, Stands.signed ?_, Stands.optSigned ?_, Stands.number ?_ (toNat_lt_field _ (by decide))⟩
  all_goals simp [steeringPage, PerWheel.list]

@[simp] theorem length_channelBytes (c : Channel) : (channelBytes c).length = 26 := by simp [channelBytes]

/-- The fields of a wheel channel, from the front of its block. -/
theorem carriesWheels (s : State) : CarriesWheels s (perWheelBytes s channelBytes) := by
  refine ⟨by simp [perWheelBytes, PerWheel.list], fun w => ?_⟩
  have hblock : Stands (perWheelBytes s channelBytes) (26 * wheelNumber w) (channelBytes (chan s w)) := by
    cases w <;> simp [perWheelBytes, PerWheel.list, wheelNumber, chan, PerWheel.get]
  have hin {j : Nat} {xs : List Byte} (hx : Stands (channelBytes (chan s w)) j xs) (hlen : j + xs.length ≤ 26) :
      Stands (perWheelBytes s channelBytes) (26 * wheelNumber w + j) xs := hblock.within hx (by simpa using hlen)
  have hdrag : if (chan s w).state = .drag then CarriesZ (perWheelBytes s channelBytes) (26 * wheelNumber w + 7) 2 (chan s w).dragLevel
      else fieldAt (perWheelBytes s channelBytes) (26 * wheelNumber w + 7) 2 = 65535 := by
    have h : Stands (perWheelBytes s channelBytes) (26 * wheelNumber w + 7)
        (putOptZ 2 (if (chan s w).state = .drag then some (chan s w).dragLevel else none)) :=
      hin (by simp [channelBytes]) (by simp)
    split
    case isTrue hstate =>
      rw [if_pos hstate] at h
      exact h.ofRange
    case isFalse hstate =>
      rw [if_neg hstate] at h
      exact h.noOptZ
  have hovers : if (chan s w).state = .run ∨ (chan s w).state = .drag then
        CarriesU (perWheelBytes s channelBytes) (26 * wheelNumber w + 24) 1 (chan s w).overs
      else fieldAt (perWheelBytes s channelBytes) (26 * wheelNumber w + 24) 1 = 255 := by
    have h : Stands (perWheelBytes s channelBytes) (26 * wheelNumber w + 24)
        (putOptU 1 (if (chan s w).state = .run ∨ (chan s w).state = .drag then some (chan s w).overs else none)) :=
      hin (by simp [channelBytes]) (by simp)
    split
    case isTrue hstate =>
      rw [if_pos hstate] at h
      exact h.unsigned
    case isFalse hstate =>
      rw [if_neg hstate] at h
      exact h.optUnsigned
  refine ⟨Stands.number (hin (j := 0) ?_ ?_) (chanCode_lt _), Stands.signed (hin ?_ ?_), Stands.signed (hin ?_ ?_),
    Stands.signed (hin ?_ ?_), hdrag, Stands.unsigned (hin ?_ ?_), Stands.unsigned (hin ?_ ?_), Stands.signed (hin ?_ ?_),
    Stands.flag (hin ?_ ?_), Stands.unsigned (hin ?_ ?_), Stands.unsigned (hin ?_ ?_), Stands.unsigned (hin ?_ ?_),
    Stands.unsigned (hin ?_ ?_), hovers, Stands.unsigned (hin ?_ ?_)⟩
  all_goals simp [channelBytes]

@[simp] theorem length_syncBytes (y : Sync) : (syncBytes y).length = 9 := by simp [syncBytes]

theorem carriesSync_of_stands {y : Sync} {bs : List Byte} {i : Nat} (h : Stands bs i (syncBytes y)) : CarriesSync y bs i := by
  refine ⟨Stands.flag (h.within (j := 0) ?_ ?_), Stands.unsigned (h.within ?_ ?_), Stands.unsigned (h.within ?_ ?_),
    Stands.unsigned (h.within ?_ ?_)⟩
  all_goals simp [syncBytes]

theorem carriesWinch (s : State) : CarriesWinch s (winchPage s) := by
  refine ⟨by simp [winchPage, putHome], Stands.number ?_ (winchCode_lt _), Stands.flag ?_, Stands.signed ?_,
    Stands.signed ?_, Stands.unsigned ?_, Stands.signed ?_, Stands.unsigned ?_, Stands.signed ?_, Stands.unsigned ?_,
    Stands.signed ?_, Stands.signed ?_, Stands.unsigned ?_, Stands.unsigned ?_, Stands.unsigned ?_, Stands.unsigned ?_,
    Stands.flag ?_, carriesSync_of_stands ?_⟩
  all_goals simp [winchPage, putHome, payoutMm]

/-- In a table of entries of one length, an entry stands at its number times that length. -/
theorem stands_entry {α : Type} {f : α → List Byte} {c : Nat} (hf : ∀ a, (f a).length = c) (l : List α) {i : Nat}
    (hi : i < l.length) : Stands (l.flatMap f) (c * i) (f l[i]) := by
  have hdrop := drop_flatMap hf l hi []
  rw [List.append_nil] at hdrop
  rw [Stands, hdrop, List.take_left']
  rfl

theorem stands_vector {α : Type} {n : Nat} {f : α → List Byte} {c : Nat} (hf : ∀ a, (f a).length = c) (v : Vector α n)
    (i : Fin n) : Stands (v.toList.flatMap f) (c * i.val) (f (v.get i)) := stands_entry hf v.toList (by simp)

theorem stands_finRange {n : Nat} {f : Fin n → List Byte} {c : Nat} (hf : ∀ a, (f a).length = c) (i : Fin n) :
    Stands ((List.finRange n).flatMap f) (c * i.val) (f i) := by
  have h := stands_entry hf (List.finRange n) (i := i.val) (by simp)
  simpa using h

theorem length_vector_flatMap {α : Type} {n : Nat} {f : α → List Byte} {c : Nat} (hf : ∀ a, (f a).length = c)
    (v : Vector α n) : (v.toList.flatMap f).length = c * n := by
  rw [length_flatMap_const hf, Vector.length_toList]

theorem carriesBudget (s : State) : CarriesBudget s (budgetPage s) := by
  refine ⟨by simp [budgetPage], Stands.unsigned ?_, Stands.unsigned ?_, Stands.unsigned ?_, Stands.unsigned ?_,
    Stands.flag ?_, Stands.unsigned ?_, Stands.unsigned ?_, Stands.unsigned ?_, Stands.unsigned ?_, Stands.unsigned ?_,
    Stands.number ?_ (toNat_lt_field _ (by decide)), Stands.unsigned ?_, Stands.unsigned ?_, Stands.flag ?_,
    Stands.flag ?_, Stands.flag ?_, Stands.optUnsigned ?_, Stands.optUnsigned ?_⟩
  all_goals simp [budgetPage]

@[simp] theorem length_lampBytes (s : State) (i : Fin 8) : (lampBytes s i).length = 14 := by simp [lampBytes]

theorem carriesLamps (s : State) : CarriesLamps s ((List.finRange 8).flatMap (lampBytes s)) := by
  refine ⟨by rw [length_flatMap_const (length_lampBytes s)]; rfl, fun k => ?_⟩
  have hblock := stands_finRange (length_lampBytes s) k
  refine ⟨Stands.number (hblock.within (j := 0) ?_ ?_) (roleCode_lt _), Stands.unsigned (hblock.within ?_ ?_),
    Stands.unsigned (hblock.within ?_ ?_), Stands.flag (hblock.within ?_ ?_), Stands.optUnsigned (hblock.within ?_ ?_),
    Stands.unsigned (hblock.within ?_ ?_), Stands.unsigned (hblock.within ?_ ?_), Stands.unsigned (hblock.within ?_ ?_)⟩
  all_goals simp [lampBytes, roleOf]

theorem length_currentList (c : Option Currents) : ((currentList c).flatMap (putOptI 4)).length = 24 := by
  cases c <;> simp [currentList]

theorem length_pairBytes (p : Option CheckPair) : (pairBytes p).length = 4 := by simp [pairBytes]

theorem length_tapPairBytes (s : State) (i : Fin 6) : (tapPairBytes s i).length = 4 := by
  unfold tapPairBytes
  split
  · simp
  · exact length_pairBytes _

theorem tapPairBytes_of_settled {s : State} {i : Fin 6} (h : pairUnsettled s.sense i.val = false) :
    tapPairBytes s i = pairBytes (s.sense.pairs.get i) := if_neg (by rw [h]; decide)

/-- The layout of the sense page: its four tables and the fields between them. -/
theorem sensePage_layout {a b c d : List Byte} (ha : a.length = 24) (hb : b.length = 12) (hc : c.length = 24)
    (hd : d.length = 24) (volts count : Option Nat) (auto : Bool) (opens : Nat) (x y z : BitVec 16) {bs : List Byte}
    (hbs : bs = a ++ b ++ c ++ putOptU 2 volts ++ putOptU 1 count ++ putFlag auto ++ putU 1 opens ++ d ++ putU 2 x.toNat
      ++ putU 2 y.toNat ++ putU 2 z.toNat) :
    bs.length = 95 ∧ Stands bs 0 a ∧ Stands bs 24 b ∧ Stands bs 36 c ∧ Stands bs 60 (putOptU 2 volts)
      ∧ Stands bs 62 (putOptU 1 count) ∧ Stands bs 63 (putFlag auto) ∧ Stands bs 64 (putU 1 opens) ∧ Stands bs 65 d
      ∧ Stands bs 89 (putU 2 x.toNat) ∧ Stands bs 91 (putU 2 y.toNat) ∧ Stands bs 93 (putU 2 z.toNat) := by
  subst hbs
  simp [ha, hb, hc, hd]

theorem carriesCurrents {bs : List Byte} {c : Option Currents} (h : Stands bs 0 ((currentList c).flatMap (putOptI 4))) :
    CarriesOptI bs 0 4 (c.map fun r => r.pack) ∧ CarriesOptI bs 4 4 (c.map fun r => r.wheels.fl)
      ∧ CarriesOptI bs 8 4 (c.map fun r => r.wheels.fr) ∧ CarriesOptI bs 12 4 (c.map fun r => r.wheels.rl)
      ∧ CarriesOptI bs 16 4 (c.map fun r => r.wheels.rr) ∧ CarriesOptI bs 20 4 (c.map fun r => r.winch) := by
  have hlist : currentList c = [c.map fun r => r.pack, c.map fun r => r.wheels.fl, c.map fun r => r.wheels.fr,
      c.map fun r => r.wheels.rl, c.map fun r => r.wheels.rr, c.map fun r => r.winch] := by cases c <;> rfl
  rw [hlist] at h
  refine ⟨Stands.optSigned (h.within (j := 0) ?_ ?_), Stands.optSigned (h.within (j := 4) ?_ ?_),
    Stands.optSigned (h.within (j := 8) ?_ ?_), Stands.optSigned (h.within (j := 12) ?_ ?_),
    Stands.optSigned (h.within (j := 16) ?_ ?_), Stands.optSigned (h.within (j := 20) ?_ ?_)⟩
  all_goals simp

theorem carriesSense (s : State) : CarriesSense s (sensePage s) := by
  have hpairLen := length_flatMap_const (length_tapPairBytes s) (List.finRange 6)
  have htapLen := length_vector_flatMap (length_putOptU 2) s.sense.taps
  have hcellLen := length_vector_flatMap (length_putOptI 4) s.sense.cells
  obtain ⟨hlen, hcurrents, htaps, hcells, hvolts, hcount, hauto, hopen, hpairs, hx, hy, hz⟩ :=
    sensePage_layout (length_currentList s.sense.currents) htapLen hcellLen (hpairLen.trans (by simp)) s.sense.packVolts
      s.sense.count (s.profile.pack.cellCount == 0) s.sense.openSet.toNat s.sense.currentSweeps s.sense.cellSweeps
      s.sense.checkSweeps (bs := sensePage s) rfl
  obtain ⟨h0, h4, h8, h12, h16, h20⟩ := carriesCurrents hcurrents
  refine ⟨hlen, h0, h4, h8, h12, h16, h20, fun i => ?tap, fun i => ?cell, hvolts.optUnsigned, hcount.optUnsigned, hauto.flag,
    hopen.number (toNat_lt_field _ (by decide)), fun i hsettled => ?pair, hx.number (toNat_lt_field _ (by decide)),
    hy.number (toNat_lt_field _ (by decide)), hz.number (toNat_lt_field _ (by decide))⟩
  case tap =>
    exact (htaps.within (stands_vector (length_putOptU 2) s.sense.taps i) (by rw [htapLen, length_putOptU]; omega)).optUnsigned
  case cell =>
    exact (hcells.within (stands_vector (length_putOptI 4) s.sense.cells i) (by rw [hcellLen, length_putOptI]; omega)).optSigned
  case pair =>
    have hblock : Stands (sensePage s) (65 + 4 * i.val) (pairBytes (s.sense.pairs.get i)) := by
      rw [← tapPairBytes_of_settled hsettled]
      exact hpairs.within (stands_finRange (length_tapPairBytes s) i)
        (by rw [hpairLen, length_tapPairBytes, List.length_finRange]; omega)
    have hlow : Stands (sensePage s) (65 + 4 * i.val + 2) (putOptU 2 ((s.sense.pairs.get i).map fun x => x.low)) :=
      hblock.within (by simp [pairBytes]) (by simp [pairBytes])
    refine ⟨(hblock.within (j := 0) (by simp [pairBytes]) (by simp [pairBytes])).optUnsigned, ?_⟩
    rw [show 67 + 4 * i.val = 65 + 4 * i.val + 2 by omega]
    exact hlow.optUnsigned

theorem carriesTelemetry (s : State) {page : Byte} (h : page.toNat ≤ 7) :
    ∃ bytes, telemetryPage s page.toNat = some bytes ∧ CarriesTelemetry s page.toNat bytes := by
  generalize page.toNat = n at h
  interval_cases n
  · exact ⟨_, rfl, carriesSlots s .radio⟩
  · exact ⟨_, rfl, carriesSlots s .companion⟩
  · exact ⟨_, rfl, carriesSteering s⟩
  · exact ⟨_, rfl, carriesWheels s⟩
  · exact ⟨_, rfl, carriesWinch s⟩
  · exact ⟨_, rfl, carriesSense s⟩
  · exact ⟨_, rfl, carriesBudget s⟩
  · exact ⟨_, rfl, carriesLamps s⟩

theorem telemetryPage_past (s : State) {n : Nat} (h : 7 < n) : telemetryPage s n = none := by
  obtain ⟨m, rfl⟩ : ∃ m, n = m + 8 := ⟨n - 8, by omega⟩
  rfl

theorem carriesStatus (s : State) {page : Byte} (h : page.toNat ≤ 1) :
    ∃ bytes, statusPage s page.toNat = some bytes ∧ CarriesStatus s page.toNat bytes := by
  obtain h0 | h1 : page.toNat = 0 ∨ page.toNat = 1 := by omega
  · rw [h0]
    exact ⟨_, rfl, carriesStatus0 s⟩
  · rw [h1]
    exact ⟨_, rfl, carriesStatus1 s⟩

theorem statusPage_past (s : State) {n : Nat} (h : 1 < n) : statusPage s n = none := by
  obtain ⟨m, rfl⟩ : ∃ m, n = m + 2 := ⟨n - 2, by omega⟩
  rfl

/-! ### Radio replies -/

theorem leadCode_lt (set : BitVec 16) : leadCode set < 256 := by
  unfold leadCode lead
  cases h : (List.range 16).find? fun i => set.getLsbD i with
  | none => decide
  | some k =>
    have hk := List.mem_range.mp (List.mem_of_find?_eq_some h)
    exact Nat.lt_of_lt_of_le hk (by decide)

theorem carriesReply (s : State) (k : ReplySlot) : CarriesReply s k (replyPayload s k) := by
  cases k
  case alert =>
    refine ⟨by simp [replyPayload], Stands.number ?_ (leadCode_lt _), Stands.number ?_ (toNat_lt_field _ (by decide))⟩
    · exact stands_front _ _
    · simp [replyPayload]
  case pack =>
    refine ⟨by simp [replyPayload], Stands.number ?_ (protCode_lt _), Stands.optUnsigned ?_, Stands.optSigned ?_,
      Stands.signed ?_, Stands.unsigned ?_⟩
    all_goals simp [replyPayload]
  case cells =>
    have hlen := length_vector_flatMap (length_putOptI 4) s.sense.cells
    have hcells : Stands (replyPayload s .cells) 3 (s.sense.cells.toList.flatMap (putOptI 4)) := by
      simp [replyPayload, putAuto]
    refine ⟨?_, Stands.optUnsigned ?_, Stands.flag ?_, Stands.number ?_ (toNat_lt_field _ (by decide)), fun i =>
      (hcells.within (stands_vector (length_putOptI 4) s.sense.cells i) (by rw [hlen, length_putOptI]; omega)).optSigned⟩
    all_goals simp [replyPayload, putAuto, putOpen]
  case winch =>
    refine ⟨by simp [replyPayload, putHome], Stands.number ?_ (winchCode_lt _), Stands.flag ?_, Stands.signed ?_,
      Stands.signed ?_, carriesSync_of_stands ?_⟩
    all_goals simp [replyPayload, putHome, payoutMm]
  case drive =>
    refine ⟨by simp [replyPayload, perWheelBytes, PerWheel.list, valueWidth, isNumeric], fun w => ⟨Stands.number ?_ (chanCode_lt _), Stands.signed ?_⟩, Stands.signed ?_,
      Stands.ofRange ?_, Stands.flag ?_⟩
    case refine_1 => cases w <;> simp [replyPayload, perWheelBytes, PerWheel.list, PerWheel.get, chan, wheelNumber]
    case refine_2 => cases w <;> simp [replyPayload, perWheelBytes, PerWheel.list, PerWheel.get, chan, wheelNumber]
    all_goals simp [replyPayload, perWheelBytes, PerWheel.list, putValue, putOptI, putOptZ]
  case flags =>
    refine ⟨by simp [replyPayload], Stands.number ?_ (toNat_lt_field _ (by decide)), Stands.number ?_ (toNat_lt_field _ (by decide)),
      Stands.number ?_ (ctxCode_lt _), Stands.flag ?_⟩
    all_goals simp [replyPayload, putCrew]

/-! ### Reading requests -/

theorem statusPage_heard (s : State) (n : Nat) : statusPage (heard s) n = statusPage s n := rfl

theorem telemetryPage_heard (s : State) (n : Nat) : telemetryPage (heard s) n = telemetryPage s n := rfl

/-- A request that leaves its sender's counts and causes alone and is answered with what it read. -/
theorem reads_of_ready {s : State} (hready : RequestReady s) {q : Request} (hsized : q.sized = true) {k : Kind}
    {payload : List Byte} (hrun : runRequest q (heard s) = answer k payload (heard s)) :
    ∃ t, exec q.command s = .next t ∧ Answered k payload s t ∧ SameExcept [.comp, .compPort] s t :=
  ⟨_, (exec_of_ready hready hsized).trans (congrArg Host.Outcome.next hrun), answered_answer k payload rfl,
    ((heard_frame s).mono (by decide)).trans (answer_frame k payload (heard s))⟩

theorem runStatus_of_page {s : State} {page : Byte} {bytes : List Byte} (h : statusPage s page.toNat = some bytes) :
    runStatus page s = answer .statusRead (page :: bytes) s := by
  rw [runStatus, h]

theorem runTelemetry_of_page {s : State} {page : Byte} {bytes : List Byte} (h : telemetryPage s page.toNat = some bytes) :
    runTelemetry page s = answer .telemetryRead (page :: bytes) s := by
  rw [runTelemetry, h]

theorem readProfile_of_bytes {s : State} {sect : Byte} {scene : Option Byte} {bytes : List Byte}
    (h : readSection s sect scene = some bytes) : readProfile sect scene s = answer .profileRead (sect :: bytes) s := by
  rw [readProfile, h]

theorem readSection_of_sect {s : State} {sect : Byte} {k : Sect} (hk : sectOfNumber sect.toNat = some k) (hscenes : k ≠ .scenes) :
    readSection s sect none = some (sectionBytes s.profile k) := by
  unfold readSection
  rw [hk]
  cases k with
  | scenes => exact absurd rfl hscenes
  | _ => rfl

theorem readSection_scene (s : State) (i : Fin 16) :
    readSection s 9 (some (BitVec.ofNat 8 i.val)) = some (bytesScene (s.profile.scenes.get i)) := by
  have hi : (BitVec.ofNat 8 i.val).toNat = i.val := by rw [BitVec.toNat_ofNat]; omega
  show (if (BitVec.ofNat 8 i.val).toNat < 16 then _ else _) = _
  rw [if_pos (by omega), hi, Fin.ofNat_val_eq_self]

theorem sectOfNumber_past {n : Nat} (h : 10 < n) : sectOfNumber n = none := by
  obtain ⟨m, rfl⟩ : ∃ m, n = m + 11 := ⟨n - 11, by omega⟩
  rfl

theorem sceneFits_of_sect {k : Sect} {n : Nat} (hk : sectOfNumber n = some k) (hscenes : k ≠ .scenes) :
    sceneFits n false = true := by
  simp [sceneFits, hk, hscenes]

/-- Settles O54. -/
theorem readsAndTakesAnswerAtOnce : Obligations.ReadsAndTakesAnswerAtOnce := by
  refine ⟨fun s hready => ⟨fun page hpage => ?status, fun page hpage => ?noStatus, fun page hpage => ?telemetry,
    fun page hpage => ?noTelemetry, fun sect k hk hscenes => ?profile, fun i => ?scene, fun i hi => ?noScene,
    fun sect scene hsect => ?noSection⟩, fun s hready => ⟨?notices, ?causes, fun flags => ?flags⟩⟩
  case status =>
    obtain ⟨bytes, hbytes, hcarries⟩ := carriesStatus s hpage
    obtain ⟨t, hexec, hanswered, hframe⟩ := reads_of_ready hready (q := .statusRead page) rfl
      (runStatus_of_page ((statusPage_heard s _).trans hbytes))
    exact ⟨t, bytes, hexec, hcarries, hanswered, hframe⟩
  case noStatus =>
    refine refuses_of_ready hready (q := .statusRead page) rfl (?_ : runStatus page (heard s) = refuse .value .statusRead (heard s))
    rw [runStatus, statusPage_past _ hpage]
  case telemetry =>
    obtain ⟨bytes, hbytes, hcarries⟩ := carriesTelemetry s hpage
    obtain ⟨t, hexec, hanswered, hframe⟩ := reads_of_ready hready (q := .telemetryRead page) rfl
      (runTelemetry_of_page ((telemetryPage_heard s _).trans hbytes))
    exact ⟨t, bytes, hexec, hcarries, hanswered, hframe⟩
  case noTelemetry =>
    refine refuses_of_ready hready (q := .telemetryRead page) rfl
      (?_ : runTelemetry page (heard s) = refuse .value .telemetryRead (heard s))
    rw [runTelemetry, telemetryPage_past _ hpage]
  case profile =>
    exact reads_of_ready hready (q := .profileRead sect none) (sceneFits_of_sect hk hscenes)
      (readProfile_of_bytes (readSection_of_sect hk hscenes))
  case scene =>
    exact reads_of_ready hready (q := .profileRead 9 (some (BitVec.ofNat 8 i.val))) rfl
      (readProfile_of_bytes (readSection_scene (heard s) i))
  case noScene =>
    refine refuses_of_ready hready (q := .profileRead 9 (some i)) rfl
      (?_ : readProfile 9 (some i) (heard s) = refuse .value .profileRead (heard s))
    have hnone : readSection (heard s) 9 (some i) = none := if_neg (by omega)
    rw [readProfile, hnone]
  case noSection =>
    have hsized : (Request.profileRead sect scene).sized = true := by
      simp [Request.sized, sceneFits, sectOfNumber_past hsect]
    refine refuses_of_ready hready hsized
      (?_ : readProfile sect scene (heard s) = refuse .value .profileRead (heard s))
    have hnone : readSection (heard s) sect scene = none := by
      unfold readSection
      rw [sectOfNumber_past hsect]
    rw [readProfile, hnone]
  case notices =>
    exact ⟨_, exec_of_ready hready (q := .noticeTake) rfl, ⟨rfl, rfl, rfl⟩, rfl,
      (((heard_frame s).mono (by decide)).trans ((setNotices_frame_only _ _).mono (by decide))).trans
        ((answer_frame _ _ _).mono (by decide))⟩
  case causes =>
    exact ⟨_, exec_of_ready hready (q := .causeTake) rfl, ⟨rfl, rfl, rfl⟩, rfl,
      (((heard_frame s).mono (by decide)).trans ((setComp_frame_only _ _).mono (by decide))).trans (answer_frame _ _ _)⟩
  case flags =>
    refine ⟨_, exec_of_ready hready (q := .flagsSet flags) rfl, ⟨rfl, rfl, rfl⟩, fun i hi => ?_, rfl,
      (((heard_frame s).mono (by decide)).trans ((setComp_frame_only _ _).mono (by decide))).trans (answer_frame _ _ _)⟩
    show (BitVec.setWidth 4 flags).getLsbD i = _
    simp [hi]

/-! ### The reply window -/

theorem exec_replyDelayExpiry (s : State) : exec .replyDelayExpiry s = .next (replyStarts s) := rfl

theorem exec_replyEnd (s : State) : exec .replyEnd s = .next (replyEnds s) := rfl

theorem lineFree_eq_false {s : State} (h : s.radioPort.reply ≠ .none) : lineFree s = false := by
  simp [lineFree, h]

/-- Settles O21. -/
theorem replyWindowOpensAndCloses : Obligations.ReplyWindowOpensAndCloses := by
  refine ⟨fun s => ⟨fun bytes n hdelay => ?delay, fun bytes n hsending => ?sending, fun hnone => ?rest⟩, fun s hreply => ?closed⟩
  case delay => rw [exec_replyDelayExpiry, exec_replyEnd, replyStarts, replyEnds, hdelay]; exact ⟨rfl, rfl⟩
  case sending => rw [exec_replyDelayExpiry, exec_replyEnd, replyStarts, replyEnds, hsending]; exact ⟨rfl, rfl⟩
  case rest => rw [exec_replyDelayExpiry, exec_replyEnd, replyStarts, replyEnds, hnone]; exact ⟨rfl, rfl⟩
  case closed =>
    have hfree := lineFree_eq_false hreply
    refine ⟨fun f => ?_, fun b => ?_, fun l => ?_⟩
    · simp [exec_radioFrame, receiveFrame, hfree]
    · simp [exec_interByteGap, byteGap, hfree]
    · simp [exec_badLengthByte, lengthByte, hfree]

end Sys2Proof.Machine
end

section
/-! PROOFS. Envelopes: the request that an envelope spells, and what its checks refuse. -/
namespace Sys2Proof.Machine

/-! ### Fields of a payload -/

theorem byteAt_append_right {a b : List Byte} {i : Nat} (h : a.length ≤ i) : byteAt (a ++ b) i = byteAt b (i - a.length) :=
  List.getD_append_right _ _ _ _ h

theorem wordAt_drop (bs : List Byte) (i j : Nat) : wordAt (bs.drop i) j = wordAt bs (i + j) :=
  congrArg (BitVec.ofNat 16) (u16_drop bs i j)

theorem byteAt_drop (bs : List Byte) (i j : Nat) : byteAt (bs.drop i) j = byteAt bs (i + j) := by
  simp [byteAt, List.getD_eq_getElem?_getD]

/-- A word reads back from its two bytes. -/
theorem wordAt_twoBytes (v : BitVec 16) (a : Byte) (rest : List Byte) : wordAt (a :: (twoBytes v ++ rest)) 1 = v := by
  refine BitVec.eq_of_toNat_eq ?_
  have hlow : u8 (a :: (twoBytes v ++ rest)) 1 = v.toNat % 256 := BitVec.toNat_setWidth 8 v
  have hhigh : u8 (a :: (twoBytes v ++ rest)) 2 = v.toNat / 256 % 256 := by
    simp [u8, twoBytes, BitVec.extractLsb'_toNat, Nat.shiftRight_eq_div_pow]
  have hv := v.isLt
  rw [wordAt, u16, hlow, hhigh, BitVec.toNat_ofNat]
  omega

/-! ### Tables of a payload -/

/-- A DEMAND pair's three bytes. -/
def pairBytesOf (x : DemandPair) : List Byte := x.fn :: twoBytes x.value

theorem length_pairBytesOf (x : DemandPair) : (pairBytesOf x).length = 3 := rfl

theorem readPairs_payload (pairs : List DemandPair) : readPairs pairs.length (pairs.flatMap pairBytesOf) = pairs := by
  refine List.ext_getElem (by simp [readPairs]) fun i h hi => ?_
  have hdrop := drop_flatMap length_pairBytesOf pairs hi []
  rw [List.append_nil] at hdrop
  have hfn : byteAt (pairs.flatMap pairBytesOf) (3 * i) = pairs[i].fn := by
    rw [← Nat.add_zero (3 * i), ← byteAt_drop, hdrop]
    rfl
  have hvalue : wordAt (pairs.flatMap pairBytesOf) (3 * i + 1) = pairs[i].value := by
    rw [← wordAt_drop, hdrop]
    exact wordAt_twoBytes _ _ _
  simp [readPairs, hfn, hvalue]

/-- A pattern step's five bytes. -/
def stepBytesOf (x : StepBytes) : List Byte := x.mask :: twoBytes x.level ++ [x.duration, x.marks]

theorem length_stepBytesOf (x : StepBytes) : (stepBytesOf x).length = 5 := rfl

theorem readSteps_payload (bank first count : Byte) (steps : List StepBytes) :
    readSteps steps.length (bank :: first :: count :: steps.flatMap stepBytesOf) = steps := by
  refine List.ext_getElem (by simp [readSteps]) fun i h hi => ?_
  have hdrop : (bank :: first :: count :: steps.flatMap stepBytesOf).drop (3 + 5 * i)
      = stepBytesOf steps[i] ++ (steps.drop (i + 1)).flatMap stepBytesOf := by
    have h := drop_flatMap length_stepBytesOf steps hi []
    simpa [Nat.add_comm 3] using h
  have hfield (j : Nat) : byteAt (bank :: first :: count :: steps.flatMap stepBytesOf) (3 + 5 * i + j)
      = byteAt (stepBytesOf steps[i] ++ (steps.drop (i + 1)).flatMap stepBytesOf) j := by
    rw [← byteAt_drop, hdrop]
  have hmask := hfield 0
  have hduration := hfield 3
  have hmarks := hfield 4
  have hlevel : wordAt (bank :: first :: count :: steps.flatMap stepBytesOf) (3 + 5 * i + 1) = steps[i].level := by
    rw [← wordAt_drop, hdrop]
    exact wordAt_twoBytes _ _ _
  rw [Nat.add_zero] at hmask
  simp only [readSteps, List.getElem_map, List.getElem_range, hmask, hduration, hmarks, hlevel]
  rfl

/-! ### A request's payload -/

theorem sectWriteLength_le (k : Sect) : sectWriteLength k ≤ 119 := by cases k <;> decide

theorem bodyFits_le {sect n : Nat} (h : bodyFits sect n = true) : n ≤ 119 := by
  unfold bodyFits at h
  split at h
  next k _ => exact Nat.le_trans (Nat.le_of_eq (beq_iff_eq.mp h)) (sectWriteLength_le k)
  next => exact of_decide_eq_true h

/-- The payload of a request of an allowed length fits an envelope. -/
theorem length_payload_le {q : Request} (h : q.sized = true) : q.payload.length ≤ 120 := by
  cases q with
  | demand pairs =>
    have hlen := length_flatMap_const length_pairBytesOf pairs
    have hfit : 1 ≤ pairs.length ∧ pairs.length ≤ 7 := by simpa [Request.sized, pairsFit] using h
    show (pairs.flatMap pairBytesOf).length ≤ 120
    omega
  | profileWrite sect body => exact Nat.succ_le_succ (bodyFits_le h)
  | profileRead sect scene =>
    cases scene with
    | none => exact Nat.le_of_ble_eq_true rfl
    | some i => exact Nat.le_of_ble_eq_true rfl
  | patternWrite bank first steps =>
    have hlen := length_flatMap_const length_stepBytesOf steps
    have hfit : 3 + 5 * steps.length ≤ 120 := by simpa [Request.sized, stepsFit] using h
    show (steps.flatMap stepBytesOf).length + 1 + 1 + 1 ≤ 120
    omega
  | _ => exact Nat.le_of_ble_eq_true rfl

theorem readPayload_payload {q : Request} (h : q.sized = true) : readPayload q.kind q.payload = some q := by
  cases q with
  | demand pairs =>
    have hlen : (pairs.flatMap pairBytesOf).length = 3 * pairs.length := length_flatMap_const length_pairBytesOf pairs
    have hfit : 1 ≤ pairs.length ∧ pairs.length ≤ 7 := by simpa [Request.sized, pairsFit] using h
    show (if (pairs.flatMap pairBytesOf).length % 3 = 0 ∧ 3 ≤ (pairs.flatMap pairBytesOf).length
      ∧ (pairs.flatMap pairBytesOf).length ≤ 21 then _ else none) = _
    have hcount : (Request.demand pairs).payload.length / 3 = pairs.length := by
      show (pairs.flatMap pairBytesOf).length / 3 = _
      omega
    rw [if_pos (by omega), hcount]
    exact congrArg (some ∘ Request.demand) (readPairs_payload pairs)
  | grant fn duration => exact congrArg (fun d => some (Request.grant fn d)) (wordAt_twoBytes duration fn [])
  | profileWrite sect body => exact if_pos ⟨Nat.succ_pos _, h⟩
  | profileRead sect scene =>
    cases scene with
    | none => exact if_pos ⟨Nat.le_refl 1, h, fun _ => Nat.le_of_ble_eq_true rfl⟩
    | some i => exact if_pos ⟨Nat.le_of_ble_eq_true rfl, h, fun _ => Nat.le_of_ble_eq_true rfl⟩
  | patternWrite bank first steps =>
    have hlen := length_flatMap_const length_stepBytesOf steps
    have hfit : 3 + 5 * steps.length ≤ 120 := by simpa [Request.sized, stepsFit] using h
    have hcount : (BitVec.ofNat 8 steps.length).toNat = steps.length := by rw [BitVec.toNat_ofNat]; omega
    show (if 3 ≤ (steps.flatMap stepBytesOf).length + 1 + 1 + 1
      ∧ (steps.flatMap stepBytesOf).length + 1 + 1 + 1 = 3 + 5 * (BitVec.ofNat 8 steps.length).toNat then
        some (Request.patternWrite bank first (readSteps (BitVec.ofNat 8 steps.length).toNat _)) else none) = _
    rw [hcount, if_pos (by omega)]
    exact congrArg (fun x => some (Request.patternWrite bank first x)) (readSteps_payload _ _ _ steps)
  | _ => rfl

theorem of_ite_some {α : Type} {c : Prop} [Decidable c] {x y : α} (h : (if c then some x else none) = some y) : c := by
  by_contra hno
  rw [if_neg hno] at h
  cases h

/-- A payload that is read has a length that its kind allows (section 10.6). -/
theorem lengthFits_of_readPayload {k : Kind} {bs : List Byte} {q : Request} (h : readPayload k bs = some q) :
    LengthFits (kindCode k).toNat bs := by
  have hhead : (bs.headD 0).toNat = u8 bs 0 := by cases bs <;> rfl
  cases k with
  | profileWrite =>
    obtain ⟨hpos, hfit⟩ := of_ite_some h
    refine ⟨hpos, fun k hk => ?_⟩
    rw [hhead] at hk
    rw [bodyFits, hk] at hfit
    have := beq_iff_eq.mp hfit
    omega
  | profileRead =>
    obtain ⟨hpos, hfit, hmost⟩ := of_ite_some h
    refine ⟨hpos, fun k hk => ?_⟩
    rw [hhead] at hk
    rw [hk] at hmost
    have hle : bs.length ≤ 2 := hmost rfl
    rw [sceneFits, hk] at hfit
    have hscene : decide (2 ≤ bs.length) = (k == .scenes) := beq_iff_eq.mp hfit
    show bs.length = _
    split
    case isTrue hk => subst hk; have := of_decide_eq_true hscene; omega
    case isFalse hk =>
      rw [beq_eq_false_iff_ne.mpr hk] at hscene
      have := of_decide_eq_false hscene
      omega
  | _ =>
    have hc := of_ite_some h
    exact hc

/-! ### The envelope's checks -/

theorem kindOfCode_kindCode (k : Kind) : kindOfCode (kindCode k).toNat = some k := by cases k <;> rfl

theorem kindCode_ne_zero (k : Kind) : kindCode k ≠ 0 := by cases k <;> decide

theorem kindOfCode_some {n : Nat} {k : Kind} (h : kindOfCode n = some k) : (kindCode k).toNat = n := by
  unfold kindOfCode at h
  split at h <;> cases h <;> rfl

theorem kindOfCode_past {n : Nat} (h : 15 < n) : kindOfCode n = none := by
  obtain ⟨m, rfl⟩ : ∃ m, n = m + 16 := ⟨n - 16, by omega⟩
  rfl

/-- The bytes under the CRC of a request's envelope. -/
def requestBody (q : Request) : List Byte := kindCode q.kind :: BitVec.ofNat 8 q.payload.length :: q.payload

/-- A request's kind, length and payload, two bytes where its CRC stands and any bytes after them are read as that request,
and its CRC decides (R165). -/
theorem checkEnvelope_body {q : Request} (hsized : q.sized = true) (a b : Byte) (more : List Byte) :
    checkEnvelope (requestBody q ++ a :: b :: more)
      = if [a, b] = crcBytes (crc16 (requestBody q)) then .ok q else .error .check := by
  have hlen := length_payload_le hsized
  have hcount : (BitVec.ofNat 8 q.payload.length).toNat = q.payload.length := by rw [BitVec.toNat_ofNat]; omega
  have hbody : (requestBody q).length = 2 + q.payload.length := by rw [requestBody, List.length_cons, List.length_cons]; omega
  obtain ⟨rest, hclip⟩ : ∃ rest, (requestBody q ++ a :: b :: more).take 124 = requestBody q ++ a :: b :: rest := by
    refine ⟨more.take (124 - (requestBody q).length - 2), ?_⟩
    rw [List.take_append, List.take_of_length_le (by omega)]
    obtain ⟨m, hm⟩ : ∃ m, 124 - (requestBody q).length = m + 2 := ⟨122 - (requestBody q).length, by omega⟩
    rw [hm]
    rfl
  have hkind : kindOfCode (u8 (requestBody q ++ a :: b :: rest) 0) = some q.kind := kindOfCode_kindCode q.kind
  have hcountAt : u8 (requestBody q ++ a :: b :: rest) 1 = q.payload.length := hcount
  have hpayload : ((requestBody q ++ a :: b :: rest).drop 2).take q.payload.length = q.payload :=
    List.take_left' rfl
  have hcrc : envelopeCrcOk (requestBody q ++ a :: b :: rest) q.payload.length
      = decide ([a, b] = crcBytes (crc16 (requestBody q))) := by
    rw [envelopeCrcOk, ← hbody, List.take_left', List.drop_left']
    · rw [Bool.eq_iff_iff, beq_iff_eq, decide_eq_true_iff, eq_comm]
      rfl
    · rfl
    · rfl
  have hfits : ¬(120 < q.payload.length ∨ (requestBody q ++ a :: b :: rest).length < 4 + q.payload.length) := by
    rw [List.length_append, hbody, List.length_cons, List.length_cons]
    omega
  unfold checkEnvelope
  dsimp only
  rw [hclip, hkind, hcountAt]
  dsimp only
  rw [if_neg hfits, hpayload, readPayload_payload hsized, hcrc]
  by_cases h : [a, b] = crcBytes (crc16 (requestBody q))
  · rw [if_pos h]
    exact if_pos (decide_eq_true h)
  · rw [if_neg h]
    exact if_neg (by rw [decide_eq_true_iff]; exact h)

theorem envelope_eq (q : Request) : envelope (kindCode q.kind) q.payload = requestBody q ++ crcBytes (crc16 (requestBody q)) := rfl

theorem checkEnvelope_envelope {q : Request} (hsized : q.sized = true) (more : List Byte) :
    checkEnvelope (envelope (kindCode q.kind) q.payload ++ more) = .ok q := by
  rw [envelope_eq, List.append_assoc]
  exact (checkEnvelope_body hsized _ _ more).trans (if_pos rfl)

/-- What is refused FORMAT (R165): an unknown kind, a length above 120, too few bytes, or a length its kind does not
allow. -/
theorem checkEnvelope_format {b : Byte} {bs : List Byte}
    (h : 15 < b.toNat ∨ 120 < ((b :: bs).getD 1 0).toNat ∨ (b :: bs).length < 4 + ((b :: bs).getD 1 0).toNat
      ∨ ¬LengthFits b.toNat (((b :: bs).drop 2).take ((b :: bs).getD 1 0).toNat)) :
    checkEnvelope (b :: bs) = .error .format := by
  have hfirst : u8 ((b :: bs).take 124) 0 = b.toNat := rfl
  have hsecond : u8 ((b :: bs).take 124) 1 = ((b :: bs).getD 1 0).toNat := by cases bs <;> rfl
  have hclip : ((b :: bs).take 124).length = min 124 (b :: bs).length := List.length_take
  unfold checkEnvelope
  dsimp only
  rw [hfirst, hsecond, hclip]
  generalize ((b :: bs).getD 1 0).toNat = n at h
  cases hkind : kindOfCode b.toNat with
  | none => rfl
  | some k =>
    dsimp only
    by_cases hshort : 120 < n ∨ min 124 (b :: bs).length < 4 + n
    · rw [if_pos hshort]
    · rw [if_neg hshort]
      have htake : ((((b :: bs).take 124).drop 2).take n) = (((b :: bs).drop 2).take n) := by
        rw [List.drop_take, List.take_take, Nat.min_eq_left (by omega)]
      have hkindLe : ¬15 < b.toNat := fun hpast => by rw [kindOfCode_past hpast] at hkind; cases hkind
      have hlen : ¬LengthFits b.toNat (((b :: bs).drop 2).take n) := by
        obtain hpast | hlong | hfew | hno := h
        · exact absurd hpast hkindLe
        · omega
        · omega
        · exact hno
      rw [htake]
      cases hread : readPayload k (((b :: bs).drop 2).take n) with
      | none => rfl
      | some q => exact absurd (kindOfCode_some hkind ▸ lengthFits_of_readPayload hread) hlen

/-! ### The transfer -/

theorem consumes_iff (sent : Option (List Byte)) (n : Nat) :
    consumes sent n = true ↔ ∃ bytes, sent = some bytes ∧ 1 + bytes.length ≤ n := by
  cases sent <;> simp [consumes]

/-- A state that differs in one block alone is given by that block. -/
theorem eq_setCompPort {s u : State} (h : SameExcept [.compPort] s u) : u = s.setCompPort u.compPort := by
  obtain ⟨_, _, _, _, _, _, _, _, _, _, _, _, _, _, _, _, _, _, _⟩ := s
  obtain ⟨_, _, _, _, _, _, _, _, _, _, _, _, _, _, _, _, _, _, _⟩ := u
  have hblock (b : Block) (hb : b ≠ .compPort) := h b (by simpa using hb)
  cases hblock .radio (by decide)
  cases hblock .comp (by decide)
  cases hblock .slots (by decide)
  cases hblock .resolver (by decide)
  cases hblock .steering (by decide)
  cases hblock .drive (by decide)
  cases hblock .winch (by decide)
  cases hblock .sense (by decide)
  cases hblock .protection (by decide)
  cases hblock .budget (by decide)
  cases hblock .lamps (by decide)
  cases hblock .radioPort (by decide)
  cases hblock .notices (by decide)
  cases hblock .profile (by decide)
  cases hblock .store (by decide)
  cases hblock .retained (by decide)
  cases hblock .clock (by decide)
  cases hblock .queue (by decide)
  rfl

/-- What was clocked in is refused where its envelope fails a check (R165). -/
theorem takeClocked_refused {mosi : List Byte} {u : State} {c : Cause} {b : Byte} {bs : List Byte} (hmosi : mosi = b :: bs)
    (hb : b ≠ 0) (hfree : CellsFree u) (hcheck : checkEnvelope mosi = .error c) :
    takeClocked mosi u = refuseByte c (mosi.headD 0) u := by
  subst hmosi
  have hbusy : ¬cellsBusy u = true := by rw [cellsBusy_eq_false hfree]; decide
  unfold takeClocked takeRequest
  dsimp only
  rw [if_neg hb, if_neg hbusy, hcheck]
  rfl

/-- What was clocked in is taken as the request it spells. -/
theorem takeClocked_request {mosi : List Byte} {u : State} {q : Request} {bs : List Byte} (hmosi : mosi = kindCode q.kind :: bs)
    (hsized : q.sized = true) (hcheck : checkEnvelope mosi = .ok q) : takeClocked mosi u = takeNamed q u := by
  subst hmosi
  have hnamed : sizedRequest q = .ok q := if_pos hsized
  unfold takeClocked takeNamed
  dsimp only
  rw [if_neg (kindCode_ne_zero q.kind), hcheck, hnamed]

/-- Settles O56. -/
theorem envelopesSpellTheirRequests : Obligations.EnvelopesSpellTheirRequests := by
  intro s status sent pins mosi hrun hheld consumed refusedAs u hidle hrequest hnotHeld hconsumed hkept hframe
  have hu : u = endTransfer (consumes sent mosi.length) s := by
    have hiff : consumes sent mosi.length = true ↔ consumed := consumes_iff sent mosi.length
    have hport : u.compPort = (endTransfer (consumes sent mosi.length) s).compPort := by
      have hanswer : u.compPort.answer = if consumes sent mosi.length then none else s.compPort.answer := by
        split
        case isTrue h => exact hconsumed (hiff.mp h)
        case isFalse h => exact hkept fun hc => h (hiff.mpr hc)
      have hheldAfter : u.compPort.restartHeld = (s.compPort.restartHeld && !consumes sent mosi.length) := by
        rw [hnotHeld, hheld, Bool.false_and]
      calc u.compPort = ⟨u.compPort.request, u.compPort.answer, u.compPort.transfer, u.compPort.restartHeld⟩ := rfl
        _ = _ := by rw [hrequest, hanswer, hidle, hheldAfter]; rfl
    rw [eq_setCompPort hframe, hport]
    rfl
  have hexec : exec (.companionTransfer mosi pins) s = .next (takeClocked mosi u) := by
    rw [exec_transfer_running hrun hheld, hu]
  have hcomp : u.comp = s.comp := hframe .comp (by decide)
  have hrefused {c : Cause} {b : Byte} {bs : List Byte} (hmosi : mosi = b :: bs) (hb : b ≠ 0) (hfree : CellsFree u)
      (hcheck : checkEnvelope mosi = .error c) : refusedAs c u := by
    have htake : takeClocked mosi u = refuseByte c (mosi.headD 0) u := takeClocked_refused hmosi hb hfree hcheck
    exact ⟨refuseByte c (mosi.headD 0) u, by rw [hexec, htake], rfl, rfl, hidle, (congrArg CompCtx.state hcomp :),
      (congrArg CompCtx.timer hcomp :), (congrArg (·.refused + 1) hcomp :), (congrArg CompCtx.accepted hcomp :),
      (congrArg (fun x : CompCtx => addMember x.causes (causeCode c)) hcomp :),
      refuseByte_frame c _ u⟩
  refine ⟨fun q more hsized hmosi => ?request, fun hfree => ⟨fun q a b more hsized => ?check, fun hhead => ?format⟩⟩
  case request =>
    have hcheck : checkEnvelope mosi = .ok q := by rw [hmosi, checkEnvelope_envelope hsized]
    rw [hexec, exec_command, takeClocked_request (hmosi.trans rfl) hsized hcheck]
  case check =>
    intro body hmosi hcrc
    refine hrefused (hmosi.trans rfl) (kindCode_ne_zero q.kind) hfree ?_
    rw [hmosi]
    exact (checkEnvelope_body hsized a b more).trans (if_neg hcrc)
  case format =>
    intro n hbad
    obtain ⟨b, bs, hmosi⟩ : ∃ b bs, mosi = b :: bs := by
      cases mosi with
      | nil => exact absurd rfl hhead
      | cons b bs => exact ⟨b, bs, rfl⟩
    refine hrefused hmosi (by rw [hmosi] at hhead; exact hhead) hfree ?_
    subst hmosi
    exact checkEnvelope_format hbad

end Sys2Proof.Machine
end

section
/-! PROOFS. PROFILE_WRITE: what each section's checks refuse, the contents that they pass, and the write and its store. -/
namespace Sys2Proof.Machine

/-! ### Fields of a body -/

theorem numberOf_take_one (bs : List Byte) : numberOf (bs.take 1) = u8 bs 0 := by
  cases bs with
  | nil => rfl
  | cons b bs => simp [numberOf, u8]

theorem numberOf_take_two (bs : List Byte) : numberOf (bs.take 2) = u16 bs 0 := by
  cases bs with
  | nil => rfl
  | cons b bs => cases bs <;> simp [numberOf, u16, u8]

theorem fieldAt_one (bs : List Byte) (i : Nat) : fieldAt bs i 1 = u8 bs i :=
  (numberOf_take_one _).trans (u8_drop bs i 0)

theorem fieldAt_two (bs : List Byte) (i : Nat) : fieldAt bs i 2 = u16 bs i :=
  (numberOf_take_two _).trans (u16_drop bs i 0)

theorem clamped_eq {lo hi : Nat} (h : lo ≤ hi) (n : Nat) : clamped lo hi n = clampN lo hi n := by
  unfold clamped clampN
  split
  · omega
  · split
    · omega
    · omega

/-! ### The checks of the sections -/

theorem checkSources_value {bs : List Byte} (h : BreaksValue .sources bs) : checkSources bs = .error .value := by
  refine if_neg ?_
  simp only [BreaksValue, fieldAt_one, fieldAt_two] at h
  omega

theorem checkSources_ok {bs : List Byte} (h : ¬BreaksValue .sources bs) : ∃ v, checkSources bs = .ok v ∧ SourcesHold bs v := by
  simp only [BreaksValue, fieldAt_one, fieldAt_two] at h
  refine ⟨_, if_pos (by omega), ?_⟩
  have h10 := u16_lt bs 10
  have h12 := u16_lt bs 12
  simp only [SourcesHold, fieldAt_one, fieldAt_two, BitVec.toNat_ofNat]
  refine ⟨(clamped_eq (by decide) _).symm, (clamped_eq (by decide) _).symm, ?_, ?_, ?_, ?_, ?_, ?_⟩
  all_goals exact Nat.mod_eq_of_lt (by omega)

theorem checkReply_value {bs : List Byte} (h : BreaksValue .reply bs) : checkReply bs = .error .value := by
  refine if_neg ?_
  simp only [BreaksValue, fieldAt_one] at h
  omega

theorem beq_one_iff (n : Nat) : (n == 1) = true ↔ n = 1 := beq_iff_eq

theorem checkReply_ok {bs : List Byte} (h : ¬BreaksValue .reply bs) : ∃ v, checkReply bs = .ok v ∧ ReplyHolds bs v := by
  simp only [BreaksValue, fieldAt_one] at h
  refine ⟨_, if_pos (by omega), ?_⟩
  simp (disch := decide) only [ReplyHolds, fieldAt_one, fieldAt_two, clamped_eq, beq_one_iff, and_self]

theorem checkWinch_value {bs : List Byte} (h : BreaksValue .winch bs) : checkWinch bs = .error .value := by
  refine if_neg ?_
  simp only [BreaksValue, fieldAt_one] at h
  omega

theorem checkWinch_ok {bs : List Byte} (h : ¬BreaksValue .winch bs) : ∃ v, checkWinch bs = .ok v ∧ WinchHolds bs v := by
  simp only [BreaksValue, fieldAt_one] at h
  refine ⟨_, if_pos (by omega), ?_⟩
  simp (disch := decide) only [WinchHolds, fieldAt_one, fieldAt_two, clamped_eq, beq_one_iff, and_self]

theorem checkDrive_value {bs : List Byte} (h : BreaksValue .drive bs) : checkDrive bs = .error .value := by
  refine if_neg ?_
  simp (disch := decide) only [BreaksValue, fieldAt_two, clamped_eq] at h
  dsimp only
  omega

theorem checkDrive_ok {bs : List Byte} (h : ¬BreaksValue .drive bs) : ∃ v, checkDrive bs = .ok v ∧ DriveHolds bs v := by
  simp (disch := decide) only [BreaksValue, fieldAt_two, clamped_eq] at h
  refine ⟨_, if_pos (by dsimp only; omega), ?_⟩
  simp (disch := decide) only [DriveHolds, fieldAt_one, fieldAt_two, clamped_eq, and_self]

theorem servoBroken_iff (bs : List Byte) (i : Nat) : ServoBroken bs i ↔ servoOk (readServo bs i) = false := by
  rw [servoOk, decide_eq_false_iff_not]
  simp (disch := decide) only [ServoBroken, readServo, fieldAt_two, clamped_eq]
  omega

theorem servoHolds_read (bs : List Byte) (i : Nat) : ServoHolds bs i (readServo bs i) := by
  simp (disch := decide) only [ServoHolds, readServo, fieldAt_one, fieldAt_two, clamped_eq, beq_one_iff, and_self]

theorem checkGeometry_value {bs : List Byte} (h : BreaksValue .geometry bs) : checkGeometry bs = .error .value := by
  refine if_neg fun hok => ?_
  obtain ⟨hframe, hpivot, hfront, hrear, hfrontOk, hrearOk⟩ := hok
  simp only [BreaksValue, fieldAt_one, servoBroken_iff, hfrontOk, hrearOk, Bool.true_eq_false, or_false] at h
  omega

theorem checkGeometry_ok {bs : List Byte} (h : ¬BreaksValue .geometry bs) :
    ∃ v, checkGeometry bs = .ok v ∧ GeometryHolds bs v := by
  simp only [BreaksValue, fieldAt_one, servoBroken_iff, not_or, Bool.not_eq_false] at h
  obtain ⟨hframe, hpivot, hfront, hrear, hfrontOk, hrearOk⟩ := h
  refine ⟨_, if_pos ⟨by omega, by omega, by omega, by omega, hfrontOk, hrearOk⟩, ?_⟩
  simp (disch := decide) only [GeometryHolds, fieldAt_one, fieldAt_two, clamped_eq, beq_one_iff, servoHolds_read, and_self]

theorem shuntHolds_read (bs : List Byte) (i : Nat) : ShuntHolds bs i (readShunt bs i) := by
  simp (disch := decide) only [ShuntHolds, readShunt, fieldAt_two, clamped_eq, and_self]

theorem checkPack_value {bs : List Byte} (h : BreaksValue .pack bs) : checkPack bs = .error .value := by
  simp (disch := decide) only [BreaksValue, fieldAt_one, fieldAt_two, clamped_eq] at h
  unfold checkPack
  dsimp only
  by_cases hcount : u8 bs 0 = 1 ∨ 6 < u8 bs 0
  · rw [if_pos hcount]
  · rw [if_neg hcount, if_neg (by omega)]

theorem checkPack_ok {bs : List Byte} (h : ¬BreaksValue .pack bs) :
    ∃ v, checkPack bs = .ok v ∧ SensingHolds bs v ∧ ProtectionHolds bs v := by
  simp (disch := decide) only [BreaksValue, fieldAt_one, fieldAt_two, clamped_eq] at h
  refine ⟨_, (if_neg (by omega)).trans (if_pos (by dsimp only; omega)), ?_⟩
  simp (disch := decide) only [SensingHolds, ProtectionHolds, fieldAt_one, fieldAt_two, clamped_eq, shuntHolds_read,
    vector_get_ofFn, implies_true, and_self]

theorem roleOfCode_isSome_iff (n : Nat) : (roleOfCode n).isSome = true ↔ n ≤ 9 := by
  constructor
  · intro h
    by_contra hn
    obtain ⟨m, rfl⟩ : ∃ m, n = m + 10 := ⟨n - 10, by omega⟩
    cases h
  · intro h
    interval_cases n <;> rfl

theorem roleIs_of_code {n : Nat} {r : Role} (h : roleOfCode n = some r) : RoleIs n r := by
  unfold roleOfCode at h
  split at h <;> cases h <;> rfl

theorem all_range_iff {n : Nat} {p : Nat → Bool} : (List.range n).all p = true ↔ ∀ i : Fin n, p i.val = true := by
  rw [List.all_eq_true]
  exact ⟨fun h i => h i.val (List.mem_range.mpr i.isLt), fun h i hi => h ⟨i, List.mem_range.mp hi⟩⟩

theorem checkLamps_value {bs : List Byte} (h : BreaksValue .lamps bs) : checkLamps bs = .error .value := by
  refine if_neg fun hok => ?_
  obtain ⟨c, hc⟩ := h
  have hrole := (roleOfCode_isSome_iff _).mp (all_range_iff.mp hok c)
  rw [fieldAt_one] at hc
  omega

theorem checkLamps_ok {bs : List Byte} (h : ¬BreaksValue .lamps bs) : ∃ v, checkLamps bs = .ok v ∧ LampsHold bs v := by
  have hroles (c : Fin 8) : (roleOfCode (u8 bs (3 * c.val))).isSome = true := by
    refine (roleOfCode_isSome_iff _).mpr (Nat.le_of_not_lt fun hc => h ⟨c, ?_⟩)
    rw [fieldAt_one]
    exact hc
  refine ⟨_, if_pos (all_range_iff.mpr hroles), fun c => ?_, ?_⟩
  · rw [vector_get_ofFn, fieldAt_one, fieldAt_two, clamped_eq (by decide)]
    obtain ⟨r, hr⟩ := Option.isSome_iff_exists.mp (hroles c)
    refine ⟨?_, rfl⟩
    rw [hr]
    exact roleIs_of_code hr
  · simp (disch := decide) only [fieldAt_two, clamped_eq, and_self]

theorem fnNumber_of_fnOfNumber {n : Nat} {f : Fn} (h : fnOfNumber n = some f) : n = fnNumber f := by
  unfold fnOfNumber at h
  split at h <;> cases h <;> rfl

theorem targetIs_of_code {n : Nat} {t : Target} (h : targetOfCode n = some t) : TargetIs n t := by
  unfold targetOfCode at h
  split at h
  case h_1 f hf =>
    cases h
    exact fnNumber_of_fnOfNumber hf
  case h_2 =>
    split at h
    case isTrue hn => cases h; exact hn
    split at h
    case isTrue hn => cases h; exact hn
    split at h
    case isTrue hn => cases h; exact hn
    split at h
    case isTrue hn => cases h; exact hn
    split at h
    case isTrue hn => cases h; exact hn
    split at h
    case isTrue hn => cases h; exact hn
    cases h

theorem targetCode_iff (n : Nat) : TargetCode n ↔ (targetOfCode n).isSome = true := by
  constructor
  · intro h
    obtain hfn | ⟨hlo, hhi⟩ | rfl := h
    · interval_cases n <;> rfl
    · interval_cases n <;> rfl
    · rfl
  · intro h
    obtain ⟨t, ht⟩ := Option.isSome_iff_exists.mp h
    have hn := targetIs_of_code ht
    unfold TargetCode
    cases t with
    | fn f => cases f <;> cases hn <;> decide
    | flag i =>
      have hi := i.isLt
      have hn : n = 8 + i.val := hn
      omega
    | bar => cases hn; decide
    | none => cases hn; decide

theorem mapEntryOk_false_iff (bs : List Byte) (i : Nat) : mapEntryOk (bs.drop i) = false
    ↔ 63 < fieldAt bs i 1 ∨ 63 < fieldAt bs (i + 1) 1 ∨ ¬TargetCode (fieldAt bs (i + 2) 1) ∨ 1 < fieldAt bs (i + 3) 1 := by
  rw [← Bool.not_eq_true, mapEntryOk_iff, targetCode_iff]
  simp only [fieldAt_one, u8_drop, Nat.add_zero]
  by_cases htarget : (targetOfCode (u8 bs (i + 2))).isSome = true
  · simp only [htarget, true_and, not_true, false_or]
    omega
  · simp [htarget]

theorem checkMap_value {bs : List Byte} (h : BreaksValue .map bs) : checkMap bs = .error .value := by
  obtain ⟨e, he⟩ := h
  refine if_neg fun hok => ?_
  have := (mapEntryOk_false_iff bs (9 * e.val)).mpr he
  rw [all_range_iff.mp hok e] at this
  cases this

theorem mapEntryHolds_read {bs : List Byte} {i : Nat} (h : mapEntryOk (bs.drop i) = true) :
    MapEntryHolds bs i (readMapEntry (bs.drop i)) := by
  obtain ⟨-, -, htarget, -⟩ := (mapEntryOk_iff _).mp h
  obtain ⟨t, ht⟩ := Option.isSome_iff_exists.mp htarget
  have hread : (readMapEntry (bs.drop i)).target = t := by rw [readMapEntry, ht]; rfl
  refine ⟨?_, ?_, ?_, ?_, ?_, ?_, ?_⟩
  case refine_3 =>
    rw [hread, fieldAt_one, ← u8_drop]
    exact targetIs_of_code ht
  all_goals
    simp (disch := decide) only [readMapEntry, fieldAt_one, fieldAt_two, clamped_eq, u8_drop, u16_drop, beq_one_iff, Nat.add_zero]

theorem checkMap_ok {bs : List Byte} (h : ¬BreaksValue .map bs) :
    ∃ v, checkMap bs = .ok v ∧ ∀ e : Fin 12, MapEntryHolds bs (9 * e.val) (v.get e) := by
  have hok (e : Fin 12) : mapEntryOk (bs.drop (9 * e.val)) = true := by
    rw [← Bool.not_eq_false, mapEntryOk_false_iff]
    exact fun he => h ⟨e, he⟩
  refine ⟨_, if_pos (all_range_iff.mpr hok), fun e => ?_⟩
  rw [vector_get_ofFn]
  exact mapEntryHolds_read (hok e)

theorem sourceIs_of_code {n : Nat} {m : Option Master} (h : sourceFieldOfCode n = some m) : SourceIs n m := by
  unfold sourceFieldOfCode at h
  split at h
  case isTrue hn => cases h; exact hn
  split at h
  case isTrue hn => cases h; exact hn
  split at h
  case isTrue hn => cases h; exact hn
  cases h

theorem sourceFieldOfCode_isSome_iff (n : Nat) : (sourceFieldOfCode n).isSome = true ↔ n = 0 ∨ n = 1 ∨ n = 255 := by
  unfold sourceFieldOfCode
  split
  · simp [*]
  · split
    · simp [*]
    · split
      · simp [*]
      · simp [*]

theorem not_trimmable_iff (f : Fn) : trimmable f = false ↔ f = .steermode ∨ f = .drag ∨ f = .range ∨ f = .scene := by
  cases f <;> decide

/-- One entry's map conditions (R38), in the words of the claims. -/
theorem authEntryMapOk_false_iff (f : Fn) (bs : List Byte) (i : Nat) : authEntryMapOk f (bs.drop i) = false
    ↔ 1 < fieldAt bs i 1
      ∨ (fieldAt bs (i + 1) 1 ≠ 0 ∧ fieldAt bs (i + 1) 1 ≠ 1 ∧ fieldAt bs (i + 1) 1 ≠ 255)
      ∨ fieldAt bs (i + 1) 1 = fieldAt bs i 1
      ∨ (fieldAt bs (i + 2) 1 ≠ 0 ∧ fieldAt bs (i + 2) 1 ≠ 1 ∧ fieldAt bs (i + 2) 1 ≠ 255)
      ∨ fieldAt bs (i + 2) 1 = fieldAt bs i 1
      ∨ (f = .steermode ∨ f = .drag ∨ f = .range ∨ f = .scene) ∧ fieldAt bs (i + 2) 1 ≠ 255
      ∨ fieldAt bs i 1 = 1 ∧ fieldAt bs (i + 5) 1 = 1 := by
  rw [← not_trimmable_iff]
  simp only [authEntryMapOk, fieldAt_one, u8_drop, Nat.add_zero, Bool.and_eq_false_iff, Bool.or_eq_false_iff,
    Bool.not_eq_false', Bool.and_eq_true, beq_iff_eq, beq_eq_false_iff_ne, bne_eq_false_iff_eq, decide_eq_false_iff_not,
    ← Bool.not_eq_true (sourceFieldOfCode _).isSome, sourceFieldOfCode_isSome_iff]
  simp only [or_assoc, not_or, Nat.not_lt]
  exact Iff.rfl

theorem authEntryBytesOk_false_iff (bs : List Byte) (i : Nat) : authEntryBytesOk (bs.drop i) = false
    ↔ 1 < fieldAt bs (i + 5) 1 ∨ 1 < fieldAt bs (i + 6) 1 ∨ 1 < fieldAt bs (i + 11) 1 := by
  simp only [authEntryBytesOk, fieldAt_one, u8_drop, Bool.and_eq_false_iff, decide_eq_false_iff_not, Nat.not_lt, or_assoc]
  exact Iff.rfl

theorem checkAuthority_badMap {bs : List Byte} (h : BreaksMap .authority bs) : checkAuthority bs = .error .badMap := by
  obtain ⟨-, f, hf⟩ := h
  refine if_pos ?_
  rw [Bool.not_eq_true', List.all_eq_false]
  exact ⟨f, Fn.mem_all f, by rw [(authEntryMapOk_false_iff f bs _).mpr hf]; decide⟩

theorem all_entries {bs : List Byte} (h : ¬BreaksMap .authority bs) :
    (Fn.all.all fun f => authEntryMapOk f (bs.drop (14 * fnNumber f))) = true := by
  rw [List.all_eq_true]
  intro f _
  rw [← Bool.not_eq_false, authEntryMapOk_false_iff]
  exact fun hf => h ⟨rfl, f, hf⟩

theorem checkAuthority_value {bs : List Byte} (hmap : ¬BreaksMap .authority bs) (h : BreaksValue .authority bs) :
    checkAuthority bs = .error .value := by
  obtain ⟨f, hf⟩ := h
  have hall : (Fn.all.all fun f => authEntryBytesOk (bs.drop (14 * fnNumber f))) = false := by
    rw [List.all_eq_false]
    exact ⟨f, Fn.mem_all f, by rw [(authEntryBytesOk_false_iff bs _).mpr hf]; decide⟩
  rw [checkAuthority, all_entries hmap, hall]
  rfl

theorem authEntryHolds_read {f : Fn} {bs : List Byte} {i : Nat} (hmap : authEntryMapOk f (bs.drop i) = true) :
    AuthEntryHolds f bs i (readAuthEntry f (bs.drop i)) := by
  have hsound : ¬(authEntryMapOk f (bs.drop i) = false) := by rw [hmap]; decide
  rw [authEntryMapOk_false_iff] at hsound
  simp only [fieldAt_one, not_or] at hsound
  obtain ⟨hprimary, hsecondary, -, htrim, -⟩ := hsound
  obtain ⟨s, hs⟩ := Option.isSome_iff_exists.mp ((sourceFieldOfCode_isSome_iff (u8 bs (i + 1))).mpr (by omega))
  obtain ⟨t, ht⟩ := Option.isSome_iff_exists.mp ((sourceFieldOfCode_isSome_iff (u8 bs (i + 2))).mpr (by omega))
  have hnumeric : isNumeric f = true ↔ f = .drive ∨ f = .steer ∨ f = .winch ∨ f = .drag := by cases f <;> decide
  unfold AuthEntryHolds readAuthEntry
  simp (disch := decide) only [fieldAt_one, fieldAt_two, clamped_eq, u8_drop, u16_drop, beq_one_iff, Nat.add_zero, hnumeric,
    hs, ht, Option.getD_some, and_true]
  refine ⟨?_, sourceIs_of_code hs, sourceIs_of_code ht⟩
  split
  case isTrue hone => exact hone
  case isFalse hone =>
    show u8 bs i = 0
    omega

theorem checkAuthority_ok {bs : List Byte} (hmap : ¬BreaksMap .authority bs) (h : ¬BreaksValue .authority bs) :
    ∃ v, checkAuthority bs = .ok v ∧ ∀ f, AuthEntryHolds f bs (14 * fnNumber f) (v.get f) := by
  have hentry (f : Fn) : authEntryMapOk f (bs.drop (14 * fnNumber f)) = true :=
    List.all_eq_true.mp (all_entries hmap) f (Fn.mem_all f)
  have hbytes (f : Fn) : authEntryBytesOk (bs.drop (14 * fnNumber f)) = true := by
    rw [← Bool.not_eq_false, authEntryBytesOk_false_iff]
    exact fun hf => h ⟨f, hf⟩
  refine ⟨_, checkAuthority_eq_ok.mpr ⟨hentry, hbytes, rfl⟩, fun f => ?_⟩
  rw [PerFn.get_of]
  exact authEntryHolds_read (hentry f)

/-! ### FAILSAFE -/

/-- A discrete content within its enumeration, or HOLD (R30). -/
theorem contentOk_discrete {f : Fn} (hf : isNumeric f = false) (bs : List Byte) :
    contentOk f bs = true ↔ (fieldAt bs (contentAt f) 1 : Int) ≤ fnHigh f ∨ fieldAt bs (contentAt f) 1 = 255 := by
  rw [contentOk, hf, fieldAt_one, Bool.false_or, Bool.or_eq_true, beq_iff_eq, decide_eq_true_iff, or_comm]

theorem contentOk_numeric {f : Fn} (hf : isNumeric f = true) (bs : List Byte) : contentOk f bs = true := by
  rw [contentOk, hf, Bool.true_or, Bool.true_or]

theorem contentOk_iff (bs : List Byte) : (∀ f, contentOk f bs = true) ↔ ¬BreaksValue .failsafe bs := by
  have hmode := contentOk_discrete (f := .steermode) rfl bs
  have hrange := contentOk_discrete (f := .range) rfl bs
  have hscene := contentOk_discrete (f := .scene) rfl bs
  simp only [contentAt, fnHigh] at hmode hrange hscene
  have hbreaks : ¬BreaksValue .failsafe bs
      ↔ contentOk .steermode bs = true ∧ contentOk .range bs = true ∧ contentOk .scene bs = true := by
    rw [hmode, hrange, hscene]
    show ¬(_ ∨ _ ∨ _) ↔ _
    omega
  rw [hbreaks]
  constructor
  · exact fun h => ⟨h .steermode, h .range, h .scene⟩
  · rintro ⟨h4, h9, h10⟩ f
    cases f with
    | steermode => exact h4
    | range => exact h9
    | scene => exact h10
    | _ => exact contentOk_numeric rfl bs

theorem checkFailsafe_value {bs : List Byte} (h : BreaksValue .failsafe bs) : checkFailsafe bs = .error .value := by
  refine if_neg fun hok => ?_
  exact (contentOk_iff bs).mp (fun f => List.all_eq_true.mp hok f (Fn.mem_all f)) h

theorem signedAt_eq (bs : List Byte) (i : Nat) : signedAt bs i = i16 bs i := by
  rw [signedAt, i16, fieldAt_two]

theorem readContent_numeric_eq {f : Fn} (hf : isNumeric f = true) (bs : List Byte) :
    readContent f bs = numericContent (fnLow f) (signedAt bs (contentAt f)) := by
  have hlow : fnLow f ≤ 1000 := by cases f <;> decide
  have hhigh : fnHigh f = 1000 := by cases f <;> cases hf <;> rfl
  rw [readContent, if_pos hf, signedAt_eq, numericContent]
  dsimp only
  split
  case isTrue => rfl
  case isFalse =>
    rw [hhigh, clampI]
    congr 1
    split
    · omega
    · split
      · omega
      · omega

theorem readContent_discrete_eq {f : Fn} (hf : isNumeric f = false) (bs : List Byte) :
    readContent f bs = discreteContent (fieldAt bs (contentAt f) 1) := by
  rw [readContent, hf, fieldAt_one]
  rfl

theorem checkFailsafe_ok {bs : List Byte} (h : ¬BreaksValue .failsafe bs) :
    ∃ v, checkFailsafe bs = .ok v ∧ FailsafeHolds bs v := by
  refine ⟨_, if_pos (List.all_eq_true.mpr fun f _ => (contentOk_iff bs).mpr h f), ?_⟩
  exact ⟨readContent_numeric_eq (f := .drive) rfl bs, readContent_numeric_eq (f := .steer) rfl bs,
    readContent_discrete_eq (f := .steermode) rfl bs, readContent_numeric_eq (f := .winch) rfl bs,
    readContent_numeric_eq (f := .drag) rfl bs, readContent_discrete_eq (f := .range) rfl bs,
    readContent_discrete_eq (f := .scene) rfl bs⟩

/-! ### Any section -/

theorem sceneHolds_read (bs : List Byte) : SceneHolds bs (readScene (bs.drop 1)) := by
  refine ⟨fun c => ?_, ?_⟩
  · rw [readScene, vector_get_ofFn, u16_drop, fieldAt_two, clamped_eq (by decide)]
  · rw [readScene, u8_drop, fieldAt_one, BitVec.toNat_ofNat]
    exact Nat.mod_eq_of_lt (u8_lt bs 17)

theorem vector_get_set_same {α : Type} {n : Nat} (v : Vector α n) {i j : Fin n} (h : i = j) (x : α) :
    (v.set i x).get j = x := by
  subst h
  simp [Vector.get_eq_getElem]

theorem vector_get_set_ne {α : Type} {n : Nat} (v : Vector α n) {i j : Fin n} (h : i ≠ j) (x : α) :
    (v.set i x).get j = v.get j := by
  simp only [Vector.get_eq_getElem]
  exact Vector.getElem_set_ne _ _ fun hval => h (Fin.ext hval)

theorem breaksMap_iff (k : Sect) (bs : List Byte) : BreaksMap k bs ↔ k = .authority ∧ BreaksMap .authority bs :=
  ⟨fun h => ⟨h.1, rfl, h.2⟩, fun h => ⟨h.1, h.2.2⟩⟩

/-- A broken map condition answers BADMAP (R38). -/
theorem checkBody_badMap {k : Sect} {bs : List Byte} (h : BreaksMap k bs) : checkBody k bs = .error .badMap := by
  obtain ⟨rfl, hmap⟩ := (breaksMap_iff k bs).mp h
  rw [checkBody, checkAuthority_badMap hmap]
  rfl

/-- A broken structural check answers VALUE. -/
theorem checkBody_value {k : Sect} {bs : List Byte} (hmap : ¬BreaksMap k bs) (h : BreaksValue k bs) :
    checkBody k bs = .error .value := by
  cases k with
  | sources => rw [checkBody, checkSources_value h]; rfl
  | map => rw [checkBody, checkMap_value h]; rfl
  | authority => rw [checkBody, checkAuthority_value hmap h]; rfl
  | failsafe => rw [checkBody, checkFailsafe_value h]; rfl
  | geometry => rw [checkBody, checkGeometry_value h]; rfl
  | drive => rw [checkBody, checkDrive_value h]; rfl
  | winch => rw [checkBody, checkWinch_value h]; rfl
  | pack => rw [checkBody, checkPack_value h]; rfl
  | lamps => rw [checkBody, checkLamps_value h]; rfl
  | scenes => exact absurd h id
  | reply => rw [checkBody, checkReply_value h]; rfl

/-- A body that breaks no check is read as its section's clamped contents. -/
theorem checkBody_ok {k : Sect} {bs : List Byte} (hmap : ¬BreaksMap k bs) (h : ¬BreaksValue k bs)
    (hscene : k = .scenes → fieldAt bs 0 1 ≤ 15) :
    ∃ d, checkBody k bs = .ok d ∧ ∀ p : Profile, Replaced k bs p (p.write d) := by
  cases k with
  | sources =>
    obtain ⟨v, hv, hholds⟩ := checkSources_ok h
    exact ⟨.sources v, by rw [checkBody, hv]; rfl, fun p => ⟨rfl, hholds⟩⟩
  | map =>
    obtain ⟨v, hv, hholds⟩ := checkMap_ok h
    exact ⟨.map v, by rw [checkBody, hv]; rfl, fun p => ⟨rfl, hholds⟩⟩
  | authority =>
    obtain ⟨v, hv, hholds⟩ := checkAuthority_ok hmap h
    exact ⟨.authority v, by rw [checkBody, hv]; rfl, fun p => ⟨rfl, hholds⟩⟩
  | failsafe =>
    obtain ⟨v, hv, hholds⟩ := checkFailsafe_ok h
    exact ⟨.failsafe v, by rw [checkBody, hv]; rfl, fun p => ⟨rfl, hholds⟩⟩
  | geometry =>
    obtain ⟨v, hv, hholds⟩ := checkGeometry_ok h
    exact ⟨.geometry v, by rw [checkBody, hv]; rfl, fun p => ⟨rfl, hholds⟩⟩
  | drive =>
    obtain ⟨v, hv, hholds⟩ := checkDrive_ok h
    exact ⟨.drive v, by rw [checkBody, hv]; rfl, fun p => ⟨rfl, hholds⟩⟩
  | winch =>
    obtain ⟨v, hv, hholds⟩ := checkWinch_ok h
    exact ⟨.winch v, by rw [checkBody, hv]; rfl, fun p => ⟨rfl, hholds⟩⟩
  | pack =>
    obtain ⟨v, hv, hholds⟩ := checkPack_ok h
    exact ⟨.pack v, by rw [checkBody, hv]; rfl, fun p => ⟨rfl, hholds⟩⟩
  | lamps =>
    obtain ⟨v, hv, hholds⟩ := checkLamps_ok h
    exact ⟨.lamps v, by rw [checkBody, hv]; rfl, fun p => ⟨rfl, hholds⟩⟩
  | scenes =>
    have hnumber : (Fin.ofNat 16 (u8 bs 0)).val = fieldAt bs 0 1 := by
      have := hscene rfl
      rw [fieldAt_one] at this ⊢
      exact Nat.mod_eq_of_lt (by omega)
    refine ⟨_, rfl, fun p => ⟨rfl, fun n => ⟨fun hn => ?_, fun hn => ?_⟩⟩⟩
    · have hsame : Fin.ofNat 16 (u8 bs 0) = n := Fin.ext (hnumber.trans hn.symm)
      show SceneHolds bs ((p.scenes.set (Fin.ofNat 16 (u8 bs 0)) _).get n)
      rw [vector_get_set_same p.scenes hsame]
      exact sceneHolds_read bs
    · exact vector_get_set_ne p.scenes (fun h => hn ((congrArg Fin.val h).symm.trans hnumber)) _
  | reply =>
    obtain ⟨v, hv, hholds⟩ := checkReply_ok h
    exact ⟨.reply v, by rw [checkBody, hv]; rfl, fun p => ⟨rfl, hholds⟩⟩

/-! ### What a write leaves to later events -/

theorem handOn_gate (f : Fn) (s : State) : (handOn f s).steering.gate = s.steering.gate := by
  cases f with
  | steermode =>
    obtain ⟨st, m, hmoved⟩ := modeHanded_steering s
    exact (congrArg Steering.gate hmoved :)
  | drive =>
    exact congrArg Steering.gate
      ((lampResolve_frame (driveHanded s) .steering (by decide)).trans (driveHanded_frame s .steering (by decide)))
  | steer =>
    have hframe : (steerHanded s).steering = { s.steering with heldSteer := effective s .steer } :=
      lampResolve_frame _ .steering (by decide)
    exact (congrArg Steering.gate hframe :)
  | winch => exact congrArg Steering.gate (winchHanded_frame s .steering (by decide))
  | drag =>
    exact congrArg Steering.gate
      ((lampResolve_frame (dragHanded s) .steering (by decide)).trans (dragHanded_frame s .steering (by decide)))
  | range => exact congrArg Steering.gate (rangeHanded_frame s .steering (by decide))
  | scene => exact congrArg Steering.gate (sceneHanded_frame s .steering (by decide))

/-- The speed gate in force is `n`. -/
def GateIs (n : Nat) (s : State) : Prop := s.steering.gate = n

theorem reads_gateIs (n : Nat) : Reads [.steering] (GateIs n) := fun _ _ hsame hs =>
  (congrArg Steering.gate (hsame .steering (by decide))).trans hs

theorem GateIs.commitEff {n : Nat} {s : State} (hs : GateIs n s) (f : Fn) (e : Eff) : GateIs n (commitEff f e s) := by
  unfold Machine.commitEff
  refine (reads_gateIs n).keep (handUnderlying_frame _ _) (by decide) ?_
  split
  · exact hs
  · exact (handOn_gate f _).trans hs

theorem packKept_gateIs (n : Nat) : PackKept (GateIs n) := by
  have hreads := reads_gateIs n
  have hresolver : ResolverKept (GateIs n) := {
    beside := fun h => hreads.keep h (by decide)
    slot := fun m f x _ => hreads.keep (setSlot_frame _ m f x) (by decide)
    grant := fun f g => hreads.keep (setGrant_frame _ f g) (by decide)
    resolve := by
      intro s f byMark hs
      cases hbusy : consumerBusy s f with
      | true => rw [resolve_of_busy hbusy]; exact hs
      | false =>
        rw [resolve_of_free hbusy]
        exact GateIs.commitEff (hreads.keep (takeSlots_frame f s) (by decide) hs) f _
    blendStep := by
      intro s f hs
      unfold blendStep
      split
      · exact hs
      · exact GateIs.commitEff (hreads.keep (takeSlots_frame f _) (by decide) (hreads.keep (setEff_frame s f _) (by decide) hs)) f _ }
  exact hresolver.packKept hreads (by decide) fun _ hs => hs

/-- A write leaves the speed gate in force (R75, log entry 49). -/
theorem gate_sectionActs (old : Profile) (d : SectionData) (s : State) :
    (sectionActs old d s).steering.gate = s.steering.gate := by
  have hP := packKept_gateIs s.steering.gate
  have hreads := reads_gateIs s.steering.gate
  have hs : GateIs s.steering.gate s := rfl
  show GateIs s.steering.gate (sectionActs old d s)
  cases d with
  | sources v => exact hP.sourcesActs _ hs
  | map v => exact hs
  | authority v => exact hP.authorityActs hs
  | failsafe v => exact hP.failsafeActs _ hs
  | geometry v => exact hreads.keep (geometryActs_frame_only _) (by decide) hs
  | drive v => exact driveActs_keeps (P := GateIs _) (fun _ => hP.recoveryDriveTest) hreads (by decide) _ hs
  | winch v => exact hreads.keep (winchActsOn_frame _ _) (by decide) hs
  | pack v => exact hP.packActs (fun v => hreads.keep (setSense_frame_only _ v) (by decide)) _ hs
  | lamps v => exact hreads.keep (lampResolve_frame _) (by decide) hs
  | scene i v => exact hreads.keep (sceneActs_frame i _) (by decide) hs
  | reply v => exact hs

theorem sameMeasures_leaveCutoff (s : State) : SameMeasures s.protection (leaveCutoff s).protection := by
  have hemptied : SameMeasures s.protection (emptyLockout (cutoffCleared s)).protection :=
    (resolverKept_sameMeasures s.protection).emptyLockout (fun _ h => h) ⟨rfl, rfl, rfl, rfl, rfl⟩
  rw [leaveCutoff_eq, raised_ends_protection]
  exact hemptied.trans (sameMeasures_retarget _)

theorem sameMeasures_dwellsByTime (s : State) : SameMeasures s.protection (dwellsByTime s).protection := by
  have hdwell : SameMeasures s.protection (dwellExpires s).protection := by
    unfold dwellExpires
    split
    · exact sameMeasures_enterCutoff _ s
    · exact .refl _
  have hrecovery : SameMeasures s.protection (recoveryExpires s).protection := by
    unfold recoveryExpires
    split
    · exact sameMeasures_leaveCutoff s
    · exact .refl _
  unfold dwellsByTime
  split
  · split
    · exact hdwell
    · exact .refl _
  · split
    · exact hrecovery
    · exact .refl _
  · exact .refl _

theorem sameMeasures_packActs (old : Pack) (s : State) : SameMeasures s.protection (packActs old s).protection := by
  have hrest (u : State) : SameMeasures u.protection (dwellsByTime (retarget (cutoffDragHanded old u))).protection :=
    (((resolverKept_sameMeasures u.protection).cutoffDragHanded old (.refl _)).trans (sameMeasures_retarget _)).trans
      (sameMeasures_dwellsByTime _)
  unfold packActs
  dsimp only
  split
  · exact hrest (s.setSense (packSense old s.profile.pack s.sense))
  · exact (sameMeasures_recoveryCellTest (s.setSense (packSense old s.profile.pack s.sense))).trans
      (hrest (recoveryCellTest (s.setSense (packSense old s.profile.pack s.sense))))

/-- A write leaves what was measured, and with it the thresholds in force (R145, log entry 49). -/
theorem sameMeasures_sectionActs (old : Profile) (d : SectionData) (s : State) :
    SameMeasures s.protection (sectionActs old d s).protection := by
  have hP := resolverKept_sameMeasures s.protection
  have hsame {u : State} {l : List Block} (h : SameExcept l s u) (hl : Block.protection ∉ l) :
      SameMeasures s.protection u.protection := .of_eq (h .protection hl)
  cases d with
  | sources v => exact hP.sourcesActs _ (.refl _)
  | map v => exact .refl _
  | authority v => exact hP.authorityActs (.refl _)
  | failsafe v => exact hP.failsafeActs _ (.refl _)
  | geometry v => exact hsame (geometryActs_frame_only _) (by decide)
  | drive v =>
    exact (sameMeasures_recoveryDriveTest s).trans (.of_eq (driveActs_frame_from_test _ s .protection (by decide)))
  | winch v => exact hsame (winchActsOn_frame _ _) (by decide)
  | pack v => exact sameMeasures_packActs _ _
  | lamps v => exact hsame (lampResolve_frame _) (by decide)
  | scene i v => exact hsame (sceneActs_frame i _) (by decide)
  | reply v => exact .refl _

theorem packActs_sense (old : Pack) (s : State) : (packActs old s).sense = packSense old s.profile.pack s.sense :=
  cutoffDragHanded_packActs_frame old s .sense (by decide)

/-- A write leaves the settings of a sweep in flight (R128, log entry 49). -/
theorem sweeps_sectionActs (old : Profile) (d : SectionData) (s : State) :
    (sectionActs old d s).sense.currentSweep = s.sense.currentSweep
      ∧ (sectionActs old d s).sense.tapSweep = s.sense.tapSweep := by
  by_cases h : ∃ v, d = .pack v
  · obtain ⟨v, rfl⟩ := h
    have hsense := packActs_sense old.pack s
    exact ⟨(congrArg Sense.currentSweep hsense :), (congrArg Sense.tapSweep hsense :)⟩
  · have hsense := sectionActs_frame_of_ne_pack old (fun v hv => h ⟨v, hv⟩) s .sense (by decide)
    exact ⟨congrArg Sense.currentSweep hsense, congrArg Sense.tapSweep hsense⟩

/-! ### The write and its store -/

/-- The live section replaced and its blocks acting, before the store begins (R172). -/
def writeActed (d : SectionData) (s : State) : State := sectionActs s.profile d (writeLive d s)

theorem acceptWrite_eq (k : Sect) (d : SectionData) (s : State) : acceptWrite k d s =
    ((writeActed d s).setStore { (writeActed d s).store with storing := some k }).setCompPort
      { (writeActed d s).compPort with request := some .profileWrite } := rfl

theorem writeActed_frame (d : SectionData) (s : State) : SameExcept (.profile :: actTouches) s (writeActed d s) :=
  ((setProfile_frame_only s _).mono (by decide)).trans ((sectionActs_frame_acts _ _ _).mono (by decide))

theorem writeActed_profile (d : SectionData) (s : State) : (writeActed d s).profile = s.profile.write d :=
  sectionActs_frame_acts _ _ (writeLive d s) .profile (by decide)

theorem acceptWrite_frame_acted (k : Sect) (d : SectionData) (s : State) :
    SameExcept [.store, .compPort] (writeActed d s) (acceptWrite k d s) :=
  ((setStore_frame_only _ _).mono (by decide)).trans ((setCompPort_frame_only _ _).mono (by decide))

theorem writeTarget_of_sect {sect : Byte} {body : List Byte} {k : Sect} (hk : sectOfNumber sect.toNat = some k) :
    writeTarget sect body = if k = .scenes ∧ 15 < fieldAt body 0 1 then none else some k := by
  rw [writeTarget, hk, fieldAt_one]

/-- The checks of a write, in order (R172). -/
theorem checkWrite_of_target {s : State} {sect : Byte} {body : List Byte} {k : Sect} (h : writeTarget sect body = some k) :
    checkWrite s sect body = if !sectReach s k then .error .reach
      else if !parked s then .error .notParked
      else (checkBody k body).map fun d => (k, d) := by
  rw [checkWrite, h]

theorem sectReach_iff (s : State) (k : Sect) : sectReach s k = true
    ↔ s.profile.sources.compSections.getLsbD (sectNumber k).val = true
      ∧ ¬(s.radio.state = .live ∧ s.profile.sources.radioSections.getLsbD (sectNumber k).val = true) := by
  rw [sectReach, Bool.and_eq_true, Bool.not_eq_true', ← Bool.not_eq_true, Bool.and_eq_true, present_radio_iff]

theorem writeProfile_of_error {s : State} {sect : Byte} {body : List Byte} {c : Cause} (h : checkWrite s sect body = .error c) :
    writeProfile sect body s = refuse c .profileWrite s := by
  rw [writeProfile, h]

theorem writeProfile_of_ok {s : State} {sect : Byte} {body : List Byte} {k : Sect} {d : SectionData}
    (h : checkWrite s sect body = .ok (k, d)) : writeProfile sect body s = acceptWrite k d s := by
  rw [writeProfile, h]

/-- A PROFILE_WRITE refused by its checks. -/
theorem refuses_write {s : State} (hready : RequestReady s) {sect : Byte} {body : List Byte}
    (hfits : bodyFits sect.toNat body.length = true) {c : Cause} (h : checkWrite (heard s) sect body = .error c) :
    Refuses (.profileWrite sect body) c 0x09 s :=
  refuses_of_ready hready (q := .profileWrite sect body) hfits (writeProfile_of_error h)

/-- A PROFILE_WRITE that passes its checks. -/
theorem exec_write_of_ok {s : State} (hready : RequestReady s) {sect : Byte} {body : List Byte}
    (hfits : bodyFits sect.toNat body.length = true) {k : Sect} {d : SectionData}
    (h : checkWrite (heard s) sect body = .ok (k, d)) : exec (.profileWrite sect body) s = .next (acceptWrite k d (heard s)) :=
  (exec_of_ready hready (q := .profileWrite sect body) hfits).trans (congrArg Host.Outcome.next (writeProfile_of_ok h))

/-- Settles O58. -/
theorem profileWriteIsCheckedAndStored : Obligations.ProfileWriteIsCheckedAndStored := by
  refine ⟨fun s sect body hready hfits => ⟨fun hpast => ?noSection, fun k hk => ?inSection⟩,
    fun s matched => ⟨fun k hstoring => ?store, fun hnone => ?rest⟩⟩
  case noSection =>
    have htarget : writeTarget sect body = none := by rw [writeTarget, sectOfNumber_past hpast]
    exact refuses_write hready hfits (by rw [checkWrite, htarget])
  case inSection =>
    intro reached
    have htarget := writeTarget_of_sect (body := body) hk
    refine ⟨fun hscene => ?_, fun hscene => ?_⟩
    · rw [if_pos hscene] at htarget
      exact refuses_write hready hfits (by rw [checkWrite, htarget])
    rw [if_neg hscene] at htarget
    have hcheck := checkWrite_of_target (s := heard s) htarget
    have hreach : sectReach (heard s) k = true ↔ reached := sectReach_iff s k
    have hparkedHeard : parked (heard s) = parked s := rfl
    have hbody (hreached : reached) (hparked : parked s = true) :
        checkWrite (heard s) sect body = (checkBody k body).map fun d => (k, d) := by
      rw [hcheck, hreach.mpr hreached, hparkedHeard, hparked]
      rfl
    refine ⟨fun hno => ?reach, fun hreached hmoves => ?parked, fun hreached hparked hmap => ?badMap,
      fun hreached hparked hmap hvalue => ?value, fun hreached hparked hmap hvalue => ?passes⟩
    case reach =>
      refine refuses_write hready hfits ?_
      rw [hcheck, Bool.eq_false_iff.mpr (mt hreach.mp hno)]
      rfl
    case parked =>
      refine refuses_write hready hfits ?_
      rw [hcheck, hreach.mpr hreached, hparkedHeard, hmoves]
      rfl
    case badMap =>
      exact refuses_write hready hfits (by rw [hbody hreached hparked, checkBody_badMap hmap]; rfl)
    case value =>
      exact refuses_write hready hfits (by rw [hbody hreached hparked, checkBody_value hmap hvalue]; rfl)
    case passes =>
      obtain ⟨d, hd, hreplaced⟩ := checkBody_ok hmap hvalue fun hk => Nat.le_of_not_lt fun hn => hscene ⟨hk, hn⟩
      have hok : checkWrite (heard s) sect body = .ok (k, d) := by rw [hbody hreached hparked, hd]; rfl
      have hacted := writeActed_frame d (heard s)
      have haccepted := acceptWrite_frame_acted k d (heard s)
      have hcomp : (acceptWrite k d (heard s)).comp = (heard s).comp :=
        (haccepted .comp (by decide)).trans (hacted .comp (by decide))
      have hstore : (writeActed d (heard s)).store = s.store := hacted .store (by decide)
      have hport : (writeActed d (heard s)).compPort = s.compPort := hacted .compPort (by decide)
      have hsweeps := sweeps_sectionActs s.profile d (writeLive d (heard s))
      refine ⟨_, exec_write_of_ok hready hfits hok, ?_, ?_, rfl, ?_, ?_, ?_, ?_, hsweeps.1, hsweeps.2, ?_, ?_⟩
      · have hprofile : (acceptWrite k d (heard s)).profile = s.profile.write d := writeActed_profile d (heard s)
        rw [hprofile]
        exact hreplaced s.profile
      · exact congrArg (fun v : Store => { v with storing := some k }) hstore
      · exact (congrArg CompPort.answer hport).trans hready.answer
      · exact (congrArg CompCtx.accepted hcomp).trans rfl
      · exact (congrArg CompCtx.refused hcomp).trans rfl
      · exact gate_sectionActs s.profile d (writeLive d (heard s))
      · exact (sameMeasures_sectionActs s.profile d (writeLive d (heard s))).thresholds
      · exact (((heard_frame s).mono (by decide)).trans (hacted.mono (by decide))).trans (haccepted.mono (by decide))
  case store =>
    have hdone : storeCompletes matched s = answer .profileWrite [if matched then 0 else 1]
        (raise (if matched then .storeDone else .storeFailed)
          (s.setStore ⟨setFlash s.store.flash k (storedCopy s k matched), none⟩)) := by
      rw [storeCompletes, hstoring]
    have hraised : Raised (if matched then .storeDone else .storeFailed) s
        (raise (if matched then .storeDone else .storeFailed)
          (s.setStore ⟨setFlash s.store.flash k (storedCopy s k matched), none⟩)) := (raised_raise _ _).of_profile rfl
    refine ⟨_, congrArg Host.Outcome.next hdone, rfl, ?_, fun i hi => ?_, ⟨rfl, rfl, rfl⟩,
      hraised.of_notices rfl, ?_⟩
    · exact get_setFlash_same _ _ _
    · exact get_setFlash_ne _ hi _
    · rw [← hdone]
      exact storeCompletes_frame_only matched s
  case rest =>
    exact congrArg Host.Outcome.next (show storeCompletes matched s = s by rw [storeCompletes, hnone])

end Sys2Proof.Machine
end

section
/-! PROOFS. The hand-over of a resolution: what a changed effective value does at once in the block that it is handed to. -/
namespace Sys2Proof.Machine

/-! ### Lamps -/

theorem wishedLevel_setProtection {s : State} {p : Protection} (h : p.state = s.protection.state) (r : Role) (level : Nat) :
    wishedLevel (s.setProtection p) r level = wishedLevel s r level := by
  have hstate : (s.setProtection p).protection.state = s.protection.state := h
  unfold wishedLevel
  rw [hstate]
  rfl

theorem roleLevel_setProtection (s : State) (p : Protection) (r : Role) (base : Nat) :
    roleLevel (s.setProtection p) r base = roleLevel s r base := by
  cases r <;> rfl

/-- The lamps' results stand under a record of Pack Protection with the same state. -/
theorem LampsAt.setProtection {s : State} (hs : LampsAt s) {p : Protection} (h : p.state = s.protection.state) :
    LampsAt (s.setProtection p) where
  role i := (hs.role i).trans (roleLevel_setProtection s p _ _).symm
  wished i := (hs.wished i).trans (wishedLevel_setProtection h _ _).symm
  output := hs.output
  claim := hs.claim

/-- A lamp resolution over the lamp record as it stood: levels and marks stand (R154). -/
theorem lampsFollow_of_at {s t : State} (hat : LampsAt t) {u : State} (hu : u.lamps = s.lamps)
    (ht : t.lamps = (lampResolve u).lamps) : LampsFollow s t := by
  have hchannel (i : Fin 8) : (t.lamps.channels.get i).pattern = (s.lamps.channels.get i).pattern
      ∧ (t.lamps.channels.get i).base = (s.lamps.channels.get i).base
      ∧ (t.lamps.channels.get i).patterned = (s.lamps.channels.get i).patterned := by
    rw [ht, channel_lampResolve, hu]
    exact ⟨rfl, rfl, rfl⟩
  refine ⟨lampsResolved_of_at hat, ⟨?_, fun i => (hchannel i).1⟩, fun i => (hchannel i).2⟩
  rw [ht]
  exact congrArg (fun l : LampUnit => { l with claim := lampClaim u, channels := (lampResolve u).lamps.channels }) hu

theorem lampsFollow_lampResolve {s u : State} (hu : u.lamps = s.lamps) : LampsFollow s (lampResolve u) :=
  lampsFollow_of_at (lampsAt_lampResolve u) hu rfl

/-- The lamps' results stand in the state, or have not been touched since `s`. -/
theorem LampsFollow.setProtection {s t : State} {u : State} (hu : u.lamps = s.lamps) (ht : t = lampResolve u) {p : Protection}
    (h : p.state = t.protection.state) : LampsFollow s (t.setProtection p) := by
  subst ht
  exact lampsFollow_of_at ((lampsAt_lampResolve u).setProtection h) hu rfl

theorem sceneInForce_of_effective {s : State} {n : Fin 16} (h : effective s .scene = n.val) : sceneInForce s = n := by
  rw [sceneInForce, h]
  exact Fin.ofNat_val_eq_self n

theorem channel_takeScene (s : State) (i : Fin 8) : (takeScene s).lamps.channels.get i =
    { s.lamps.channels.get i with
      base := (s.profile.scenes.get (sceneInForce s)).levels.get i
      patterned := (s.profile.scenes.get (sceneInForce s)).patterned.getLsbD i.val } := vector_get_ofFn _ i

/-- The scene in force, taken with a lamp resolution (R147). -/
theorem sceneTaken_of {s t : State} {n : Fin 16} (h : sceneInForce s = n) (hat : LampsAt t) (hprofile : t.profile = s.profile)
    (ht : t.lamps = (sceneHanded s).lamps) : SceneTaken n s t := by
  have hchannel (i : Fin 8) : (t.lamps.channels.get i).pattern = (s.lamps.channels.get i).pattern
      ∧ (t.lamps.channels.get i).base = (t.profile.scenes.get n).levels.get i
      ∧ (t.lamps.channels.get i).patterned = (t.profile.scenes.get n).patterned.getLsbD i.val := by
    rw [ht, sceneHanded, channel_lampResolve, channel_takeScene, h, hprofile]
    exact ⟨rfl, rfl, rfl⟩
  refine ⟨lampsResolved_of_at hat, ⟨?_, fun i => (hchannel i).1⟩, fun i => (hchannel i).2⟩
  rw [ht]
  rfl

/-! ### Winch -/

/-- The winch went from its state in `s` to a state, with what follows it (R104, R105, R154). -/
structure Goes (st : WinchState) (s t : State) : Prop where
  winch : WinchGoes st s.winch t.winch
  lamps : (t.winch.state = s.winch.state ∧ t.lamps = s.lamps)
    ∨ (t.winch.state ≠ s.winch.state ∧ ∃ u, u.lamps = s.lamps ∧ t = lampResolve u)
  limit : LimitEntered s t → t.notices = (raise .winchLimit s).notices
  quiet : ¬LimitEntered s t → t.notices = s.notices

theorem WinchGoes.stays (w : WinchUnit) : WinchGoes w.state w w :=
  ⟨fun _ => rfl, fun h => absurd rfl h, fun h => absurd rfl h, fun h => absurd rfl h⟩

theorem winchGoes_braked {st : WinchState} {w : WinchUnit} (hne : st ≠ w.state) (hst : st = .idle ∨ st = .limitIn ∨ st = .limitOut) :
    WinchGoes st w (brakedIn st w) := by
  refine ⟨fun h => absurd h hne, fun _ _ => rfl, fun _ h => ?_, fun _ h => ?_⟩
  · subst h; simp at hst
  · subst h; simp at hst

theorem drivenIn_inward (w : WinchUnit) : drivenIn .inward w = { w with state := .inward, stall := none, clear := none } := by
  have hsync : (w.sync.active && WinchState.inward == .inward) = w.sync.active := Bool.and_true _
  rw [drivenIn, hsync]

theorem drivenIn_outward (w : WinchUnit) : drivenIn .outward w =
    { w with state := .outward, stall := none, clear := none, sync := { w.sync with active := false } } := by
  have hsync : (w.sync.active && WinchState.outward == .inward) = false := Bool.and_false _
  rw [drivenIn, hsync]

theorem winchGoes_inward {w : WinchUnit} (hne : WinchState.inward ≠ w.state) : WinchGoes .inward w (drivenIn .inward w) :=
  ⟨fun h => absurd h hne, fun _ h => by simp at h, fun _ _ => drivenIn_inward w, fun _ h => by cases h⟩

theorem winchGoes_outward {w : WinchUnit} (hne : WinchState.outward ≠ w.state) : WinchGoes .outward w (drivenIn .outward w) :=
  ⟨fun h => absurd h hne, fun _ h => by simp at h, fun _ h => (by cases h), fun _ _ => drivenIn_outward w⟩

theorem Goes.stays (s : State) : Goes s.winch.state s s where
  winch := .stays _
  lamps := .inl ⟨rfl, rfl⟩
  limit h := absurd rfl h.1
  quiet _ := rfl

/-- A change of state with the winch record written and the lamps following it. -/
theorem goes_of_moved {st : WinchState} {s u : State} {w : WinchUnit} (hne : st ≠ s.winch.state) (hw : w.state = st)
    (hgoes : WinchGoes st s.winch w) (hu : u.lamps = s.lamps) (hwinch : u.winch = w)
    (hlimit : st = .limitIn ∨ st = .limitOut → u.notices = (raise .winchLimit s).notices)
    (hquiet : ¬(st = .limitIn ∨ st = .limitOut) → u.notices = s.notices) : Goes st s (lampsIfWinch s.winch.state u) := by
  have hstate : u.winch.state = st := by rw [hwinch, hw]
  have hresolved : lampsIfWinch s.winch.state u = lampResolve u := if_neg (by rw [hstate]; exact hne)
  rw [hresolved]
  have hrecord : (lampResolve u).winch = w := hwinch
  have hentered : LimitEntered s (lampResolve u) ↔ st = .limitIn ∨ st = .limitOut := by
    unfold LimitEntered
    rw [hrecord, hw]
    exact ⟨And.right, fun h => ⟨hne, h⟩⟩
  exact {
    winch := hrecord ▸ hgoes
    lamps := .inr ⟨by rw [hrecord, hw]; exact hne, u, hu, rfl⟩
    limit := fun h => hlimit (hentered.mp h)
    quiet := fun h => hquiet (mt hentered.mpr h) }

theorem goes_goIdle {s : State} (h : s.winch.state ≠ .idle) : Goes .idle s (goIdle s) :=
  goes_of_moved (Ne.symm h) rfl (winchGoes_braked (Ne.symm h) (.inl rfl)) rfl rfl (fun h => by simp at h) fun _ => rfl

theorem goes_goLimit {st : WinchState} {s : State} (h : s.winch.state ≠ st) (hst : st = .limitIn ∨ st = .limitOut) :
    Goes st s (goLimit st s) :=
  goes_of_moved (Ne.symm h) rfl (winchGoes_braked (Ne.symm h) (.inr hst)) rfl rfl (fun _ => rfl) fun hno => absurd hst hno

theorem atInStop_iff (s : State) : atInStop s = true ↔ s.winch.known = true ∧ payout s.winch ≤ 0 := by
  simp [atInStop]

theorem atOutStop_iff (s : State) :
    atOutStop s = true ↔ s.winch.known = true ∧ (limitCount s.profile.winch : Int) ≤ payout s.winch := by
  simp [atOutStop]

/-- Inward, or to the inward stop (R104). -/
theorem goes_goInward {s : State} (h : s.winch.state ≠ .inward) (hstop : atInStop s = true → s.winch.state ≠ .limitIn) :
    Goes (if s.winch.known = true ∧ payout s.winch ≤ 0 then .limitIn else .inward) s (goInward s) := by
  unfold goInward
  by_cases hat : atInStop s = true
  · rw [if_pos hat, if_pos ((atInStop_iff s).mp hat)]
    exact goes_goLimit (hstop hat) (.inl rfl)
  · rw [if_neg hat, if_neg (mt (atInStop_iff s).mpr hat)]
    exact goes_of_moved (Ne.symm h) rfl (winchGoes_inward (Ne.symm h)) rfl rfl (fun h => by simp at h) fun _ => rfl

/-- Outward, or to the outward stop (R104). -/
theorem goes_goOutward {s : State} (h : s.winch.state ≠ .outward) (hstop : atOutStop s = true → s.winch.state ≠ .limitOut) :
    Goes (if s.winch.known = true ∧ (limitCount s.profile.winch : Int) ≤ payout s.winch then .limitOut else .outward) s
      (goOutward s) := by
  unfold goOutward
  by_cases hat : atOutStop s = true
  · rw [if_pos hat, if_pos ((atOutStop_iff s).mp hat)]
    exact goes_goLimit (hstop hat) (.inr rfl)
  · rw [if_neg hat, if_neg (mt (atOutStop_iff s).mpr hat)]
    exact goes_of_moved (Ne.symm h) rfl (winchGoes_outward (Ne.symm h)) rfl rfl (fun h => by simp at h) fun _ => rfl

theorem winchActs_of_band {s : State} (hne : s.winch.state ≠ .stalled) (hband : inBand s s.winch.held = true) :
    winchActs s = if s.winch.state = .idle then s else goIdle s := by
  unfold winchActs
  dsimp only
  rw [hband]
  cases hst : s.winch.state with
  | stalled => exact absurd hst hne
  | _ => rfl

theorem winchActs_of_up {s : State} (hne : s.winch.state ≠ .stalled) (hband : inBand s s.winch.held = false)
    (hup : 0 < s.winch.held) :
    winchActs s = if s.winch.state = .inward ∨ s.winch.state = .limitIn then s else goInward s := by
  unfold winchActs
  dsimp only
  rw [hband, decide_eq_true hup]
  cases hst : s.winch.state with
  | stalled => exact absurd hst hne
  | _ => simp

theorem winchActs_of_down {s : State} (hne : s.winch.state ≠ .stalled) (hband : inBand s s.winch.held = false)
    (hdown : ¬0 < s.winch.held) :
    winchActs s = if s.winch.state = .outward ∨ s.winch.state = .limitOut then s else goOutward s := by
  unfold winchActs
  dsimp only
  rw [hband, decide_eq_false hdown]
  cases hst : s.winch.state with
  | stalled => exact absurd hst hne
  | _ => simp

/-- The held WINCH takes the winch to its state by R104's table. -/
theorem goes_winchActs {s : State} (hne : s.winch.state ≠ .stalled) :
    Goes (winchStateFor s.profile.drive.neutralBand s.winch.held s) s (winchActs s) := by
  unfold winchStateFor
  dsimp only
  rw [if_neg hne]
  by_cases hband : s.winch.held.natAbs ≤ s.profile.drive.neutralBand
  · rw [if_pos hband, winchActs_of_band hne ((inBand_eq_true_iff _ _).mpr hband)]
    by_cases hidle : s.winch.state = .idle
    · rw [if_pos hidle, ← hidle]
      exact .stays s
    · rw [if_neg hidle]
      exact goes_goIdle hidle
  have hout := (inBand_eq_false_iff _ _).mpr (Nat.lt_of_not_le hband)
  rw [if_neg hband]
  by_cases hup : 0 < s.winch.held
  · rw [if_pos hup, winchActs_of_up hne hout hup]
    by_cases hin : s.winch.state = .inward ∨ s.winch.state = .limitIn
    · rw [if_pos hin, if_pos hin]
      exact .stays s
    · rw [if_neg hin, if_neg hin]
      exact goes_goInward (fun h => hin (.inl h)) fun _ h => hin (.inr h)
  · rw [if_neg hup, winchActs_of_down hne hout hup]
    by_cases hdown : s.winch.state = .outward ∨ s.winch.state = .limitOut
    · rw [if_pos hdown, if_pos hdown]
      exact .stays s
    · rw [if_neg hdown, if_neg hdown]
      exact goes_goOutward (fun h => hdown (.inl h)) fun _ h => hdown (.inr h)

theorem ite_inBand {α : Type} (s : State) (v : Int) (x y : α) :
    (if inBand s v = true then x else y) = if v.natAbs ≤ s.profile.drive.neutralBand then x else y :=
  if_congr (inBand_eq_true_iff s v) rfl rfl

theorem winchActs_of_stalled {s : State} (h : s.winch.state = .stalled) :
    winchActs s = s.setWinch { s.winch with clear := if inBand s s.winch.held then some (s.winch.clear.getD 0) else none } := by
  unfold winchActs
  rw [h]

/-- The lamps follow the winch, whatever the recovery dwell timer does next (R154). -/
theorem Goes.lampsFollowWinch {st : WinchState} {s t : State} (h : Goes st s t) {p : Protection}
    (hp : p.state = t.protection.state) : LampsFollowWinch s (t.setProtection p) := by
  refine ⟨fun hsame => h.lamps.elim And.right fun ⟨hne, _⟩ => absurd hsame hne, fun hne => ?_⟩
  obtain ⟨hsame, _⟩ | ⟨_, u, hu, ht⟩ := h.lamps
  · exact absurd hsame hne
  · exact LampsFollow.setProtection hu ht hp

theorem winchTakes_winchHanded {s : State} {p : Protection} (hp : p.state = (winchHanded s).protection.state) :
    WinchTakes s.profile.drive.neutralBand (effective s .winch) s ((winchHanded s).setProtection p) := by
  unfold WinchTakes
  intro w
  by_cases hstalled : s.winch.state = .stalled
  · have hacts : winchHanded s = _ := winchActs_of_stalled (s := s.setWinch w) hstalled
    refine ⟨fun _ => ?_, fun hne => absurd hstalled hne, fun _ => ?_, fun hne => ?_⟩
    · rw [hacts]
      exact congrArg (fun c => { w with clear := c }) (ite_inBand (s.setWinch w) w.held _ _)
    · rw [hacts]
      rfl
    · rw [hacts] at hne
      exact absurd rfl hne
  · have hgoes : Goes _ _ (winchHanded s) := goes_winchActs (s := s.setWinch w) hstalled
    exact ⟨fun h => absurd h hstalled, fun _ => hgoes.winch, hgoes.lampsFollowWinch hp⟩

theorem notices_winchHanded (s : State) :
    (LimitEntered s (winchHanded s) → (winchHanded s).notices = (raise .winchLimit s).notices)
      ∧ (¬LimitEntered s (winchHanded s) → (winchHanded s).notices = s.notices) := by
  by_cases hstalled : s.winch.state = .stalled
  · have hacts : winchHanded s = _ :=
      winchActs_of_stalled (s := s.setWinch { s.winch with held := effective s .winch }) hstalled
    refine ⟨fun h => ?_, fun _ => ?_⟩
    · rw [hacts] at h
      exact absurd rfl h.1
    · rw [hacts]
      rfl
  · have hgoes : Goes _ _ (winchHanded s) :=
      goes_winchActs (s := s.setWinch { s.winch with held := effective s .winch }) hstalled
    exact ⟨hgoes.limit, hgoes.quiet⟩

/-! ### Wheels -/

theorem driveAtChannel_of_lockedOut {c : Channel} (h : c.state = .lockedOut) (band : Bool) (drag : Int) :
    driveAtChannel band drag c = { c with clear := if band then some (c.clear.getD 0) else none } := by
  cases c
  cases h
  rfl

theorem driveTaken_driveHanded {s t : State} (hdrive : t.drive = (driveHanded s).drive)
    (heff : effective t .drive = effective s .drive) : DriveTaken s t := by
  have hchan (w : Wheel) : chan t w =
      driveAtChannel (inBand s (effective s .drive)) (effective s .drag) (chan s w) := by
    rw [chan, hdrive]
    exact chan_mapChans s _ w
  unfold DriveTaken
  intro band e
  have he : e = effective s .drive := heff
  rw [he]
  refine ⟨fun w hrun hin => ?_, fun w hlocked => ?_, fun w hother => ?_, ?_⟩
  · rw [hchan, driveAtChannel, hrun, (inBand_eq_true_iff _ _).mpr hin]
    rfl
  · rw [hchan, driveAtChannel_of_lockedOut hlocked]
    exact congrArg (fun x => { chan s w with clear := x }) (ite_inBand s _ _ _)
  · rw [hchan, driveAtChannel]
    obtain hdrag | htripped | ⟨hrun, hout⟩ := hother
    · rw [hdrag]
    · rw [htripped]
    · rw [hrun, (inBand_eq_false_iff _ _).mpr hout]
      rfl
  · rw [OnlyChannels, hdrive]
    rfl

theorem dragTaken_dragHanded {s t : State} (hdrive : t.drive = (dragHanded s).drive)
    (heff : effective t .drag = effective s .drag) : DragTaken s t := by
  refine ⟨by rw [OnlyChannels, hdrive]; rfl, fun w => ?_⟩
  rw [chan, hdrive, heff]
  exact chan_mapChans s _ w

theorem rangeTaken_rangeHanded {s t : State} (hdrive : t.drive = (rangeHanded s).drive)
    (heff : effective t .range = effective s .range) : RangeTaken s t := by
  unfold RangeTaken
  intro d e top
  have htop : (topDuty s : Int) = top := by
    show (topDuty s : Int) = if effective t .range = 0 then (d.topLow : Int) else if effective t .range = 1 then d.topMid else d.topHigh
    rw [heff]
    unfold topDuty
    split
    · rfl
    · split <;> rfl
  refine ⟨by rw [OnlyChannels, hdrive]; rfl, fun w => ?_⟩
  have hchan : chan (rangeHanded s) w = _ := chan_mapChans s _ w
  rw [chan, hdrive, ← htop]
  exact hchan

/-! ### Steering -/

theorem meanSpeed_eq (s : State) : meanSpeed s =
    ((chan s .fl).speed.natAbs + (chan s .fr).speed.natAbs + (chan s .rl).speed.natAbs + (chan s .rr).speed.natAbs) / 4 := by
  rw [meanSpeed, PerWheel.list_eq]
  simp [Wheel.all, chan, Nat.add_assoc]

theorem modeOfIndex_of {v : Int} {m : SteerMode}
    (h : v = 0 ∧ m = .front ∨ v = 1 ∧ m = .counter ∨ v = 2 ∧ m = .crab ∨ v = 3 ∧ m = .rear) : modeOfIndex v = m := by
  obtain ⟨rfl, rfl⟩ | ⟨rfl, rfl⟩ | ⟨rfl, rfl⟩ | ⟨rfl, rfl⟩ := h <;> rfl

theorem modeHanded_of_settled {s : State} (h : s.steering.state = .settled) : modeHanded s =
    if s.steering.gate < meanSpeed s then
      s.setSteering { s.steering with state := .waiting, next := some (modeOfIndex (effective s .steermode)) }
    else enterSlew (modeOfIndex (effective s .steermode)) s := by
  unfold modeHanded
  rw [h]

theorem modeHanded_of_waiting {s : State} (h : s.steering.state = .waiting) : modeHanded s =
    if modeOfIndex (effective s .steermode) = s.steering.mode then
      s.setSteering { s.steering with state := .settled, next := none }
    else s.setSteering { s.steering with next := some (modeOfIndex (effective s .steermode)) } := by
  unfold modeHanded
  rw [h]

theorem modeTaken_modeHanded {s t : State} {m : SteerMode} (hm : modeOfIndex (effective s .steermode) = m)
    (hsteering : t.steering = (modeHanded s).steering) (hdrive : t.drive = (modeHanded s).drive) : ModeTaken m s t := by
  unfold ModeTaken
  intro waits l
  have hwaits : (s.steering.gate < meanSpeed s) = waits := by rw [meanSpeed_eq]
  refine ⟨fun hst hw => ?_, fun hst hw => ?_, fun hst hmode => ?_, fun hst hmode => ?_⟩
  · rw [hsteering, hdrive, modeHanded_of_settled hst, if_pos (hwaits ▸ hw), hm]
    exact ⟨rfl, rfl⟩
  · have hslew : modeHanded s = enterSlew m s := by rw [modeHanded_of_settled hst, if_neg (hwaits ▸ hw), hm]
    rw [hslew] at hsteering hdrive
    refine ⟨hsteering, by rw [OnlyChannels, hdrive]; rfl, fun w => ?_⟩
    rw [chan, hdrive]
    exact chan_mapChans (s.setSteering { s.steering with state := .slewing, next := some m }) _ w
  · rw [hsteering, hdrive, modeHanded_of_waiting hst, hm, if_pos hmode]
    exact ⟨rfl, rfl⟩
  · rw [hsteering, hdrive, modeHanded_of_waiting hst, hm, if_neg hmode]
    exact ⟨rfl, rfl⟩

/-! ### Hand-over -/

theorem protection_handOn (f : Fn) (s : State) : (handOn f s).protection = s.protection := handOn_frame f s .protection (by decide)

/-- What a changed effective value does in its blocks, whatever the recovery dwell timer does next. -/
theorem taken_handOn {f : Fn} {s : State} {p : Protection} (hp : p.state = s.protection.state) :
    Taken f s ((handOn f s).setProtection p) := by
  have hstate : p.state = (handOn f s).protection.state := by rw [protection_handOn, hp]
  cases f with
  | drive => exact ⟨driveTaken_driveHanded rfl rfl, LampsFollow.setProtection (u := driveHanded s) rfl rfl hstate⟩
  | steer =>
    exact ⟨rfl, LampsFollow.setProtection
      (u := s.setSteering { s.steering with heldSteer := effective s .steer }) rfl rfl hstate⟩
  | steermode =>
    intro m hm
    have heff : effective ((handOn .steermode s).setProtection p) .steermode = effective s .steermode :=
      congrArg Eff.value (effOf_modeHanded s .steermode)
    rw [heff] at hm
    exact modeTaken_modeHanded (modeOfIndex_of hm) rfl rfl
  | winch =>
    have heff : effective ((handOn .winch s).setProtection p) .winch = effective s .winch :=
      congrArg (fun r : Resolver => (r.eff.get .winch).value) (handOn_resolver .winch s)
    show WinchTakes _ (effective ((handOn .winch s).setProtection p) .winch) s _
    rw [heff]
    exact winchTakes_winchHanded hstate
  | drag => exact ⟨dragTaken_dragHanded rfl rfl, LampsFollow.setProtection (u := dragHanded s) rfl rfl hstate⟩
  | range => exact rangeTaken_rangeHanded rfl rfl
  | scene =>
    intro n hn
    exact sceneTaken_of (sceneInForce_of_effective hn) ((lampsAt_lampResolve _).setProtection hstate) rfl rfl

theorem limitEntered_handOn_of_ne {f : Fn} (h : f ≠ .winch) (s : State) : ¬LimitEntered s (handOn f s) :=
  fun hentered => hentered.1 (congrArg WinchUnit.state (handOn_winch_of_ne h s))

/-- A hand-over raises WINCH_LIMIT where it takes the winch to a stop, and nothing else. -/
theorem notices_handOn (f : Fn) (s : State) :
    (LimitEntered s (handOn f s) → (handOn f s).notices = (raise .winchLimit s).notices)
      ∧ (¬LimitEntered s (handOn f s) → (handOn f s).notices = s.notices) := by
  by_cases hf : f = .winch
  · subst hf
    exact notices_winchHanded s
  · exact ⟨fun h => absurd h (limitEntered_handOn_of_ne hf s), fun _ => handOn_notices_of_ne hf s⟩

/-- What an underlying DRIVE does at Pack Protection: only the recovery conditions and the recovery dwell timer move. -/
theorem handUnderlying_eq (before : Int) (s : State) : ∃ p : Protection, handUnderlying before s = s.setProtection p
    ∧ p.state = s.protection.state
    ∧ (s.resolver.lockout = true ∧ (effOf s .drive).underlying ≠ before → s.protection.state = .cutoff →
        p = { s.protection with
              driveOk := underlyingInBand s
              recovery :=
                if s.protection.cellOk = true ∧ s.protection.currentOk = true ∧ underlyingInBand s = true then
                  some (s.protection.recovery.getD 0)
                else none })
    ∧ (¬(s.resolver.lockout = true ∧ (effOf s .drive).underlying ≠ before) → p = s.protection) := by
  unfold handUnderlying
  by_cases hhanded : s.resolver.lockout = true ∧ (effOf s .drive).underlying ≠ before
  · rw [if_pos hhanded]
    unfold recoveryDriveTest recoveryTest
    by_cases hcut : s.protection.state = .cutoff
    · refine ⟨_, if_pos hcut, rfl, fun _ _ => ?_, fun hno => absurd hhanded hno⟩
      simp [Bool.and_eq_true, and_assoc]
    · exact ⟨_, if_neg hcut, rfl, fun _ h => absurd h hcut, fun hno => absurd hhanded hno⟩
  · rw [if_neg hhanded]
    exact ⟨s.protection, rfl, rfl, fun h => absurd h hhanded, fun _ => rfl⟩

/-! ### The hand-over of one resolution -/

/-- What a resolution hands over, between two states (R40). -/
structure HandedOver (f : Fn) (s t : State) : Prop where
  blocks : HandsOver f s t
  underlying : UnderlyingHanded s t
  limit : LimitEntered s t → t.notices = (raise .winchLimit s).notices
  quiet : ¬LimitEntered s t → t.notices = s.notices

/-- A hand-over touches the blocks of its function, and the notices. -/
theorem handOn_frame_handed (f : Fn) (s : State) : SameExcept (.notices :: handedTo f) s (handOn f s) := by
  cases f with
  | drive => exact ((driveHanded_frame s).mono (by decide)).trans ((lampResolve_frame _).mono (by decide))
  | steer => exact (steerHanded_frame s).mono (by decide)
  | steermode => exact (modeHanded_frame s).mono (by decide)
  | winch => exact (winchHanded_frame s).mono (by decide)
  | drag => exact ((dragHanded_frame s).mono (by decide)).trans ((lampResolve_frame _).mono (by decide))
  | range => exact (rangeHanded_frame s).mono (by decide)
  | scene => exact (sceneHanded_frame s).mono (by decide)

theorem Taken.of_setEff {f : Fn} {s t : State} {e : Eff} (h : Taken f (setEff s f e) t) : Taken f s t := by
  cases f <;> exact h

/-- The middle of a hand-over: the new entry, handed on where its value changed. -/
def handedEntry (f : Fn) (e : Eff) (s : State) : State :=
  if e.value = effective s f then setEff s f e else handOn f (setEff s f e)

theorem commitEff_eq (f : Fn) (e : Eff) (s : State) :
    commitEff f e s = handUnderlying (effOf s .drive).underlying (handedEntry f e s) := rfl

theorem handedEntry_of_same {f : Fn} {e : Eff} {s : State} (h : e.value = effective s f) : handedEntry f e s = setEff s f e :=
  if_pos h

theorem handedEntry_of_changed {f : Fn} {e : Eff} {s : State} (h : e.value ≠ effective s f) :
    handedEntry f e s = handOn f (setEff s f e) := if_neg h

theorem handedEntry_frame (f : Fn) (e : Eff) (s : State) :
    SameExcept [.resolver, .steering, .drive, .winch, .lamps, .notices] s (handedEntry f e s) := by
  by_cases h : e.value = effective s f
  · rw [handedEntry_of_same h]
    exact (setEff_frame s f e).mono (by decide)
  · rw [handedEntry_of_changed h]
    exact ((setEff_frame s f e).mono (by decide)).trans ((handOn_frame_handed f _).mono (by cases f <;> decide))

theorem resolver_handedEntry (f : Fn) (e : Eff) (s : State) : (handedEntry f e s).resolver = (setEff s f e).resolver := by
  by_cases h : e.value = effective s f
  · rw [handedEntry_of_same h]
  · rw [handedEntry_of_changed h, handOn_resolver]

theorem notices_handedEntry (f : Fn) (e : Eff) (s : State) :
    (LimitEntered s (handedEntry f e s) → (handedEntry f e s).notices = (raise .winchLimit s).notices)
      ∧ (¬LimitEntered s (handedEntry f e s) → (handedEntry f e s).notices = s.notices) := by
  by_cases h : e.value = effective s f
  · rw [handedEntry_of_same h]
    exact ⟨fun h => absurd rfl h.1, fun _ => rfl⟩
  · rw [handedEntry_of_changed h]
    exact notices_handOn f (setEff s f e)

theorem underlyingHanded_of {s t u : State} {p : Protection} (ht : t = u.setProtection p)
    (hlock : u.resolver.lockout = s.resolver.lockout) (hprotection : u.protection = s.protection) (hprofile : u.profile = s.profile)
    (hcut : u.resolver.lockout = true ∧ (effOf u .drive).underlying ≠ (effOf s .drive).underlying →
        u.protection.state = .cutoff →
        p = { u.protection with
              driveOk := underlyingInBand u
              recovery :=
                if u.protection.cellOk = true ∧ u.protection.currentOk = true ∧ underlyingInBand u = true then
                  some (u.protection.recovery.getD 0)
                else none })
    (hstands : ¬(u.resolver.lockout = true ∧ (effOf u .drive).underlying ≠ (effOf s .drive).underlying) → p = u.protection) :
    UnderlyingHanded s t := by
  subst ht
  unfold UnderlyingHanded
  intro v handed ok
  rw [hlock, hprotection] at hcut hstands
  have hok : underlyingInBand u = decide ok := by
    rw [underlyingInBand, inBand, hprofile]
    rfl
  refine ⟨fun hhanded hcutoff => ?_, hstands⟩
  have hp := hcut hhanded hcutoff
  rw [hok] at hp
  refine hp.trans ?_
  simp only [decide_eq_true_eq]

/-- A new entry written and handed over. -/
theorem handedOver_commitEff (f : Fn) (e : Eff) (s : State) : HandedOver f s (commitEff f e s) := by
  have heff : effective (commitEff f e s) f = e.value := congrArg Eff.value (effOf_commitEff_same f e s)
  rw [commitEff_eq] at heff ⊢
  obtain ⟨p, hp, hstate, hcut, hstands⟩ := handUnderlying_eq (effOf s .drive).underlying (handedEntry f e s)
  have hprotection : (handedEntry f e s).protection = s.protection := handedEntry_frame f e s .protection (by decide)
  rw [hp] at heff ⊢
  constructor
  case blocks =>
    refine ⟨fun hsame => ?_, fun hchanged => ?_⟩
    · rw [handedEntry_of_same (heff.symm.trans hsame)]
      intro b hb
      fin_cases hb <;> rfl
    · have hne : e.value ≠ effective s f := heff ▸ hchanged
      rw [hprotection] at hstate
      rw [handedEntry_of_changed hne]
      refine ⟨fun b hb hother => ?_, (taken_handOn (s := setEff s f e) hstate).of_setEff⟩
      have hhand := handOn_frame_handed f (setEff s f e) b (by fin_cases hb <;> simp at hother ⊢ <;> exact hother)
      fin_cases hb <;> exact hhand
  case underlying =>
    exact underlyingHanded_of rfl (by rw [resolver_handedEntry]; rfl) hprotection
      (handedEntry_frame f e s .profile (by decide)) hcut hstands
  case limit => exact (notices_handedEntry f e s).1
  case quiet => exact (notices_handedEntry f e s).2

/-! ### States that a hand-over does not tell apart -/

/-- Two states with the same records of the blocks that a hand-over reads or writes, but for the notices. -/
structure SameHanding (s t : State) : Prop where
  resolver : t.resolver = s.resolver
  steering : t.steering = s.steering
  drive : t.drive = s.drive
  winch : t.winch = s.winch
  lamps : t.lamps = s.lamps
  protection : t.protection = s.protection
  profile : t.profile = s.profile

theorem SameHanding.of_frame {l : List Block} {s t : State} (h : SameExcept l s t)
    (hl : ∀ b ∈ [Block.resolver, .steering, .drive, .winch, .lamps, .protection, .profile], b ∉ l) : SameHanding s t where
  resolver := h .resolver (hl _ (by decide))
  steering := h .steering (hl _ (by decide))
  drive := h .drive (hl _ (by decide))
  winch := h .winch (hl _ (by decide))
  lamps := h .lamps (hl _ (by decide))
  protection := h .protection (hl _ (by decide))
  profile := h .profile (hl _ (by decide))

theorem SameHanding.taken {f : Fn} {s t s' t' : State} (hs : SameHanding s s') (ht : SameHanding t t') (h : Taken f s t) :
    Taken f s' t' := by
  obtain ⟨hresolver, hsteering, hdrive, hwinch, hlamps, hprotection, hprofile⟩ := hs
  obtain ⟨hresolver', hsteering', hdrive', hwinch', hlamps', hprotection', hprofile'⟩ := ht
  cases s
  cases s'
  cases t
  cases t'
  cases hresolver
  cases hsteering
  cases hdrive
  cases hwinch
  cases hlamps
  cases hprotection
  cases hprofile
  cases hresolver'
  cases hsteering'
  cases hdrive'
  cases hwinch'
  cases hlamps'
  cases hprotection'
  cases hprofile'
  cases f <;> exact h

theorem SameHanding.block {s t : State} (h : SameHanding s t) {b : Block} (hb : b ∈ [Block.steering, .drive, .winch, .lamps]) :
    b.Same s t := by
  fin_cases hb
  · exact h.steering
  · exact h.drive
  · exact h.winch
  · exact h.lamps

theorem SameHanding.symm {s t : State} (h : SameHanding s t) : SameHanding t s :=
  ⟨h.resolver.symm, h.steering.symm, h.drive.symm, h.winch.symm, h.lamps.symm, h.protection.symm, h.profile.symm⟩

theorem Block.Same.trans {b : Block} {s t u : State} (h : b.Same s t) (h' : b.Same t u) : b.Same s u := by
  cases b <;> exact Eq.trans h' h

theorem SameHanding.effective {s t : State} (h : SameHanding s t) (f : Fn) : effective t f = effective s f :=
  congrArg (fun r : Resolver => (r.eff.get f).value) h.resolver

theorem SameHanding.handsOver {f : Fn} {s t s' t' : State} (hs : SameHanding s s') (ht : SameHanding t t')
    (h : HandsOver f s t) : HandsOver f s' t' := by
  have hblock {b : Block} (hb : b ∈ [Block.steering, .drive, .winch, .lamps]) (hst : b.Same s t) : b.Same s' t' :=
    ((hs.symm.block hb).trans hst).trans (ht.block hb)
  unfold HandsOver
  rw [hs.effective, ht.effective]
  obtain ⟨hsame, hchanged⟩ := h
  refine ⟨fun heq b hb => hblock hb (hsame heq b hb), fun hne => ?_⟩
  obtain ⟨hothers, htaken⟩ := hchanged hne
  exact ⟨fun b hb hout => hblock hb (hothers b hb hout), hs.taken ht htaken⟩

theorem SameHanding.underlyingHanded {s t s' t' : State} (hs : SameHanding s s') (ht : SameHanding t t')
    (h : UnderlyingHanded s t) : UnderlyingHanded s' t' := by
  unfold UnderlyingHanded effOf at h ⊢
  rw [hs.resolver, hs.protection, hs.profile, ht.resolver, ht.protection]
  exact h

theorem SameHanding.limitEntered {s t s' t' : State} (hs : SameHanding s s') (ht : SameHanding t t') :
    LimitEntered s' t' ↔ LimitEntered s t := by
  unfold LimitEntered
  rw [hs.winch, ht.winch]

/-- One function resolved: what its changed effective value and underlying DRIVE do (R40). -/
theorem handedOver_resolve {f : Fn} {s : State} (h : Resolvable s f) (byMark : Bool) : HandedOver f s (resolve f byMark s) := by
  rw [resolve_of_free ((consumerBusy_eq_false_iff s f).mpr h)]
  have hcommit := handedOver_commitEff f (entryFrom s f (effOf s f) byMark) (takeSlots f s)
  have hslots : SameHanding (takeSlots f s) s := ⟨rfl, rfl, rfl, rfl, rfl, rfl, rfl⟩
  have hstays (t : State) : SameHanding t t := ⟨rfl, rfl, rfl, rfl, rfl, rfl, rfl⟩
  exact ⟨hslots.handsOver (hstays _) hcommit.blocks, hcommit.underlying, hcommit.limit, hcommit.quiet⟩

end Sys2Proof.Machine
end

section
/-! PROOFS. Slot writes in the words of the rules: the slot after a write, and what the resolution of its function hands over
(R20 to R23, R26). -/
namespace Sys2Proof.Machine

/-! ### The slot after a write -/

theorem rangedValue_eq {f : Fn} {v : Int} (h : isNumeric f = true ∨ InRange f v) :
    rangedValue f v = max (fnLow f) (min (fnHigh f) v) := by
  unfold rangedValue
  by_cases hnum : isNumeric f = true
  · rw [if_pos hnum]
    rfl
  · obtain ⟨hlow, hhigh⟩ := h.resolve_left hnum
    rw [if_neg hnum, min_eq_right hhigh, max_eq_right hlow]

theorem confirmed_writtenSlot (s : State) (f : Fn) (v : Int) (x : Slot) :
    (writtenSlot s f v x).confirmed = (x.confirmed || confirms s f v) := rfl

theorem isWaiting_iff (s : State) (f : Fn) (x : Slot) :
    isWaiting s f x = true ↔ (f = .steermode ∧ s.steering.state = .slewing) ∧ x.state = .fresh := by
  rw [isWaiting, Bool.and_eq_true, consumerBusy_iff, beq_iff_eq]

theorem writtenSlot_of_waiting {s : State} {f : Fn} {x : Slot} (h : isWaiting s f x = true) (v : Int) :
    writtenSlot s f v x = writeWaiting (authOf s f).keep v x := by
  obtain ⟨⟨hf, _⟩, _⟩ := (isWaiting_iff s f x).mp h
  subst hf
  have hmark : confirms s .steermode v = false := rfl
  have hkept : (writeWaiting (authOf s .steermode).keep v x).confirmed = x.confirmed := by
    unfold writeWaiting
    split
    · rfl
    · split <;> rfl
  unfold writtenSlot
  dsimp only
  rw [if_pos h, hmark, Bool.or_false, ← hkept]

theorem writtenSlot_of_plain {s : State} {f : Fn} {x : Slot} (h : isWaiting s f x = false) (v : Int) :
    writtenSlot s f v x =
      { x with
        value := some v, offered := some v, age := 0
        state := if x.value = some v ∧ x.state = .taken then .taken else .fresh
        seq := if x.value = some v then x.seq else x.seq + 1
        confirmed := x.confirmed || confirms s f v } := by
  unfold writtenSlot writePlain
  dsimp only
  rw [h]
  by_cases hvalue : x.value = some v
  · simp [hvalue]
  · simp [hvalue]

/-- A write of a value sets the slot's mark (R26). -/
def newMark (s : State) (f : Fn) (v : Int) (x : Slot) : Bool :=
  !x.confirmed && hasMark f && decide (v.natAbs ≤ s.profile.drive.neutralBand)

theorem newMark_eq (s : State) (f : Fn) (v : Int) (x : Slot) : newMark s f v x = (!x.confirmed && confirms s f v) :=
  Bool.and_assoc ..

/-- A write that is handed to the resolver, on a slot that does not wait (R21, R26). -/
theorem writeHands_iff {s : State} {f : Fn} {x : Slot} (h : isWaiting s f x = false) (v : Int) :
    writeHands x (writtenSlot s f v x) = true ↔
      x.state = .empty ∨ x.state = .stale ∨ x.value ≠ some v ∨ newMark s f v x = true := by
  rw [writtenSlot_of_plain h, newMark_eq]
  unfold writeHands
  by_cases hvalue : x.value = some v
  · cases hstate : x.state <;> cases x.confirmed <;> simp [hvalue]
  · simp [hvalue, Ne.symm hvalue]

theorem confirmed_changes (c k : Bool) : ((c || k) != c) = (!c && k) := by cases c <;> cases k <;> rfl

theorem writeSlot_eq (m : Master) (f : Fn) (raw : Int) (s : State) : writeSlot m f raw s =
    if writeHands (slotOf s m f) (writtenSlot s f (rangedValue f raw) (slotOf s m f)) then
      resolve f (newMark s f (rangedValue f raw) (slotOf s m f))
        (setSlot s m f (writtenSlot s f (rangedValue f raw) (slotOf s m f)))
    else setSlot s m f (writtenSlot s f (rangedValue f raw) (slotOf s m f)) := by
  unfold writeSlot
  dsimp only
  rw [confirmed_writtenSlot, confirmed_changes, newMark_eq]

theorem consumerBusy_setSlot (s : State) (m : Master) (f g : Fn) (x : Slot) :
    consumerBusy (setSlot s m f x) g = consumerBusy s g :=
  consumerBusy_congr (congrArg Steering.state (setSlot_frame s m f x .steering (by decide)))

theorem sameHanding_setSlot (s : State) (m : Master) (f : Fn) (x : Slot) : SameHanding s (setSlot s m f x) :=
  .of_frame (setSlot_frame s m f x) (by decide)

theorem SameHanding.refl (s : State) : SameHanding s s := ⟨rfl, rfl, rfl, rfl, rfl, rfl, rfl⟩

/-- A slot replaced and its function resolved. -/
theorem handedOver_setSlot {f : Fn} {s : State} (h : Resolvable s f) (m : Master) (x : Slot) (byMark : Bool) :
    HandedOver f s (resolve f byMark (setSlot s m f x)) := by
  have hsame := (sameHanding_setSlot s m f x).symm
  have hfree : Resolvable (setSlot s m f x) f := by
    rw [← consumerBusy_eq_false_iff, consumerBusy_setSlot, consumerBusy_eq_false_iff]
    exact h
  have hnotices : (setSlot s m f x).notices = s.notices := setSlot_frame s m f x .notices (by decide)
  have hraised : (raise .winchLimit (setSlot s m f x)).notices = (raise .winchLimit s).notices := by
    unfold raise
    rw [hnotices, hsame.symm.profile]
    rfl
  obtain ⟨hblocks, hunder, hlimit, hquiet⟩ := handedOver_resolve hfree byMark
  exact ⟨hsame.handsOver (.refl _) hblocks, hsame.underlyingHanded (.refl _) hunder, fun h =>
    (hlimit ((hsame.limitEntered (.refl _)).mp h)).trans hraised, fun h =>
    (hquiet fun hentered => h ((hsame.limitEntered (.refl _)).mpr hentered)).trans hnotices⟩

theorem HandedOver.raises {f : Fn} {s t : State} (h : HandedOver f s t) : LimitEntered s t → Raised .winchLimit s t :=
  fun hentered => (raised_raise .winchLimit s).of_notices (h.limit hentered)

/-! ### Slot writes in the words of the rules -/

/-- A write on a slot that does not wait and that the resolver does not take is as the rules give it (R21, R26). -/
theorem writtenSlot_of_kept {s : State} {f : Fn} {x : Slot} {v : Int} (h : isWaiting s f x = false)
    (hkept : ¬(x.state = .empty ∨ x.state = .stale ∨ x.value ≠ some v ∨ newMark s f v x = true)) :
    writtenSlot s f v x =
      { x with value := some v, offered := some v, age := 0, state := x.state, seq := x.seq, confirmed := x.confirmed || confirms s f v } := by
  obtain ⟨hempty, hstale, hvalue, _⟩ := not_or.mp hkept |>.imp id fun h => (not_or.mp h).imp id not_or.mp
  rw [writtenSlot_of_plain h, if_pos (not_not.mp hvalue)]
  cases hstate : x.state with
  | empty => exact absurd hstate hempty
  | stale => exact absurd hstate hstale
  | fresh => simp
  | taken => simp [not_not.mp hvalue]

/-- A write on a slot that does not wait, taken by the resolver (R21, R22, R26). -/
theorem takenSlot_writtenSlot {s : State} {f : Fn} {x : Slot} (h : isWaiting s f x = false) (v : Int) :
    takenSlot (writtenSlot s f v x) =
      { x with
        value := some v, offered := some v, age := 0, state := .taken
        seq := if x.value = some v then x.seq else x.seq + 1, confirmed := x.confirmed || confirms s f v } := by
  rw [writtenSlot_of_plain h]
  by_cases hstate : x.value = some v ∧ x.state = .taken
  · rw [if_pos hstate]
    rfl
  · rw [if_neg hstate]
    rfl

/-- A write under a busy consumer, on a slot that does not wait (R21, R45). -/
theorem writtenSlot_of_busy {s : State} {f : Fn} {x : Slot} (hbusy : consumerBusy s f = true) (h : isWaiting s f x = false) (v : Int) :
    writtenSlot s f v x =
      { x with
        value := some v, offered := some v, age := 0
        state := if x.state = .empty ∨ x.state = .stale ∨ x.value ≠ some v ∨ newMark s f v x = true then .fresh
          else x.state
        seq := if x.value = some v then x.seq else x.seq + 1, confirmed := x.confirmed || confirms s f v } := by
  obtain ⟨hf, _⟩ := (consumerBusy_iff s f).mp hbusy
  have hmark : confirms s f v = false := by rw [hf]; rfl
  have hnotFresh : x.state ≠ .fresh := fun hfresh => by
    rw [isWaiting, hbusy, hfresh] at h
    exact absurd h (by decide)
  rw [writtenSlot_of_plain h, newMark_eq, hmark]
  by_cases hvalue : x.value = some v
  · cases hstate : x.state with
    | fresh => exact absurd hstate hnotFresh
    | _ => simp [hvalue]
  · simp [hvalue]

/-- A write of a value to a slot does what R20 to R23, R26 and R40 say. -/
theorem slotWritten_writeSlot {f : Fn} {raw : Int} (hraw : isNumeric f = true ∨ InRange f raw) (m : Master) (s : State) :
    SlotWritten m f raw s (writeSlot m f raw s) := by
  unfold SlotWritten
  intro old v marks busy waiting handed resolves
  have hbusy : consumerBusy s f = true ↔ busy := consumerBusy_iff s f
  have hwaiting : isWaiting s f old = true ↔ waiting := isWaiting_iff s f old
  have heq := writeSlot_eq m f raw s
  rw [rangedValue_eq hraw] at heq
  have hframe := writeSlot_frame m f raw s
  by_cases hb : busy
  · -- Nothing is resolved under a busy consumer.
    have hstays : writeSlot m f raw s = setSlot s m f (writtenSlot s f v old) := by
      rw [heq]
      split
      · exact resolve_of_busy (by rw [consumerBusy_setSlot]; exact hbusy.mpr hb) _
      · rfl
    have hno : ¬resolves := fun h => h.2 hb
    rw [hstays] at hframe ⊢
    refine ⟨?_, fun m' hm => ⟨fun h => absurd h hno, fun _ => ?_⟩, fun m' g hg => ?_, fun g => ?_, fun g _ => ?_,
      fun h => absurd h hno, fun _ => ⟨?_, setSlot_frame s m f _⟩, hframe⟩
    · rw [slotOf_setSlot_same]
      unfold slotAfter
      by_cases hw : waiting
      · rw [if_pos hw, writtenSlot_of_waiting (hwaiting.mpr hw)]
        rfl
      · rw [if_neg hw, writtenSlot_of_busy (hbusy.mpr hb) (Bool.eq_false_iff.mpr (mt hwaiting.mp hw))]
        simp only [if_pos hb]
        rfl
    · exact slotOf_setSlot_of_master_ne s hm f f _
    · exact slotOf_setSlot_of_fn_ne s m m' hg _
    · exact (setSlot_frame s m f _).grantOf (by decide) g
    · exact (setSlot_frame s m f _).effOf (by decide) g
    · exact (setSlot_frame s m f _).effOf (by decide) f
  have hplain : isWaiting s f old = false := Bool.eq_false_iff.mpr fun h => hb (hwaiting.mp h).1
  have hafter : slotAfter s f v waiting busy handed old = _ := if_neg fun h : waiting => hb h.1
  have hhands : writeHands old (writtenSlot s f v old) = true ↔ handed := writeHands_iff hplain v
  by_cases hh : handed
  · have hstep : writeSlot m f raw s = resolve f marks (setSlot s m f (writtenSlot s f v old)) := by
      rw [heq, if_pos (hhands.mpr hh)]
      rfl
    have hfree : consumerBusy (setSlot s m f (writtenSlot s f v old)) f = false := by
      rw [consumerBusy_setSlot]
      exact Bool.eq_false_iff.mpr (mt hbusy.mp hb)
    have hover : HandedOver f s (writeSlot m f raw s) := by
      rw [hstep]
      exact handedOver_setSlot ((consumerBusy_eq_false_iff s f).mp (Bool.eq_false_iff.mpr (mt hbusy.mp hb))) m _ _
    have hresolved : Resolved (effOf s f) marks (writeSlot m f raw s) f := by
      rw [hstep, ← (setSlot_frame s m f (writtenSlot s f v old)).effOf (by decide) f]
      exact (resolvedOnce_resolve hfree marks).resolved
    have hslot (m' : Master) :
        slotOf (writeSlot m f raw s) m' f = takenSlot (slotOf (setSlot s m f (writtenSlot s f v old)) m' f) := by
      rw [hstep]
      exact slotOf_resolve_of_free hfree marks m'
    refine ⟨?_, fun m' hm => ⟨fun _ hfresh => ?_, fun h => ?_⟩, fun m' g hg => ?_, fun g => ?_, fun g hg => ?_,
      fun _ => ⟨hresolved, hover.blocks, hover.underlying, hover.raises, hover.quiet⟩, fun h => absurd ⟨hh, hb⟩ h, hframe⟩
    · rw [hslot, slotOf_setSlot_same, takenSlot_writtenSlot hplain, hafter]
      simp only [if_pos hh, if_neg hb]
      rfl
    · rw [hslot, slotOf_setSlot_of_master_ne s hm, takenSlot_of_fresh hfresh]
    · rw [hslot, slotOf_setSlot_of_master_ne s hm, takenSlot_of_not_fresh (h.resolve_left fun hno => hno ⟨hh, hb⟩)]
    · rw [hstep, slotOf_resolve_ne hg, slotOf_setSlot_of_fn_ne s m m' hg]
    · rw [hstep, grantOf_resolve]
      exact (setSlot_frame s m f _).grantOf (by decide) g
    · rw [hstep, effOf_resolve_ne hg]
      exact (setSlot_frame s m f _).effOf (by decide) g
  · have hstays : writeSlot m f raw s = setSlot s m f (writtenSlot s f v old) := by
      rw [heq, if_neg (mt hhands.mp hh)]
    have hno : ¬resolves := fun h => hh h.1
    rw [hstays] at hframe ⊢
    refine ⟨?_, fun m' hm => ⟨fun h => absurd h hno, fun _ => ?_⟩, fun m' g hg => ?_, fun g => ?_, fun g _ => ?_,
      fun h => absurd h hno, fun _ => ⟨?_, setSlot_frame s m f _⟩, hframe⟩
    · have hvalue : old.value = some v := not_not.mp fun h => hh (.inr (.inr (.inl h)))
      rw [slotOf_setSlot_same, writtenSlot_of_kept hplain hh, hafter]
      simp only [if_neg hh, if_pos hvalue]
      rfl
    · exact slotOf_setSlot_of_master_ne s hm f f _
    · exact slotOf_setSlot_of_fn_ne s m m' hg _
    · exact (setSlot_frame s m f _).grantOf (by decide) g
    · exact (setSlot_frame s m f _).effOf (by decide) g
    · exact (setSlot_frame s m f _).effOf (by decide) f

end Sys2Proof.Machine
end

section
/-! PROOFS. A slot that goes STALE (R24). -/
namespace Sys2Proof.Machine

/-- The slot gone STALE, before its grant ends and its function is resolved (R24). -/
def staleSlot (s : State) (m : Master) (f : Fn) : Slot :=
  { slotOf s m f with
    state := .stale, age := max (slotOf s m f).age (min 65535 ((authOf s f).hold + 1)) }

theorem canStale_iff (f : Fn) (x : Slot) : canStale f x = true ↔ isNumeric f = true ∧ x.state = .taken := by
  simp [canStale]

theorem slotStale_of_not {m : Master} {f : Fn} {s : State} (h : isNumeric f = false ∨ (slotOf s m f).state ≠ .taken) :
    slotStale m f s = s :=
  if_neg fun hcan => by
    obtain ⟨hnum, htaken⟩ := (canStale_iff _ _).mp hcan
    rw [hnum] at h
    exact h.elim (by decide) fun hne => hne htaken

theorem slotStale_of {m : Master} {f : Fn} {s : State} (hnum : isNumeric f = true) (htaken : (slotOf s m f).state = .taken) :
    slotStale m f s = resolve f false (if m = .companion then endGrant .stale f (setSlot s m f (staleSlot s m f))
      else setSlot s m f (staleSlot s m f)) :=
  if_pos ((canStale_iff _ _).mpr ⟨hnum, htaken⟩)

/-- A slot goes STALE that carries no grant: its function is resolved without it. -/
theorem slotStale_of_free {m : Master} {f : Fn} {s : State} (hnum : isNumeric f = true) (htaken : (slotOf s m f).state = .taken)
    (hfree : m = .radio ∨ (grantOf s f).held = none) :
    slotStale m f s = resolve f false (setSlot s m f (staleSlot s m f)) := by
  rw [slotStale_of hnum htaken]
  obtain rfl | hnone := hfree
  · rfl
  · have hnone' : (grantOf (setSlot s m f (staleSlot s m f)) f).held.isSome = false := by
      rw [(setSlot_frame s m f _).grantOf (by decide), hnone]
      rfl
    rw [endGrant_of_none hnone', ite_self]

theorem slotStale_of_held {f : Fn} {s : State} (hnum : isNumeric f = true) (htaken : (slotOf s .companion f).state = .taken) :
    slotStale .companion f s = resolve f false (endGrant .stale f (setSlot s .companion f (staleSlot s .companion f))) := by
  rw [slotStale_of hnum htaken, if_pos rfl]

theorem untouched_setSlot {f g : Fn} (h : g ≠ f) (m : Master) (x : Slot) (s : State) : Untouched g s (setSlot s m f x) where
  deciders := by
    have hframe := setSlot_frame s m f x
    refine ⟨congrArg Resolver.lockout (hframe .resolver (by decide)), by rw [hframe.grantOf (by decide)],
      hframe.present (by decide) (by decide), fun m' => ?_, fun m' => by rw [slotOf_setSlot_of_fn_ne s m m' h],
      hframe .profile (by decide)⟩
    unfold usable
    rw [slotOf_setSlot_of_fn_ne s m m' h, hframe.fnMask (by decide)]
  eff := (setSlot_frame s m f x).effOf (by decide) g
  grant := (setSlot_frame s m f x).grantOf (by decide) g
  slots m' := slotOf_setSlot_of_fn_ne s m m' h x
  busy := consumerBusy_setSlot s m f g x

theorem isNumeric_ne_steermode {f : Fn} (h : isNumeric f = true) : f ≠ .steermode := fun hf => by
  rw [hf] at h
  exact absurd h (by decide)

/-- The function of a slot gone STALE: resolved from its entry as it stood, with its grant ended where the slot carried it. -/
theorem visited_slotStale {m : Master} {f : Fn} {s : State} (hnum : isNumeric f = true) (htaken : (slotOf s m f).state = .taken) :
    ∃ u, effOf u f = effOf s f ∧ slotOf u m f = staleSlot s m f ∧ (∀ m', m' ≠ m → slotOf u m' f = slotOf s m' f)
      ∧ (m = .companion → (grantOf s f).held.isSome = true → grantOf u f = ⟨none, some .stale⟩)
      ∧ (m = .radio ∨ (grantOf s f).held = none → grantOf u f = grantOf s f)
      ∧ ResolvedOnce f false u (slotStale m f s) := by
  have hfree (u : State) : consumerBusy u f = false := consumerBusy_of_ne (isNumeric_ne_steermode hnum) u
  have heff : effOf (setSlot s m f (staleSlot s m f)) f = effOf s f := (setSlot_frame s m f _).effOf (by decide) f
  have hgrant : grantOf (setSlot s m f (staleSlot s m f)) f = grantOf s f := (setSlot_frame s m f _).grantOf (by decide) f
  by_cases hheld : m = .companion ∧ (grantOf s f).held.isSome = true
  · obtain ⟨rfl, hheld⟩ := hheld
    refine ⟨setGrant (setSlot s .companion f (staleSlot s .companion f)) f ⟨none, some .stale⟩, heff,
      slotOf_setSlot_same s .companion f _, fun m' hm => slotOf_setSlot_of_master_ne s hm f f _, fun _ _ => grantOf_setGrant_same ..,
      fun h => ?_, ?_⟩
    · obtain hm | hnone := h
      · cases hm
      · rw [hnone] at hheld
        cases hheld
    · rw [slotStale_of_held hnum htaken]
      exact ((visited_endGrant (by rw [hgrant]; exact hheld)).again (visited_resolve f false _)).free (hfree _)
  · have hno : m = .radio ∨ (grantOf s f).held = none := by
      cases m with
      | radio => exact .inl rfl
      | companion => exact .inr (by simpa using hheld)
    refine ⟨setSlot s m f (staleSlot s m f), heff, slotOf_setSlot_same .., fun m' hm => slotOf_setSlot_of_master_ne s hm f f _,
      fun hm h => absurd ⟨hm, h⟩ hheld, fun _ => hgrant, ?_⟩
    rw [slotStale_of_free hnum htaken hno]
    exact resolvedOnce_resolve (hfree _) false

theorem untouched_slotStale {f g : Fn} (h : g ≠ f) (m : Master) (s : State) : Untouched g s (slotStale m f s) := by
  by_cases hcan : isNumeric f = true ∧ (slotOf s m f).state = .taken
  · have hset := untouched_setSlot h m (staleSlot s m f) s
    rw [slotStale_of hcan.1 hcan.2]
    split
    · exact (hset.trans (untouched_endGrant h _ _)).trans (untouched_resolve h false _)
    · exact hset.trans (untouched_resolve h false _)
  · rw [slotStale_of_not ((not_and_or.mp hcan).imp_left (by simp))]
    exact .refl g s

theorem usable_of_stale {s : State} {m : Master} {f : Fn} (h : (slotOf s m f).state = .stale) : usable s m f = false := by
  simp [usable, h]

theorem raised_slotStale {f : Fn} {s : State} (hnum : isNumeric f = true) (htaken : (slotOf s .companion f).state = .taken)
    (hheld : (grantOf s f).held.isSome = true) : Raised .grantEnded s (slotStale .companion f s) := by
  have hframe := setSlot_frame s .companion f (staleSlot s .companion f)
  have hstill : (grantOf (setSlot s .companion f (staleSlot s .companion f)) f).held.isSome = true := by
    rw [hframe.grantOf (by decide)]
    exact hheld
  rw [slotStale_of_held hnum htaken]
  exact ((raised_endGrant hstill).of_profile (hframe .profile (by decide))).stay (noticesStay_resolve f false _)

/-- Settles O26: the slot gone STALE is resolved once, from the state without the slot and the grant it carried. -/
theorem slotGoesStale : Obligations.SlotGoesStale := by
  unfold Obligations.SlotGoesStale
  intro s m f
  refine ⟨fun hnum htaken => ?_, fun h => congrArg Host.Outcome.next (slotStale_of_not h)⟩
  obtain ⟨u, heff, hslot, _, hended, hstands, honce⟩ := visited_slotStale hnum htaken
  have hstale : slotOf (slotStale m f s) m f = staleSlot s m f := by
    rw [honce.slots, hslot]
    exact takenSlot_of_not_fresh (fun h => nomatch h)
  refine ⟨slotStale m f s, rfl, by rw [hstale]; rfl, by rw [hstale]; rfl, by rw [hstale]; rfl, by rw [hstale]; rfl, ?_, ?_, ?_, ?_,
    fun g hg => ?_, fun hfree => ?_, fun m' g hg => (untouched_slotStale hg m s).slots m', slotStale_frame m f s⟩
  · exact usable_of_stale (by rw [hstale]; rfl)
  · intro hm hheld
    subst hm
    exact ⟨honce.grant.trans (hended rfl hheld), raised_slotStale hnum htaken hheld⟩
  · exact fun h => honce.grant.trans (hstands h)
  · rw [← heff]
    exact honce.resolved
  · exact ⟨(untouched_slotStale hg m s).eff, (untouched_slotStale hg m s).grant⟩
  · rw [slotStale_of_free hnum htaken hfree]
    have hover := handedOver_setSlot (f := f) (s := s) (.inl (isNumeric_ne_steermode hnum)) m (staleSlot s m f) false
    exact ⟨hover.blocks, hover.underlying, hover.raises⟩

end Sys2Proof.Machine
end

section
/-! PROOFS. A master that returns, in the words of the rules (R2, R3, R7). -/
namespace Sys2Proof.Machine

theorem slotOf_clearMark (m : Master) (f : Fn) (s : State) (m' : Master) (g : Fn) : slotOf (clearMark m f s) m' g =
    if m' = m ∧ g = f then { slotOf s m' g with confirmed := false } else slotOf s m' g := by
  rw [clearMark, slotOf_setSlot]
  by_cases h : m' = m ∧ g = f
  · obtain ⟨rfl, rfl⟩ := h
    rw [if_pos ⟨rfl, rfl⟩]
  · rw [if_neg h, if_neg h]

theorem hasMark_iff (f : Fn) : hasMark f = true ↔ f = .drive ∨ f = .winch := by cases f <;> decide

theorem slotOf_clearMarks (m : Master) (s : State) (m' : Master) (f : Fn) :
    slotOf (clearMarks m s) m' f = unconfirmed m s m' f := by
  rw [clearMarks, slotOf_clearMark, slotOf_clearMark]
  unfold unconfirmed
  by_cases hdrive : f = .drive
  · subst hdrive
    by_cases hm : m' = m
    · simp [hm, hasMark]
    · simp [hm]
  · by_cases hwinch : f = .winch
    · subst hwinch
      by_cases hm : m' = m
      · simp [hm, hasMark]
      · simp [hm]
    · have hno : ¬hasMark f = true := fun h => ((hasMark_iff f).mp h).elim hdrive hwinch
      simp [hdrive, hwinch, hno]

/-- A state whose marks of a master are cleared, and whose entries, grants and steering are as they were. -/
structure MarksCleared (m : Master) (s u : State) : Prop where
  resolver : u.resolver = s.resolver
  steering : u.steering = s.steering
  slots : ∀ m' f, slotOf u m' f = unconfirmed m s m' f

theorem MarksCleared.eff {m : Master} {s u : State} (h : MarksCleared m s u) (f : Fn) : effOf u f = effOf s f :=
  congrArg (fun r : Resolver => r.eff.get f) h.resolver

theorem MarksCleared.grant {m : Master} {s u : State} (h : MarksCleared m s u) (f : Fn) : grantOf u f = grantOf s f :=
  congrArg (fun r : Resolver => r.grants.get f) h.resolver

theorem MarksCleared.busy {m : Master} {s u : State} (h : MarksCleared m s u) (f : Fn) : consumerBusy u f = consumerBusy s f :=
  consumerBusy_congr (congrArg Steering.state h.steering)

/-- All functions are resolved once the marks are cleared: the master returns (R2, R3, R7). -/
theorem MarksCleared.masterReturns {m : Master} {s u : State} (h : MarksCleared m s u) :
    MasterReturns m s (resolveList Fn.all (losesMark m s) u) := by
  have hvisited (f : Fn) : Visited f (losesMark m s f) u (resolveList Fn.all (losesMark m s) u) :=
    visited_resolveList Fn.nodup_all (Fn.mem_all f) _ u
  exact ⟨resolvedWhere_of_visited fun f => ⟨u, h.eff f, fun m' => h.slots m' f, h.busy f, hvisited f⟩,
    fun f => (hvisited f).grant.trans (h.grant f)⟩

theorem losesMark_steermode (m : Master) (s : State) : losesMark m s .steermode = false := rfl

/-- The functions whose mark was cleared are resolved, and no other (R26). -/
theorem MarksCleared.resolvedMarks {m : Master} {s u : State} (h : MarksCleared m s u) :
    ResolvedWhere (fun f => losesMark m s f = true) (losesMark m s) (unconfirmed m s) s (resolveMarks (losesMark m s) u)
      ∧ ∀ f, grantOf (resolveMarks (losesMark m s) u) f = grantOf s f := by
  have hon {f : Fn} (hf : losesMark m s f = true) : Visited f (losesMark m s f) u (resolveMarks (losesMark m s) u) :=
    visited_resolveList (Fn.nodup_all.filter _) (List.mem_filter.mpr ⟨Fn.mem_all f, hf⟩) _ u
  have hoff {f : Fn} (hf : ¬losesMark m s f = true) : Untouched f u (resolveMarks (losesMark m s) u) :=
    untouched_resolveList (fun hmem => hf (List.mem_filter.mp hmem).2) _ u
  refine ⟨resolvedWhere_of fun f => ⟨u, h.eff f, fun m' => h.slots m' f, fun hf => (hon hf).free ?_, hoff⟩, fun f => ?_⟩
  · refine consumerBusy_of_ne (fun hsteer => ?_) u
    rw [hsteer, losesMark_steermode] at hf
    exact absurd hf (by decide)
  · by_cases hf : losesMark m s f = true
    · exact (hon hf).grant.trans (h.grant f)
    · exact (hoff hf).grant.trans (h.grant f)

theorem marksCleared_clearMarks {m : Master} {s u : State} (hslots : u.slots = s.slots) (hresolver : u.resolver = s.resolver)
    (hsteering : u.steering = s.steering) : MarksCleared m s (clearMarks m u) := by
  have hkeptResolver : (clearMarks m u).resolver = u.resolver := clearMarks_frame m u .resolver (by decide)
  have hkeptSteering : (clearMarks m u).steering = u.steering := clearMarks_frame m u .steering (by decide)
  refine ⟨hkeptResolver.trans hresolver, hkeptSteering.trans hsteering, fun m' f => ?_⟩
  rw [slotOf_clearMarks]
  unfold unconfirmed slotOf
  rw [hslots]

theorem MarksCleared.raise {m : Master} {s u : State} (h : MarksCleared m s u) (k : Notice) : MarksCleared m s (raise k u) :=
  ⟨h.resolver, h.steering, h.slots⟩

/-! ### The companion is heard -/

theorem presenceChanged_of_present {m : Master} {s : State} (h : present s m = true) (marks : Fn → Bool) :
    presenceChanged m marks s = resolveList Fn.all marks s := by
  unfold presenceChanged
  dsimp only
  rw [if_pos h]

theorem makeLive_companion_eq {s : State} (h : s.comp.state ≠ .live) (hbarred : s.comp.barred = false) :
    makeLive .companion s =
      resolveList Fn.all (losesMark .companion s) (clearMarks .companion (loadTimer .companion s)) := by
  have hpresent : present (clearMarks .companion (loadTimer .companion s)) .companion = true := by
    have hcomp : (clearMarks .companion (loadTimer .companion s)).comp = _ := clearMarks_frame .companion _ .comp (by decide)
    rw [present, hcomp]
    show (true && !s.comp.barred) = true
    rw [hbarred]
    rfl
  rw [makeLive, if_neg (show ¬ctxState s .companion = .live from h)]
  show (if present (clearMarks .companion (loadTimer .companion s)) .companion then _ else _) = _
  rw [if_pos hpresent]
  exact presenceChanged_of_present hpresent _

theorem loadTimer_frame_companion (s : State) : SameExcept [.comp] s (loadTimer .companion s) := setComp_frame_only s _

/-- A companion that is not barred is heard (R7). -/
theorem demandHeard_makeLive {s : State} (hbarred : s.comp.barred = false) : DemandHeard s (makeLive .companion s) := by
  refine ⟨makeLive_companion_comp s, fun hlive => ?_, fun hnot => ?_⟩
  · rw [makeLive_of_live hlive]
    exact heard_frame s
  · rw [makeLive_companion_eq hnot hbarred]
    have hcleared : MarksCleared .companion s (clearMarks .companion (loadTimer .companion s)) :=
      marksCleared_clearMarks rfl rfl rfl
    refine ⟨hcleared.masterReturns, ?_⟩
    exact (((loadTimer_frame_companion s).mono (by decide)).trans ((clearMarks_frame _ _).mono (by decide))).trans
      ((resolveList_frame _ _ _).mono (by decide))

end Sys2Proof.Machine
end

section
/-! PROOFS. DEMAND: its pairs in turn, each written or refused (R28). -/
namespace Sys2Proof.Machine

/-! ### One pair -/

/-- One pair written or refused, without the result it is answered with. -/
def pairStep (s : State) (x : DemandPair) : State := (takePair ⟨s, []⟩ x).state

theorem checkPairOf_cases (s : State) (x : DemandPair) :
    (∃ f, fnOfNumber x.fn.toNat = some f ∧ checkPairOf s x = .ok f ∧ pairResult s x = 0
        ∧ (isNumeric f = true ∨ InRange f x.value.toInt))
      ∨ ∃ c, checkPairOf s x = .error c ∧ pairResult s x = causeCode c := by
  unfold checkPairOf pairResult
  cases hfn : fnOfNumber x.fn.toNat with
  | none => exact .inr ⟨.value, rfl, rfl⟩
  | some f =>
    dsimp only
    by_cases hmask : (fnMask s .companion).getLsbD (fnNumber f) = true
    · rw [hmask]
      by_cases hout : isNumeric f = false ∧ (x.value.toInt < fnLow f ∨ fnHigh f < x.value.toInt)
      · refine .inr ⟨.value, ?_, ?_⟩
        · obtain ⟨hnum, hlow | hhigh⟩ := hout
          · simp [pairValue, hnum, hlow]
          · simp [pairValue, hnum, hhigh]
        · simp [hout]
      · refine .inl ⟨f, rfl, ?_, ?_, ?_⟩
        · rw [not_and_or, Bool.not_eq_false, not_or, not_lt, not_lt] at hout
          obtain hnum | ⟨hlow, hhigh⟩ := hout
          · simp [hnum]
          · simp [pairValue, not_lt.mpr hlow, not_lt.mpr hhigh]
        · simp [hout]
        · rw [not_and_or, Bool.not_eq_false, not_or, not_lt, not_lt] at hout
          exact hout
    · rw [Bool.not_eq_true] at hmask
      exact .inr ⟨.reach, by simp [hmask], by simp [hmask]⟩

theorem causeCode_pos (c : Cause) : causeCode c ≠ 0 ∧ causeCode c < 14 := by cases c <;> decide

theorem putU_causeCode (c : Cause) : putU 1 (causeCode c) = [BitVec.ofNat 8 (causeCode c)] := by cases c <;> decide

theorem takePair_eq (r : PairRun) (x : DemandPair) :
    takePair r x = ⟨pairStep r.state x, r.results ++ [BitVec.ofNat 8 (pairResult r.state x)]⟩ := by
  unfold pairStep takePair
  obtain ⟨f, _, hcheck, hresult, _⟩ | ⟨c, hcheck, hresult⟩ := checkPairOf_cases r.state x
  · rw [hcheck, hresult]
    rfl
  · rw [hcheck, hresult]
    exact congrArg (fun l => PairRun.mk (addCause c r.state) (r.results ++ l)) (putU_causeCode c)

theorem pairStep_of_ok {s : State} {x : DemandPair} {f : Fn} (h : checkPairOf s x = .ok f) :
    pairStep s x = writeSlot .companion f x.value.toInt s := by
  unfold pairStep takePair
  rw [h]
  rfl

theorem pairStep_of_error {s : State} {x : DemandPair} {c : Cause} (h : checkPairOf s x = .error c) :
    pairStep s x = addCause c s := by
  unfold pairStep takePair
  rw [h]

theorem pairTaken_pairStep (s : State) (x : DemandPair) : PairTaken x s (pairStep s x) := by
  obtain ⟨f, hfn, hcheck, hresult, hrange⟩ | ⟨c, hcheck, hresult⟩ := checkPairOf_cases s x
  · refine ⟨fun h => absurd hresult h, fun g hg _ => ?_⟩
    obtain rfl : f = g := Option.some_inj.mp (hfn.symm.trans hg)
    rw [pairStep_of_ok hcheck]
    exact slotWritten_writeSlot hrange .companion s
  · refine ⟨fun _ => ?_, fun g _ h => absurd (hresult.symm.trans h) (causeCode_pos c).1⟩
    rw [pairStep_of_error hcheck, hresult]
    exact ⟨rfl, setComp_frame_only s _⟩

theorem pairStep_frame (s : State) (x : DemandPair) : SameExcept contextTouches s (pairStep s x) := takePair_frame ⟨s, []⟩ x

theorem pairResult_congr {s t : State} (h : t.profile = s.profile) (x : DemandPair) : pairResult t x = pairResult s x := by
  unfold pairResult fnMask
  rw [h]

/-! ### All pairs -/

theorem takePairs_eq (pairs : List DemandPair) (s : State) :
    takePairs pairs s = ⟨pairs.foldl pairStep s, pairs.map fun x => BitVec.ofNat 8 (pairResult s x)⟩ := by
  have hfold : ∀ (xs : List DemandPair) (r : PairRun), r.state.profile = s.profile →
      xs.foldl takePair r = ⟨xs.foldl pairStep r.state, r.results ++ xs.map fun x => BitVec.ofNat 8 (pairResult s x)⟩ := by
    intro xs
    induction xs with
    | nil => exact fun r _ => by rw [List.map_nil, List.append_nil]; rfl
    | cons x xs ih =>
      intro r hprofile
      have hkept : (pairStep r.state x).profile = r.state.profile := pairStep_frame r.state x .profile (by decide)
      rw [List.foldl_cons, takePair_eq, pairResult_congr hprofile]
      refine (ih ⟨pairStep r.state x, r.results ++ [BitVec.ofNat 8 (pairResult s x)]⟩ (hkept.trans hprofile)).trans ?_
      rw [List.append_assoc]
      rfl
  exact hfold pairs ⟨s, []⟩ rfl

theorem inTurn_foldl {α : Type} {one : α → State → State → Prop} {step : State → α → State}
    (h : ∀ s x, one x s (step s x)) : ∀ (xs : List α) (s : State), InTurn one xs s (xs.foldl step s)
  | [], _ => rfl
  | x :: xs, s => ⟨step s x, h s x, inTurn_foldl h xs _⟩

/-- A pair that does not write a function's slot leaves it (R28). -/
theorem PairTaken.other {x : DemandPair} {s t : State} {f : Fn} (h : PairTaken x s t)
    (hno : fnOfNumber x.fn.toNat = some f → pairResult s x ≠ 0) : slotOf t .companion f = slotOf s .companion f := by
  obtain ⟨hrefused, hwritten⟩ := h
  by_cases hresult : pairResult s x = 0
  · obtain ⟨g, hg, _⟩ | ⟨c, _, hcause⟩ := checkPairOf_cases s x
    · have hne : f ≠ g := fun hfg => hno (hfg ▸ hg) hresult
      obtain ⟨_, _, hother, _⟩ := hwritten g hg hresult
      exact hother .companion f hne
    · exact absurd (hcause.symm.trans hresult) (causeCode_pos c).1
  · exact (hrefused hresult).2.slotOf (by decide) .companion f

/-- A slot write on a function without a busy consumer, of a slot that does not wait, leaves it TAKEN (R21, R22). -/
theorem SlotWritten.taken {m : Master} {f : Fn} {raw : Int} {s t : State} (h : SlotWritten m f raw s t) (hf : f ≠ .steermode)
    (hfresh : (slotOf s m f).state ≠ .fresh) :
    (slotOf t m f).value = some (max (fnLow f) (min (fnHigh f) raw)) ∧ (slotOf t m f).age = 0
      ∧ (slotOf t m f).state = .taken := by
  obtain ⟨hslot, _⟩ := h
  have hbusy : ¬(f = .steermode ∧ s.steering.state = .slewing) := fun hb => hf hb.1
  rw [hslot, slotAfter, if_neg fun hw => hbusy hw.1, if_neg hbusy]
  refine ⟨rfl, rfl, ?_⟩
  cases hstate : (slotOf s m f).state with
  | fresh => exact absurd hstate hfresh
  | _ => simp

/-- A pair leaves no FRESH slot where there was none. -/
theorem PairTaken.notFresh {x : DemandPair} {s t : State} {f : Fn} (h : PairTaken x s t) (hf : f ≠ .steermode)
    (hfresh : (slotOf s .companion f).state ≠ .fresh) : (slotOf t .companion f).state ≠ .fresh := by
  by_cases hwrites : fnOfNumber x.fn.toNat = some f ∧ pairResult s x = 0
  · rw [((h.2 f hwrites.1 hwrites.2).taken hf hfresh).2.2]
    decide
  · rw [h.other fun hfn hresult => hwrites ⟨hfn, hresult⟩]
    exact hfresh

theorem foldl_pairStep_other {f : Fn} : ∀ {pairs : List DemandPair} {s : State},
    (∀ x ∈ pairs, fnOfNumber x.fn.toNat = some f → pairResult s x ≠ 0) →
      slotOf (pairs.foldl pairStep s) .companion f = slotOf s .companion f
  | [], _, _ => rfl
  | x :: xs, s, h => by
    have hprofile : (pairStep s x).profile = s.profile := pairStep_frame s x .profile (by decide)
    rw [List.foldl_cons, foldl_pairStep_other fun y hy => by
      rw [pairResult_congr hprofile]
      exact h y (List.mem_cons_of_mem _ hy)]
    exact (pairTaken_pairStep s x).other (h x List.mem_cons_self)

theorem foldl_pairStep_notFresh {f : Fn} (hf : f ≠ .steermode) : ∀ (pairs : List DemandPair) (s : State),
    (slotOf s .companion f).state ≠ .fresh → (slotOf (pairs.foldl pairStep s) .companion f).state ≠ .fresh
  | [], _, h => h
  | x :: xs, s, h => foldl_pairStep_notFresh hf xs _ ((pairTaken_pairStep s x).notFresh hf h)

theorem foldl_pairStep_frame (pairs : List DemandPair) (s : State) : SameExcept contextTouches s (pairs.foldl pairStep s) :=
  SameExcept.foldl pairStep_frame pairs s

/-- The last pair of a function that is not refused leaves its value (R28). -/
theorem foldl_pairStep_last {f : Fn} {x : DemandPair} {before after : List DemandPair} {s : State} (hf : f ≠ .steermode)
    (hfn : fnOfNumber x.fn.toNat = some f) (hfresh : (slotOf s .companion f).state ≠ .fresh) (hresult : pairResult s x = 0)
    (hafter : ∀ y ∈ after, fnOfNumber y.fn.toNat = some f → pairResult s y ≠ 0) :
    let t := (before ++ x :: after).foldl pairStep s
    (slotOf t .companion f).value = some (max (fnLow f) (min (fnHigh f) x.value.toInt))
      ∧ (slotOf t .companion f).age = 0 ∧ (slotOf t .companion f).state = .taken := by
  have hbefore : (before.foldl pairStep s).profile = s.profile := foldl_pairStep_frame before s .profile (by decide)
  have hstep : (pairStep (before.foldl pairStep s) x).profile = (before.foldl pairStep s).profile :=
    pairStep_frame _ x .profile (by decide)
  have hprofile : (pairStep (before.foldl pairStep s) x).profile = s.profile := hstep.trans hbefore
  intro t
  have ht : slotOf t .companion f = slotOf (pairStep (before.foldl pairStep s) x) .companion f := by
    show slotOf ((before ++ x :: after).foldl pairStep s) .companion f = _
    rw [List.foldl_append, List.foldl_cons, foldl_pairStep_other fun y hy => by
      rw [pairResult_congr hprofile]
      exact hafter y hy]
  rw [ht]
  exact ((pairTaken_pairStep (before.foldl pairStep s) x).2 f hfn (by rw [pairResult_congr hbefore, hresult])).taken hf
    (foldl_pairStep_notFresh hf before s hfresh)

/-- The companion's record after the pairs: the causes of the refused ones joined its set (R28). -/
theorem foldl_pairStep_comp : ∀ (pairs : List DemandPair) (s : State),
    (pairs.foldl pairStep s).comp = { s.comp with causes := (pairs.foldl pairStep s).comp.causes }
      ∧ ∀ c, (pairs.foldl pairStep s).comp.causes.getLsbD c = true ↔
          s.comp.causes.getLsbD c = true ∨ c ≠ 0 ∧ ∃ x ∈ pairs, pairResult s x = c
  | [], s => ⟨rfl, fun c => by simp⟩
  | x :: xs, s => by
    obtain ⟨hcomp, hcauses⟩ := foldl_pairStep_comp xs (pairStep s x)
    have hprofile : (pairStep s x).profile = s.profile := pairStep_frame s x .profile (by decide)
    simp only [pairResult_congr hprofile] at hcauses
    rw [List.foldl_cons]
    obtain ⟨f, _, hcheck, hresult, _⟩ | ⟨c, hcheck, hresult⟩ := checkPairOf_cases s x
    · have hkept : (pairStep s x).comp = s.comp := by
        rw [pairStep_of_ok hcheck]
        exact writeSlot_frame _ _ _ s .comp (by decide)
      rw [hkept] at hcomp hcauses
      refine ⟨hcomp, fun c => (hcauses c).trans ?_⟩
      simp only [List.mem_cons, exists_eq_or_imp, hresult]
      constructor
      · rintro (h | ⟨h, hx⟩)
        · exact .inl h
        · exact .inr ⟨h, .inr hx⟩
      · rintro (h | ⟨h, h0 | hx⟩)
        · exact .inl h
        · exact absurd h0.symm h
        · exact .inr ⟨h, hx⟩
    · have hkept : (pairStep s x).comp = { s.comp with causes := addMember s.comp.causes (causeCode c) } := by
        rw [pairStep_of_error hcheck]
        rfl
      rw [hkept] at hcomp hcauses
      refine ⟨hcomp, fun d => (hcauses d).trans ?_⟩
      simp only [List.mem_cons, exists_eq_or_imp, hresult]
      have hmember : (addMember s.comp.causes (causeCode c)).getLsbD d = true ↔
          s.comp.causes.getLsbD d = true ∨ d = causeCode c := by
        by_cases hd : d < 14
        · rw [getLsbD_addMember_eq _ _ hd]
          simp
        · rw [BitVec.getLsbD_of_ge _ _ (Nat.le_of_not_lt hd), BitVec.getLsbD_of_ge _ _ (Nat.le_of_not_lt hd)]
          simp only [Bool.false_eq_true, false_or, false_iff]
          exact fun h => hd (h ▸ (causeCode_pos c).2)
      rw [hmember]
      constructor
      · rintro ((h | h) | ⟨h, hx⟩)
        · exact .inl h
        · exact .inr ⟨h ▸ (causeCode_pos c).1, .inl h.symm⟩
        · exact .inr ⟨h, .inr hx⟩
      · rintro (h | ⟨h, h0 | hx⟩)
        · exact .inl (.inl h)
        · exact .inl (.inr h0.symm)
        · exact .inr ⟨h, hx⟩

/-! ### A DEMAND that is taken -/

/-- What a DEMAND from a companion that is not barred leaves (R28). -/
def demanded (pairs : List DemandPair) (s : State) : State :=
  answer .demand (pairs.map fun x => BitVec.ofNat 8 (pairResult s x)) (pairs.foldl pairStep (makeLive .companion s))

theorem makeLive_profile (m : Master) (s : State) : (makeLive m s).profile = s.profile :=
  makeLive_frame m s .profile (by decide)

theorem exec_demand {s : State} (hfree : CellsFree s) (hbarred : s.comp.barred = false) {pairs : List DemandPair}
    (hone : 1 ≤ pairs.length) (hfew : pairs.length ≤ 7) : exec (.demand pairs) s = .next (demanded pairs s) := by
  have hbusy : ¬cellsBusy s = true := by rw [cellsBusy_eq_false hfree]; decide
  have hsized : (Request.demand pairs).sized = true := by
    simp [Request.sized, pairsFit, hone, hfew]
  have hstill : ¬(makeLive .companion s).comp.barred = true := by
    rw [makeLive_companion_comp, hbarred]
    decide
  show Host.Outcome.next (takeNamed (.demand pairs) s) = _
  unfold takeNamed takeRequest sizedRequest
  rw [if_neg hbusy, if_pos hsized]
  show Host.Outcome.next (runDemand pairs (makeLive .companion s)) = _
  unfold runDemand
  rw [if_neg hstill, takePairs_eq]
  simp only [pairResult_congr (makeLive_profile .companion s)]
  rfl

theorem demanded_frame (pairs : List DemandPair) (s : State) :
    SameExcept [.comp, .compPort] (pairs.foldl pairStep (makeLive .companion s)) (demanded pairs s) := answer_frame _ _ _

theorem ResolvedWhere.slot_of_notFresh {which : Fn → Prop} {marks : Fn → Bool} {slots : Master → Fn → Slot} {s t : State}
    (h : ResolvedWhere which marks slots s t) {m : Master} {f : Fn} (hfresh : (slots m f).state ≠ .fresh) :
    slotOf t m f = slots m f := ((h f).2.2 m).2 (.inr hfresh)

theorem ResolvedWhere.slot_cases {which : Fn → Prop} {marks : Fn → Bool} {slots : Master → Fn → Slot} {s t : State}
    (h : ResolvedWhere which marks slots s t) (m : Master) (f : Fn) :
    slotOf t m f = slots m f ∨ slotOf t m f = { slots m f with state := .taken } := by
  obtain ⟨htakes, hstands⟩ := (h f).2.2 m
  by_cases hwhich : which f
  · by_cases hfresh : (slots m f).state = .fresh
    · exact .inr (htakes hwhich hfresh)
    · exact .inl (hstands (.inr hfresh))
  · exact .inl (hstands (.inl hwhich))

/-- The slots with a master's marks cleared differ from the slots in those marks alone. -/
theorem unconfirmed_eq (m : Master) (s : State) (m' : Master) (f : Fn) : unconfirmed m s m' f =
    { slotOf s m' f with
      confirmed := if m' = m ∧ hasMark f = true then false else (slotOf s m' f).confirmed } := by
  unfold unconfirmed
  by_cases h : m' = m ∧ hasMark f = true
  · rw [if_pos h, if_pos h]
  · rw [if_neg h, if_neg h]

/-- A companion slot once the companion is heard: on its return the old mark does not count (R7). -/
theorem slotOf_heard {s : State} (hbarred : s.comp.barred = false) {f : Fn} (hfresh : (slotOf s .companion f).state ≠ .fresh) :
    slotOf (makeLive .companion s) .companion f =
      { slotOf s .companion f with
        confirmed := if s.comp.state = .live ∨ hasMark f = false then (slotOf s .companion f).confirmed else false } := by
  obtain ⟨_, hlive, hreturns⟩ := demandHeard_makeLive hbarred
  by_cases h : s.comp.state = .live
  · rw [if_pos (.inl h)]
    exact (hlive h).slotOf (by decide) .companion f
  · have hslot := (hreturns h).1.1.slot_of_notFresh (m := .companion) (f := f) (by rw [unconfirmed_eq]; exact hfresh)
    rw [hslot, unconfirmed_eq]
    cases hmark : hasMark f with
    | true => simp [h]
    | false => simp

/-- A return moves no value and no sequence of a slot. -/
theorem value_heard {s : State} (hbarred : s.comp.barred = false) (f : Fn) :
    (slotOf (makeLive .companion s) .companion f).value = (slotOf s .companion f).value
      ∧ (slotOf (makeLive .companion s) .companion f).seq = (slotOf s .companion f).seq := by
  obtain ⟨_, hlive, hreturns⟩ := demandHeard_makeLive hbarred
  by_cases h : s.comp.state = .live
  · rw [(hlive h).slotOf (by decide) .companion f]
    exact ⟨rfl, rfl⟩
  · obtain heq | heq := (hreturns h).1.1.slot_cases .companion f
    · rw [heq, unconfirmed_eq]
      exact ⟨rfl, rfl⟩
    · rw [heq, unconfirmed_eq]
      exact ⟨rfl, rfl⟩

/-! ### A slew goes on -/

theorem slewing_resolve {s : State} (h : s.steering.state = .slewing) (f : Fn) (byMark : Bool) :
    (resolve f byMark s).steering.state = .slewing := by
  by_cases hf : f = .steermode
  · rw [resolve_of_busy ((consumerBusy_iff s f).mpr ⟨hf, h⟩)]
    exact h
  · rw [steering_state_resolve hf]
    exact h

theorem slewing_resolveList (marks : Fn → Bool) : ∀ (fs : List Fn) (s : State), s.steering.state = .slewing →
    (resolveList fs marks s).steering.state = .slewing
  | [], _, h => h
  | f :: fs, _, h => slewing_resolveList marks fs _ (slewing_resolve h f (marks f))

theorem slewing_heard {s : State} (hbarred : s.comp.barred = false) (h : s.steering.state = .slewing) :
    (makeLive .companion s).steering.state = .slewing := by
  by_cases hlive : s.comp.state = .live
  · rw [makeLive_of_live hlive]
    exact h
  · rw [makeLive_companion_eq hlive hbarred]
    refine slewing_resolveList _ _ _ ?_
    have hframe : (clearMarks .companion (loadTimer .companion s)).steering = s.steering :=
      clearMarks_frame .companion _ .steering (by decide)
    rw [hframe]
    exact h

theorem pairResult_eq_zero {s : State} {x : DemandPair} {f : Fn} (hfn : fnOfNumber x.fn.toNat = some f)
    (hmask : (fnMask s .companion).getLsbD (fnNumber f) = true) (hrange : isNumeric f = true ∨ InRange f x.value.toInt) :
    pairResult s x = 0 := by
  unfold pairResult
  rw [hfn]
  dsimp only
  rw [hmask, if_neg (by decide), if_neg]
  rintro ⟨hnum, hout⟩
  obtain hnum' | ⟨hlow, hhigh⟩ := hrange
  · rw [hnum] at hnum'
    exact absurd hnum' (by decide)
  · omega

/-- The last pair's slot, as a DEMAND of one pair leaves it. -/
theorem slotWritten_demanded {s : State} {x : DemandPair} {f : Fn} (hfn : fnOfNumber x.fn.toNat = some f)
    (hresult : pairResult s x = 0) :
    SlotWritten .companion f x.value.toInt (makeLive .companion s) (pairStep (makeLive .companion s) x) :=
  (pairTaken_pairStep _ x).2 f hfn (by rw [pairResult_congr (makeLive_profile .companion s), hresult])

end Sys2Proof.Machine
end

section
/-! PROOFS. What a DEMAND does (R28), and a write to a waiting slot (R23). -/
namespace Sys2Proof.Machine

/-- The slot that a DEMAND of one pair leaves, on a slot that does not wait. -/
theorem slotOf_demanded {s : State} (hbarred : s.comp.barred = false) {x : DemandPair} {f : Fn}
    (hfn : fnOfNumber x.fn.toNat = some f) (hresult : pairResult s x = 0) (hfresh : (slotOf s .companion f).state ≠ .fresh) :
    let u := makeLive .companion s
    let old := slotOf s .companion f
    let v : Int := max (fnLow f) (min (fnHigh f) x.value.toInt)
    let busy := f = .steermode ∧ u.steering.state = .slewing
    let handed := old.state ≠ .taken ∨ old.value ≠ some v ∨ newMark s f v (slotOf u .companion f) = true
    slotOf (demanded [x] s) .companion f =
      { old with
        value := some v, offered := some v, age := 0
        state := if handed ∧ busy then .fresh else .taken
        seq := if old.value = some v then old.seq else old.seq + 1
        confirmed := (slotOf u .companion f).confirmed
          || (hasMark f && decide (v.natAbs ≤ s.profile.drive.neutralBand)) } := by
  intro u old v busy handed
  have hprofile : u.profile = s.profile := makeLive_profile .companion s
  have hheard : slotOf u .companion f = _ := slotOf_heard hbarred hfresh
  obtain ⟨hslot, _⟩ := slotWritten_demanded hfn hresult
  have hsame : slotOf (demanded [x] s) .companion f = slotOf (pairStep u x) .companion f :=
    (demanded_frame [x] s).slotOf (by decide) .companion f
  have hwaits : ¬(busy ∧ (slotOf u .companion f).state = .fresh) := fun h => hfresh (by rw [← h.2, hheard])
  have hhanded : ((slotOf u .companion f).state = .empty ∨ (slotOf u .companion f).state = .stale
      ∨ (slotOf u .companion f).value ≠ some v ∨ newMark s f v (slotOf u .companion f) = true) ↔ handed := by
    rw [← or_assoc]
    refine or_congr ?_ (by rw [hheard])
    rw [hheard]
    show old.state = .empty ∨ old.state = .stale ↔ old.state ≠ .taken
    have hnot : old.state ≠ .fresh := hfresh
    cases hstate : old.state with
    | fresh => exact absurd hstate hnot
    | _ => simp
  have hmarks : newMark u f v (slotOf u .companion f) = newMark s f v (slotOf u .companion f) := by
    unfold newMark
    rw [hprofile]
  have hold : (slotOf u .companion f).state = old.state ∧ (slotOf u .companion f).value = old.value
      ∧ (slotOf u .companion f).seq = old.seq ∧ (slotOf u .companion f).superseded = old.superseded := by
    rw [hheard]
    exact ⟨rfl, rfl, rfl, rfl⟩
  obtain ⟨hstate, hvalue, hseq, hsuperseded⟩ := hold
  rw [hsame, hslot, slotAfter, if_neg hwaits, Slot.mk.injEq]
  refine ⟨rfl, ?_, rfl, by rw [hvalue, hseq], hsuperseded, rfl, by rw [hprofile]⟩
  have hunit : ((slotOf u .companion f).state = .empty ∨ (slotOf u .companion f).state = .stale
      ∨ (slotOf u .companion f).value ≠ some v ∨ newMark u f v (slotOf u .companion f) = true) ↔ handed := by
    rw [hmarks]
    exact hhanded
  refine (if_congr hunit rfl rfl).trans ?_
  by_cases hh : handed
  · rw [if_pos hh]
    exact if_congr ⟨fun hb => ⟨hh, hb⟩, And.right⟩ rfl rfl
  · rw [if_neg hh, if_neg fun h => hh h.1, hstate]
    exact not_not.mp fun hne => hh (.inl hne)

theorem newMark_steermode (s : State) (v : Int) (x : Slot) : newMark s .steermode v x = false := by
  unfold newMark
  rw [show hasMark .steermode = false from rfl, Bool.and_false, Bool.false_and]

theorem demanded_answered (pairs : List DemandPair) (s : State) :
    Answered .demand (pairs.map fun x => BitVec.ofNat 8 (pairResult s x)) s (demanded pairs s) := by
  refine answered_answer .demand _ ?_
  rw [(foldl_pairStep_comp pairs (makeLive .companion s)).1, makeLive_companion_comp]

theorem demanded_comp (pairs : List DemandPair) (s : State) :
    (demanded pairs s).comp.state = .live ∧ (demanded pairs s).comp.refused = s.comp.refused
      ∧ ∀ c, (demanded pairs s).comp.causes.getLsbD c = true ↔
          s.comp.causes.getLsbD c = true ∨ c ≠ 0 ∧ ∃ x ∈ pairs, pairResult s x = c := by
  obtain ⟨hcomp, hcauses⟩ := foldl_pairStep_comp pairs (makeLive .companion s)
  simp only [pairResult_congr (makeLive_profile .companion s), makeLive_companion_comp] at hcomp hcauses
  refine ⟨?_, ?_, hcauses⟩
  · show (pairs.foldl pairStep (makeLive .companion s)).comp.state = .live
    rw [hcomp]
  · show (pairs.foldl pairStep (makeLive .companion s)).comp.refused = _
    rw [hcomp]

theorem demanded_frame_request (pairs : List DemandPair) (s : State) : SameExcept requestTouches s (demanded pairs s) :=
  (((makeLive_frame .companion s).mono (by decide)).trans ((foldl_pairStep_frame pairs _).mono (by decide))).trans
    ((demanded_frame pairs s).mono (by decide))

/-- What a resolution says of its entry holds in every state with the same to decide and the same entry. -/
theorem Resolved.of_same {old : Eff} {byMark : Bool} {t u : State} {f : Fn} (h : Resolved old byMark t f)
    (hsame : SameDeciders f t u) (heff : effOf u f = effOf t f) : Resolved old byMark u f := by
  have hauth : authOf u f = authOf t f := by rw [authOf, hsame.profile]; rfl
  have hlock : locked u f = locked t f := by rw [locked, hsame.lockout]; rfl
  unfold Resolved Decides TrimmedValue Deciding at h ⊢
  simp only [hsame.present, hsame.usable, hsame.value, hsame.grant, hsame.profile, hauth, hlock, heff]
  exact h

/-- A slot write that the resolver does not take (R21, R45). -/
theorem SlotWritten.rests {m : Master} {f : Fn} {raw : Int} {s t : State} (h : SlotWritten m f raw s t)
    (hno : ¬((slotOf s m f).state = .empty ∨ (slotOf s m f).state = .stale
        ∨ (slotOf s m f).value ≠ some (max (fnLow f) (min (fnHigh f) raw))
        ∨ newMark s f (max (fnLow f) (min (fnHigh f) raw)) (slotOf s m f) = true) ∨ ¬Resolvable s f) :
    effOf t f = effOf s f ∧ SameExcept [.slots] s t := by
  obtain ⟨_, _, _, _, _, _, hrests, _⟩ := h
  exact hrests fun hresolves => hno.elim (fun h => h hresolves.1) fun h => h (not_and_or.mp hresolves.2)

/-- A slot write that the resolver takes (R21, R26, R40). -/
theorem SlotWritten.acts {m : Master} {f : Fn} {raw : Int} {s t : State} (h : SlotWritten m f raw s t)
    (hhanded : (slotOf s m f).state = .empty ∨ (slotOf s m f).state = .stale
        ∨ (slotOf s m f).value ≠ some (max (fnLow f) (min (fnHigh f) raw))
        ∨ newMark s f (max (fnLow f) (min (fnHigh f) raw)) (slotOf s m f) = true) (hfree : Resolvable s f) :
    Resolved (effOf s f) (newMark s f (max (fnLow f) (min (fnHigh f) raw)) (slotOf s m f)) t f
      ∧ HandsOver f s t ∧ UnderlyingHanded s t
      ∧ (LimitEntered s t → Raised .winchLimit s t) ∧ (¬LimitEntered s t → t.notices = s.notices) := by
  obtain ⟨_, _, _, _, _, hacts, _, _⟩ := h
  exact hacts ⟨hhanded, not_and_or.mpr hfree⟩

theorem SlotWritten.effOf_ne {m : Master} {f g : Fn} {raw : Int} {s t : State} (h : SlotWritten m f raw s t) (hg : g ≠ f) :
    effOf t g = effOf s g := by
  obtain ⟨_, _, _, _, heff, _⟩ := h
  exact heff g hg

/-- A STEERMODE pair under a slew: the entry stands, and the slew goes on (R45). -/
theorem steermode_demanded {s : State} (hbarred : s.comp.barred = false) {x : DemandPair}
    (hfn : fnOfNumber x.fn.toNat = some .steermode) (hresult : pairResult s x = 0)
    (hslew : (makeLive .companion s).steering.state = .slewing) :
    (demanded [x] s).steering.state = .slewing
      ∧ (s.steering.state = .slewing → effOf (demanded [x] s) .steermode = effOf s .steermode) := by
  obtain ⟨heff, hframe⟩ := (slotWritten_demanded hfn hresult).rests (.inr fun h => h.elim (fun h => h rfl) fun h => h hslew)
  have hafter := demanded_frame [x] s
  constructor
  · have hsteering : (demanded [x] s).steering = (pairStep (makeLive .companion s) x).steering := hafter .steering (by decide)
    have hkept : (pairStep (makeLive .companion s) x).steering = (makeLive .companion s).steering := hframe .steering (by decide)
    rw [hsteering, hkept]
    exact hslew
  · intro hbefore
    have hkept : effOf (makeLive .companion s) .steermode = effOf s .steermode := by
      obtain ⟨_, hlive, hreturns⟩ := demandHeard_makeLive hbarred
      by_cases h : s.comp.state = .live
      · exact (hlive h).effOf (by decide) .steermode
      · exact ((hreturns h).1.1 .steermode).2.1 fun hfree => hfree.elim (fun h => h rfl) fun h => h hbefore
    exact ((hafter.effOf (by decide) .steermode).trans heff).trans hkept

theorem sameDeciders_answer (k : Kind) (payload : List Byte) (f : Fn) (s : State) : SameDeciders f s (answer k payload s) :=
  ⟨rfl, rfl, fun m => by cases m <;> rfl, fun _ => rfl, fun _ => rfl, rfl⟩

/-- From a LIVE companion, a pair hands over what its resolution changes (R40). -/
theorem demanded_live {s : State} (hlive : s.comp.state = .live) {x : DemandPair} {f : Fn}
    (hfn : fnOfNumber x.fn.toNat = some f) (hresult : pairResult s x = 0) (hfresh : (slotOf s .companion f).state ≠ .fresh) :
    let t := demanded [x] s
    let old := slotOf s .companion f
    let v : Int := max (fnLow f) (min (fnHigh f) x.value.toInt)
    let marks := !old.confirmed && hasMark f && decide (v.natAbs ≤ s.profile.drive.neutralBand)
    let handed := old.state ≠ .taken ∨ old.value ≠ some v ∨ marks = true
    (handed → Resolvable s f →
        Resolved (effOf s f) marks t f ∧ HandsOver f s t ∧ UnderlyingHanded s t
        ∧ (LimitEntered s t → Raised .winchLimit s t))
      ∧ (¬handed ∨ ¬Resolvable s f → SameExcept [.slots, .comp, .compPort] s t)
      ∧ (∀ g, g ≠ f → effOf t g = effOf s g) := by
  intro t old v marks handed
  have hwritten := slotWritten_demanded hfn hresult
  have hafter := demanded_frame [x] s
  have hdeciders : SameDeciders f (pairStep (makeLive .companion s) x) t := sameDeciders_answer _ _ f _
  have heff : effOf t f = effOf (pairStep (makeLive .companion s) x) f := hafter.effOf (by decide) f
  rw [makeLive_of_live hlive] at hwritten hdeciders heff
  have hframe : SameExcept [.comp, .compPort] (pairStep (heard s) x) t := by
    rw [← makeLive_of_live hlive]
    exact hafter
  have hbefore : SameHanding (heard s) s := (SameHanding.of_frame (heard_frame s) (by decide)).symm
  have hlater : SameHanding (pairStep (heard s) x) t := .of_frame hframe (by decide)
  have hhanded : handed ↔ old.state = .empty ∨ old.state = .stale ∨ old.value ≠ some v ∨ newMark s f v old = true := by
    rw [← or_assoc]
    refine or_congr ?_ Iff.rfl
    have hnot : old.state ≠ .fresh := hfresh
    cases hstate : old.state with
    | fresh => exact absurd hstate hnot
    | _ => simp
  refine ⟨fun hh hfree => ?_, fun hno => ?_, fun g hg => ?_⟩
  · obtain ⟨hresolved, hover, hunder, hlimit, _⟩ := hwritten.acts (hhanded.mp hh) hfree
    refine ⟨hresolved.of_same hdeciders heff, hbefore.handsOver hlater hover, hbefore.underlyingHanded hlater hunder,
      fun hentered => ?_⟩
    have hraised : Raised .winchLimit s (pairStep (heard s) x) := hlimit ((hbefore.limitEntered hlater).mp hentered)
    exact hraised.of_notices (hframe .notices (by decide))
  · obtain ⟨_, hrests⟩ := hwritten.rests (hno.imp_left fun h hh => h (hhanded.mpr hh))
    exact (((heard_frame s).mono (by decide)).trans (hrests.mono (by decide))).trans (hframe.mono (by decide))
  · have hkept : effOf t g = effOf (pairStep (heard s) x) g := hframe.effOf (by decide) g
    rw [hkept, hwritten.effOf_ne hg]
    rfl

/-- Settles O24. -/
theorem demandPairIsWritten : Obligations.DemandPairIsWritten := by
  unfold Obligations.DemandPairIsWritten
  refine ⟨fun s x f hfree hbarred hfn hmask hrange hfresh => ?one,
    fun s pairs hfree hbarred hone hfew => ?several, fun s pairs hfree hbarred hone hfew => ?inTurn⟩
  case one =>
    have hresult := pairResult_eq_zero hfn hmask hrange
    have hslot := slotOf_demanded hbarred hfn hresult hfresh
    have hheard := slotOf_heard hbarred hfresh
    intro old v
    refine ⟨demanded [x] s, exec_demand hfree hbarred (Nat.le_of_ble_eq_true rfl) (Nat.le_of_ble_eq_true rfl), by rw [hslot], by rw [hslot], fun hf => ?_,
      by rw [hslot], fun hf => ?_, by rw [hslot], by rw [hslot], fun hmark => ?_, (demanded_comp [x] s).1, ?_,
      demanded_frame_request [x] s, fun hlive => demanded_live hlive hfn hresult hfresh⟩
    · rw [hslot]
      exact if_neg fun h => hf h.2.1
    · subst hf
      rw [hslot]
      dsimp only
      rw [newMark_steermode]
      refine ⟨fun h => ?_, fun hslew => ?_, fun hno => ?_⟩
      · have hslew : (makeLive .companion s).steering.state = .slewing ↔ s.steering.state = .slewing := by
          refine ⟨fun hu => h.elim (fun hlive => ?_) id, slewing_heard hbarred⟩
          rw [makeLive_of_live hlive] at hu
          exact hu
        refine if_congr ?_ rfl rfl
        rw [hslew]
        simp [old, v, and_comm]
      · exact (steermode_demanded hbarred hfn hresult (slewing_heard hbarred hslew)).2 hslew
      · exact if_neg fun h => hno (steermode_demanded hbarred hfn hresult h.2.2).1
    · rw [hslot]
      dsimp only
      rw [hheard, hmark, Bool.true_and]
      congr 1
      by_cases hlive : s.comp.state = .live
      · simp [hlive, old]
      · simp [hlive]
    · have hanswered := demanded_answered [x] s
      rw [List.map_singleton, hresult] at hanswered
      exact hanswered
  case several =>
    have hprofile : (makeLive .companion s).profile = s.profile := makeLive_profile .companion s
    obtain ⟨_, hrefused, hcauses⟩ := demanded_comp pairs s
    refine ⟨demanded pairs s, exec_demand hfree hbarred hone hfew, demanded_answered pairs s, hrefused, hcauses,
      fun before after x f hpairs hfn hf hfresh hresult hafter => ?_, fun f hno => ?_, demanded_frame_request pairs s⟩
    · have hstill : (slotOf (makeLive .companion s) .companion f).state ≠ .fresh := by
        rw [slotOf_heard hbarred hfresh]
        exact hfresh
      rw [(demanded_frame pairs s).slotOf (by decide), hpairs]
      refine foldl_pairStep_last hf hfn hstill (by rw [pairResult_congr hprofile, hresult]) fun y hy hyf => ?_
      rw [pairResult_congr hprofile]
      exact hafter y hy hyf
    · rw [(demanded_frame pairs s).slotOf (by decide), foldl_pairStep_other fun y hy => by
        rw [pairResult_congr hprofile]
        exact hno y hy]
      exact value_heard hbarred f
  case inTurn =>
    exact ⟨makeLive .companion s, pairs.foldl pairStep (makeLive .companion s), demanded pairs s,
      exec_demand hfree hbarred hone hfew, demandHeard_makeLive hbarred, inTurn_foldl pairTaken_pairStep pairs _,
      demanded_frame pairs s⟩

/-- The slot that a write to a waiting slot leaves (R23). -/
theorem SlotWritten.superseded {m : Master} {raw : Int} {s t : State} (h : SlotWritten m .steermode raw s t)
    (hslew : s.steering.state = .slewing) (hfresh : (slotOf s m .steermode).state = .fresh) (hlow : 0 ≤ raw) (hhigh : raw ≤ 3) :
    slotOf t m .steermode =
      (if (slotOf s m .steermode).value = some raw ∨ (slotOf s m .steermode).offered = some raw then
        { slotOf s m .steermode with age := 0, offered := some raw }
      else if (authOf s .steermode).keep then
        { slotOf s m .steermode with
          age := 0, offered := some raw, superseded := min 255 ((slotOf s m .steermode).superseded + 1) }
      else
        { slotOf s m .steermode with
          age := 0, offered := some raw, superseded := min 255 ((slotOf s m .steermode).superseded + 1)
          value := some raw, seq := (slotOf s m .steermode).seq + 1 }) := by
  have hranged : max (fnLow .steermode) (min (fnHigh .steermode) raw) = raw := by
    show max 0 (min 3 raw) = raw
    omega
  obtain ⟨hslot, _⟩ := h
  rw [hslot, slotAfter, if_pos ⟨⟨rfl, hslew⟩, hfresh⟩, hranged]

/-- Settles O25. -/
theorem waitingSlotSupersedes : Obligations.WaitingSlotSupersedes := by
  intro s x hready hbarred hnumber hlow hhigh hmask hslew hfresh old v
  have hfn : fnOfNumber x.fn.toNat = some .steermode := by rw [hnumber]; rfl
  have hresult : pairResult s x = 0 := pairResult_eq_zero hfn hmask (.inr ⟨hlow, hhigh⟩)
  have hwritten := slotWritten_demanded hfn hresult
  have hafter := demanded_frame [x] s
  rw [makeLive_of_live hready.live] at hwritten hafter
  refine ⟨demanded [x] s,
    exec_demand hready.toCellsFree hbarred (Nat.le_of_ble_eq_true rfl) (Nat.le_of_ble_eq_true rfl), ?_, ?_, ?_⟩
  · exact (hafter.slotOf (by decide) .companion .steermode).trans (hwritten.superseded hslew hfresh hlow hhigh)
  · refine (hafter.effOf (by decide) .steermode).trans ?_
    exact (hwritten.rests (.inr fun h => h.elim (fun h => h rfl) fun h => h hslew)).1
  · have hanswered := demanded_answered [x] s
    rw [List.map_singleton, hresult] at hanswered
    exact hanswered

end Sys2Proof.Machine
end

section
/-! PROOFS. The items of a frame, each in the words of the rule that delivers it (R31, R34, R35). -/
namespace Sys2Proof.Machine

/-! ### The bar -/

/-- The barred flag changed, and BAR_CHANGED raised (R11). -/
def barChanged (b : Bool) (s : State) : State := raise .barChanged (s.setComp { s.comp with barred := b })

theorem barChanged_frame (b : Bool) (s : State) : SameExcept [.comp, .notices] s (barChanged b s) :=
  ((setComp_frame_only s _).mono (by decide)).trans ((raise_frame _ _).mono (by decide))

theorem raised_barChanged (b : Bool) (s : State) : Raised .barChanged s (barChanged b s) :=
  (raised_raise .barChanged _).of_profile rfl

theorem writeBar_of_same {b : Bool} {s : State} (h : s.comp.barred = b) : writeBar b s = s := if_pos h

theorem writeBar_barring_live {s : State} (h : s.comp.barred ≠ true) (hlive : s.comp.state = .live) :
    writeBar true s = resolveList Fn.all (fun _ => false) (endGrants .lapse (fun _ => true) (barChanged true s)) := by
  have hgone : present (barChanged true s) .companion = false := by
    show (s.comp.state == .live && !true) = false
    rw [Bool.not_true, Bool.and_false]
  have hbars : writeBar true s = if s.comp.state = .live then presenceChanged .companion (fun _ => false) (barChanged true s)
      else resolveMarks (fun _ => false) (barChanged true s) := if_neg h
  rw [hbars, if_pos hlive]
  exact presenceChanged_companion_gone hgone _

theorem writeBar_barring_gone {s : State} (h : s.comp.barred ≠ true) (hlive : s.comp.state ≠ .live) :
    writeBar true s = barChanged true s := by
  have hbars : writeBar true s = if s.comp.state = .live then presenceChanged .companion (fun _ => false) (barChanged true s)
      else resolveMarks (fun _ => false) (barChanged true s) := if_neg h
  rw [hbars, if_neg hlive]
  rfl

theorem writeBar_unbarring {s : State} (h : s.comp.barred ≠ false) : writeBar false s =
    if s.comp.state = .live then
      resolveList Fn.all (losesMark .companion s) (clearMarks .companion (barChanged false s))
    else resolveMarks (losesMark .companion s) (clearMarks .companion (barChanged false s)) := by
  have hunbars : writeBar false s = if s.comp.state = .live then
      presenceChanged .companion (losesMark .companion s) (clearMarks .companion (barChanged false s))
    else resolveMarks (losesMark .companion s) (clearMarks .companion (barChanged false s)) := if_neg h
  rw [hunbars]
  by_cases hlive : s.comp.state = .live
  · have hcomp : (clearMarks .companion (barChanged false s)).comp = (barChanged false s).comp :=
      clearMarks_frame .companion _ .comp (by decide)
    have hpresent : present (clearMarks .companion (barChanged false s)) .companion = true := by
      rw [present, hcomp]
      show (s.comp.state == .live && !false) = true
      rw [hlive]
      rfl
    rw [if_pos hlive, if_pos hlive, presenceChanged_of_present hpresent]
  · rw [if_neg hlive, if_neg hlive]

theorem writeBar_comp (b : Bool) (s : State) : (writeBar b s).comp = { s.comp with barred := b } := by
  by_cases h : s.comp.barred = b
  · rw [writeBar_of_same h, ← h]
  · have hchanged : (barChanged b s).comp = { s.comp with barred := b } := rfl
    cases b with
    | true =>
      by_cases hlive : s.comp.state = .live
      · have hresolved := resolveList_frame Fn.all (fun _ => false) (endGrants .lapse (fun _ => true) (barChanged true s)) .comp (by decide)
        have hended := endGrants_frame .lapse (fun _ => true) (barChanged true s) .comp (by decide)
        rw [writeBar_barring_live h hlive]
        exact Eq.trans hresolved hended
      · rw [writeBar_barring_gone h hlive]
        rfl
    | false =>
      have hcleared : (clearMarks .companion (barChanged false s)).comp = _ := clearMarks_frame .companion _ .comp (by decide)
      rw [writeBar_unbarring h]
      split
      · exact Eq.trans (resolveList_frame Fn.all _ _ .comp (by decide)) hcleared
      · exact Eq.trans (resolveMarks_frame _ _ .comp (by decide)) hcleared

theorem raised_writeBar {b : Bool} {s : State} (h : s.comp.barred ≠ b) : Raised .barChanged s (writeBar b s) := by
  have hraised := raised_barChanged b s
  have hended (u : State) : NoticesStay u (endGrants .lapse (fun _ => true) u) :=
    noticesStay_foldl (fun _ f => noticesStay_endGrant .lapse f _) _ u
  have hcleared (u : State) : NoticesStay u (clearMarks .companion u) :=
    .of_notices (clearMarks_frame .companion u .notices (by decide))
  cases b with
  | true =>
    by_cases hlive : s.comp.state = .live
    · rw [writeBar_barring_live h hlive]
      exact (hraised.stay (hended _)).stay (noticesStay_resolveList _ _ _)
    · rw [writeBar_barring_gone h hlive]
      exact hraised
  | false =>
    rw [writeBar_unbarring h]
    split
    · exact (hraised.stay (hcleared _)).stay (noticesStay_resolveList _ _ _)
    · exact (hraised.stay (hcleared _)).stay (noticesStay_resolveList _ _ _)

theorem writeBar_frame_only (b : Bool) (s : State) : SameExcept (.comp :: resolveTouches) s (writeBar b s) := by
  have hchanged : SameExcept (.comp :: resolveTouches) s (barChanged b s) := (barChanged_frame b s).mono (by decide)
  by_cases h : s.comp.barred = b
  · rw [writeBar_of_same h]
    exact .refl _ s
  · cases b with
    | true =>
      by_cases hlive : s.comp.state = .live
      · rw [writeBar_barring_live h hlive]
        exact (hchanged.trans ((endGrants_frame _ _ _).mono (by decide))).trans ((resolveList_frame _ _ _).mono (by decide))
      · rw [writeBar_barring_gone h hlive]
        exact hchanged
    | false =>
      have hcleared := hchanged.trans ((clearMarks_frame .companion (barChanged false s)).mono (by decide))
      rw [writeBar_unbarring h]
      split
      · exact hcleared.trans ((resolveList_frame _ _ _).mono (by decide))
      · exact hcleared.trans ((resolveMarks_frame _ _).mono (by decide))

theorem resolvedWhere_none {s t : State} (h : ∀ f, SameFn f s t) :
    ResolvedWhere (fun _ => False) (fun _ => false) (slotOf s) s t :=
  resolvedWhere_of fun f => ⟨t, (h f).eff, (h f).slots, False.elim, fun _ => .refl f t⟩

/-- A BAR item does what R2, R11 and R26 say. -/
theorem barWritten_writeBar (b : Bool) (s : State) : BarWritten b s (writeBar b s) := by
  have hsame := sameFn_of_frame (barChanged_frame b s) (by decide)
  refine ⟨writeBar_of_same, fun hne => ⟨writeBar_comp b s, raised_writeBar hne, fun hlive hb => ?_, fun hlive hb => ?_,
    fun hlive f => ?_, fun hlive hb => ?_, fun hlive hb => ?_, writeBar_frame_only b s⟩⟩
  · subst hb
    rw [writeBar_barring_live hne hlive]
    exact ⟨resolvedWhere_lost hsame, fun _ => grantsEnd_congr (fun _ => ⟨fun _ => trivial, fun _ => rfl⟩)
      (grantsEnd_lost hsame rfl), fun h => (by cases h)⟩
  · subst hb
    have hcleared : MarksCleared .companion s (clearMarks .companion (barChanged false s)) := marksCleared_clearMarks rfl rfl rfl
    rw [writeBar_unbarring hne, if_pos hlive]
    exact hcleared.masterReturns
  · cases b with
    | true =>
      rw [writeBar_barring_gone hne hlive]
      exact (hsame f).grant
    | false =>
      have hcleared : MarksCleared .companion s (clearMarks .companion (barChanged false s)) := marksCleared_clearMarks rfl rfl rfl
      rw [writeBar_unbarring hne, if_neg hlive]
      exact hcleared.resolvedMarks.2 f
  · subst hb
    rw [writeBar_barring_gone hne hlive]
    exact resolvedWhere_none hsame
  · subst hb
    have hcleared : MarksCleared .companion s (clearMarks .companion (barChanged false s)) := marksCleared_clearMarks rfl rfl rfl
    rw [writeBar_unbarring hne, if_neg hlive]
    exact hcleared.resolvedMarks.1

/-! ### Values of an entry -/

theorem inRange_numericDemand {f : Fn} (hnum : isNumeric f = true) (e : MapEntry) (raw : Nat) :
    InRange f (numericDemand e f raw) := by
  have hclamp (z : Int) : -1000 ≤ clampI (-1000) 1000 z ∧ clampI (-1000) 1000 z ≤ 1000 := by
    unfold clampI
    omega
  have hturned (z : Int) : -1000 ≤ (if e.reverse then -clampI (-1000) 1000 z else clampI (-1000) 1000 z)
      ∧ (if e.reverse then -clampI (-1000) 1000 z else clampI (-1000) 1000 z) ≤ 1000 := by
    have := hclamp z
    split <;> omega
  have hdead (v : Int) (hv : -1000 ≤ v ∧ v ≤ 1000) : -1000 ≤ (if v.natAbs ≤ e.deadband then 0 else v)
      ∧ (if v.natAbs ≤ e.deadband then 0 else v) ≤ 1000 := by
    split <;> omega
  unfold numericDemand
  dsimp only
  by_cases hdrag : f = .drag
  · rw [if_pos hdrag, hdrag]
    show 0 ≤ clampI 0 1000 _ ∧ clampI 0 1000 _ ≤ 1000
    unfold clampI
    omega
  · rw [if_neg hdrag]
    have hrange : InRange f = fun v => -1000 ≤ v ∧ v ≤ 1000 := by
      cases f <;> first | rfl | exact absurd rfl hdrag | exact absurd hnum (by decide)
    rw [hrange]
    exact hdead _ (hturned _)

theorem inRange_demand (e : MapEntry) (f : Fn) {raw : Nat} (hraw : raw < 4096) : InRange f (demandOf e f raw) := by
  have hranged := inRange_demandOf e f hraw
  by_cases hnum : isNumeric f = true
  · rw [demandOf_of_numeric hnum]
    exact inRange_numericDemand hnum e raw
  · rw [rangedValue, if_neg hnum] at hranged
    exact hranged

theorem fnClamp_demand (e : MapEntry) (f : Fn) {raw : Nat} (hraw : raw < 4096) :
    max (fnLow f) (min (fnHigh f) (demandOf e f raw)) = demandOf e f raw := by
  obtain ⟨hlow, hhigh⟩ := inRange_demand e f hraw
  rw [min_eq_right hhigh, max_eq_right hlow]

/-! ### Items -/

theorem countedUnmatched_countUnmatched (s : State) : CountedUnmatched s (countUnmatched s) :=
  ⟨rfl, setRadio_frame_only s _⟩

theorem getLsbD_dropMember_eq {n : Nat} (v : BitVec n) (i : Nat) {j : Nat} (hj : j < n) :
    (dropMember v i).getLsbD j = (v.getLsbD j && !decide (j = i)) := by
  rw [dropMember, BitVec.getLsbD_and, BitVec.getLsbD_not, BitVec.getLsbD_shiftLeft, BitVec.getLsbD_one]
  congr 1
  rw [Bool.eq_iff_iff]
  simp [hj]
  omega

theorem flagWritten_writeRadioFlag (i : Fin 4) (b : Bool) (s : State) : FlagWritten i b s (writeRadioFlag i b s) := by
  have hflags (j : Fin 4) : (writeRadioFlag i b s).radio.flags.getLsbD j.val =
      if j = i then b else s.radio.flags.getLsbD j.val := by
    show (if b then addMember s.radio.flags i.val else dropMember s.radio.flags i.val).getLsbD j.val = _
    have hval : decide (j.val = i.val) = decide (j = i) := decide_eq_decide.mpr Fin.ext_iff.symm
    cases b with
    | true =>
      rw [if_pos rfl, getLsbD_addMember_eq _ _ j.isLt, hval]
      by_cases h : j = i <;> simp [h]
    | false =>
      rw [if_neg (by decide), getLsbD_dropMember_eq _ _ j.isLt, hval]
      by_cases h : j = i <;> simp [h]
  exact ⟨rfl, by rw [hflags, if_pos rfl], fun j hj => by rw [hflags, if_neg hj], setRadio_frame_only s _⟩

theorem deliverItem_of_none {s : State} {x : RadioItem} (h : matchEntry s.profile.map (itemTag x) = none) :
    deliverItem s x = countUnmatched s := by
  unfold deliverItem
  rw [h]

theorem deliverItem_of_some {s : State} {x : RadioItem} {e : MapEntry} (h : matchEntry s.profile.map (itemTag x) = some e) :
    deliverItem s x = deliverTo e (itemRaw x) s := by
  unfold deliverItem
  rw [h]

/-- One item of a frame does what the rule of its target says. -/
theorem itemDelivered_deliverItem (s : State) (x : RadioItem) : ItemDelivered x s (deliverItem s x) := by
  unfold ItemDelivered
  cases hmatch : matchEntry s.profile.map (itemTag x) with
  | none =>
    rw [deliverItem_of_none hmatch]
    exact countedUnmatched_countUnmatched s
  | some e =>
    rw [deliverItem_of_some hmatch]
    unfold deliverTo
    dsimp only
    cases htarget : e.target with
    | fn f =>
      dsimp only
      refine ⟨fun hin => ?_, fun hout => ?_⟩
      · rw [if_pos (show radioReaches s f = true from hin)]
        exact slotWritten_writeSlot (.inr (inRange_demand e f (itemRaw_lt x))) .radio s
      · rw [if_neg (show ¬radioReaches s f = true by rw [radioReaches, hout]; decide)]
        exact countedUnmatched_countUnmatched s
    | flag i => exact flagWritten_writeRadioFlag i _ s
    | bar => exact barWritten_writeBar _ s
    | none => exact countedUnmatched_countUnmatched s

end Sys2Proof.Machine
end

section
/-! PROOFS. A frame's work: the radio heard, its items in order, and the breakaway test after the last (R3, R35, R55). -/
namespace Sys2Proof.Machine

/-! ### The radio is heard -/

theorem makeLive_radio_of_live {s : State} (h : s.radio.state = .live) : makeLive .radio s = loadTimer .radio s :=
  if_pos (show ctxState s .radio = .live from h)

/-- A radio that returns, before the resolution of every function (R3). -/
def radioReturned (s : State) : State := raise .radioLive (clearMarks .radio (loadTimer .radio s))

theorem makeLive_radio_eq {s : State} (h : s.radio.state ≠ .live) :
    makeLive .radio s = resolveList Fn.all (losesMark .radio s) (radioReturned s) := by
  have hradio : (clearMarks .radio (loadTimer .radio s)).radio = (loadTimer .radio s).radio :=
    clearMarks_frame .radio _ .radio (by decide)
  have hpresent : present (radioReturned s) .radio = true := by
    show ((clearMarks .radio (loadTimer .radio s)).radio.state == .live) = true
    rw [hradio]
    rfl
  rw [makeLive, if_neg (show ¬ctxState s .radio = .live from h)]
  show (if present (radioReturned s) .radio then presenceChanged .radio (losesMark .radio s) (radioReturned s)
    else resolveMarks (losesMark .radio s) (radioReturned s)) = _
  rw [if_pos hpresent]
  exact presenceChanged_of_present hpresent _

theorem loadTimer_frame_radio (s : State) : SameExcept [.radio] s (loadTimer .radio s) := setRadio_frame_only s _

theorem radioReturned_frame (s : State) : SameExcept (.radio :: resolveTouches) s (radioReturned s) :=
  (((loadTimer_frame_radio s).mono (by decide)).trans ((clearMarks_frame .radio _).mono (by decide))).trans
    ((raise_frame _ _).mono (by decide))

theorem marksCleared_radioReturned {s c : State} (hslots : c.slots = s.slots) (hresolver : c.resolver = s.resolver)
    (hsteering : c.steering = s.steering) : MarksCleared .radio s (radioReturned c) := by
  have hcleared : MarksCleared .radio s (clearMarks .radio (loadTimer .radio c)) :=
    marksCleared_clearMarks hslots hresolver hsteering
  exact hcleared.raise .radioLive

theorem makeLive_radio_radio (s : State) :
    (makeLive .radio s).radio = { s.radio with state := .live, timer := s.profile.sources.radioSilence } := by
  by_cases h : s.radio.state = .live
  · rw [makeLive_radio_of_live h]
    rfl
  · have hresolved : (resolveList Fn.all (losesMark .radio s) (radioReturned s)).radio = (radioReturned s).radio :=
      resolveList_frame _ _ _ .radio (by decide)
    have hcleared : (clearMarks .radio (loadTimer .radio s)).radio = (loadTimer .radio s).radio :=
      clearMarks_frame .radio _ .radio (by decide)
    rw [makeLive_radio_eq h, hresolved]
    exact hcleared

theorem raised_makeLive_radio {s : State} (h : s.radio.state ≠ .live) : Raised .radioLive s (makeLive .radio s) := by
  rw [makeLive_radio_eq h]
  have hprofile : (clearMarks .radio (loadTimer .radio s)).profile = s.profile := clearMarks_frame .radio _ .profile (by decide)
  exact ((raised_raise .radioLive _).of_profile hprofile).stay (noticesStay_resolveList _ _ _)

/-- The state that a valid frame's items act on, before the radio is heard. -/
def counted (f : RadioFrame) (s : State) : State := countFrame (frameSeq f) (setAssembler .hunting s)

theorem counted_frame (f : RadioFrame) (s : State) : SameExcept [.radio, .radioPort] s (counted f s) :=
  ((setRadioPort_frame_only s _).mono (by decide)).trans ((setRadio_frame_only _ _).mono (by decide))

/-- A valid frame without the failsafe bit is heard (R3, R6). -/
theorem frameHeard_makeLive (f : RadioFrame) (s : State) : FrameHeard f s (makeLive .radio (counted f s)) := by
  have hport : (makeLive .radio (counted f s)).radioPort = (counted f s).radioPort :=
    makeLive_frame .radio _ .radioPort (by decide)
  refine ⟨makeLive_radio_radio _, hport, fun hlive => ?_, fun hnot => ?_⟩
  · rw [makeLive_radio_of_live (s := counted f s) hlive]
    exact (counted_frame f s).trans ((loadTimer_frame_radio _).mono (by decide))
  · have hcounted : (counted f s).radio.state ≠ .live := hnot
    have hcleared : MarksCleared .radio s (radioReturned (counted f s)) := marksCleared_radioReturned rfl rfl rfl
    refine ⟨?_, (raised_makeLive_radio hcounted).of_profile rfl, ?_⟩
    · rw [makeLive_radio_eq hcounted]
      exact hcleared.masterReturns
    · rw [makeLive_radio_eq hcounted]
      exact (((counted_frame f s).mono (by decide)).trans ((radioReturned_frame _).mono (by decide))).trans
        ((resolveList_frame _ _ _).mono (by decide))

/-! ### The breakaway test -/

theorem frameWrites_iff (s : State) (items : List RadioItem) (f : Fn) :
    frameWrites s items f = true ↔ ∃ x ∈ items, ItemWrites s f x := by
  unfold frameWrites ItemWrites
  rw [Bool.and_eq_true, List.any_eq_true]
  constructor
  · rintro ⟨hmask, x, hx, hwrites⟩
    cases hmatch : matchEntry s.profile.map (itemTag x) with
    | none => simp [hmatch] at hwrites
    | some e =>
      simp only [hmatch, beq_iff_eq] at hwrites
      exact ⟨x, hx, hmask, e, hmatch, hwrites⟩
  · rintro ⟨x, hx, hmask, e, hmatch, htarget⟩
    exact ⟨hmask, x, hx, by simp [hmatch, htarget]⟩

section
variable {before s : State} {items : List RadioItem} {f : Fn}

theorem breakawayTest_of_breaks (hwrote : ∃ x ∈ items, ItemWrites s f x) (hbreaks : BreaksAway before s f) :
    breakawayTest before items s f = endGrant .breakaway f s := by
  obtain ⟨h, hheld, hnumeric, hdiscrete⟩ := hbreaks
  unfold breakawayTest
  rw [hheld]
  dsimp only
  rw [if_pos ((frameWrites_iff s items f).mpr hwrote)]
  cases hnum : isNumeric f with
  | true =>
    obtain ⟨hreaches, hsecond⟩ := hnumeric hnum
    rw [if_pos rfl]
    unfold numericBreakaway
    rw [if_pos (show (authOf s f).breakaway ≤ (slotValue s .radio f).natAbs from hreaches), if_pos hsecond]
  | false =>
    rw [if_neg (by decide), if_neg (hdiscrete hnum)]

theorem breakawayTest_of_reaches {h : HeldGrant} (hheld : (grantOf s f).held = some h) (hwrote : ∃ x ∈ items, ItemWrites s f x)
    (hnum : isNumeric f = true) (hno : ¬BreaksAway before s f)
    (hreaches : (authOf s f).breakaway ≤ (((slotOf s .radio f).value).getD 0).natAbs) :
    breakawayTest before items s f = setGrant s f { grantOf s f with held := some { h with breakaway := 1 } } := by
  have hfirst : h.breakaway = 0 := by
    by_contra hsecond
    exact hno ⟨h, hheld, fun _ => ⟨hreaches, Nat.one_le_iff_ne_zero.mpr hsecond⟩, fun hdisc => by
      rw [hnum] at hdisc
      cases hdisc⟩
  unfold breakawayTest
  rw [hheld]
  dsimp only
  rw [if_pos ((frameWrites_iff s items f).mpr hwrote), if_pos hnum]
  unfold numericBreakaway
  rw [if_pos (show (authOf s f).breakaway ≤ (slotValue s .radio f).natAbs from hreaches), if_neg (by rw [hfirst]; decide), hfirst]

theorem breakawayTest_of_below {h : HeldGrant} (hheld : (grantOf s f).held = some h) (hwrote : ∃ x ∈ items, ItemWrites s f x)
    (hnum : isNumeric f = true)
    (hbelow : ¬(authOf s f).breakaway ≤ (((slotOf s .radio f).value).getD 0).natAbs) :
    breakawayTest before items s f = setGrant s f { grantOf s f with held := some { h with breakaway := 0 } } := by
  unfold breakawayTest
  rw [hheld]
  dsimp only
  rw [if_pos ((frameWrites_iff s items f).mpr hwrote), if_pos hnum]
  unfold numericBreakaway
  rw [if_neg (show ¬(authOf s f).breakaway ≤ (slotValue s .radio f).natAbs from hbelow)]

theorem breakawayTest_of_rests (h : (grantOf s f).held = none ∨ (¬∃ x ∈ items, ItemWrites s f x)
    ∨ (isNumeric f = false ∧ ¬BreaksAway before s f)) : breakawayTest before items s f = s := by
  unfold breakawayTest
  cases hheld : (grantOf s f).held with
  | none => rfl
  | some g =>
    dsimp only
    by_cases hwrote : frameWrites s items f = true
    · obtain hnone | hnot | ⟨hdisc, hno⟩ := h
      · rw [hheld] at hnone
        cases hnone
      · exact absurd ((frameWrites_iff s items f).mp hwrote) hnot
      · have hseq : (slotOf s .radio f).seq = (slotOf before .radio f).seq := by
          by_contra hseq
          refine hno ⟨g, hheld, fun hnum => ?_, fun _ => hseq⟩
          rw [hdisc] at hnum
          cases hnum
        rw [if_pos hwrote, hdisc, if_neg (by decide), if_pos hseq]
    · rw [if_neg hwrote]

/-- The test of one function leaves the others alone. -/
theorem untouched_breakawayTest {g : Fn} (h : g ≠ f) : Untouched g s (breakawayTest before items s f) := by
  by_cases hrests : (grantOf s f).held = none ∨ (¬∃ x ∈ items, ItemWrites s f x)
      ∨ (isNumeric f = false ∧ ¬BreaksAway before s f)
  · rw [breakawayTest_of_rests hrests]
    exact .refl g s
  rw [not_or, not_or, not_not, not_and, not_not] at hrests
  obtain ⟨hheld, hwrote, hdisc⟩ := hrests
  by_cases hbreaks : BreaksAway before s f
  · rw [breakawayTest_of_breaks hwrote hbreaks]
    exact untouched_endGrant h _ s
  have hnum : isNumeric f = true := by
    by_contra hno
    exact hbreaks (hdisc (by simpa using hno))
  obtain ⟨held, hheld⟩ := Option.ne_none_iff_exists'.mp hheld
  by_cases hreaches : (authOf s f).breakaway ≤ (((slotOf s .radio f).value).getD 0).natAbs
  · rw [breakawayTest_of_reaches hheld hwrote hnum hbreaks hreaches]
    exact untouched_setGrant h _ s
  · rw [breakawayTest_of_below hheld hwrote hnum hreaches]
    exact untouched_setGrant h _ s

/-- A test that does not end the grant leaves the state, or counts. -/
theorem breakawayTest_of_not (hno : ¬((∃ x ∈ items, ItemWrites s f x) ∧ BreaksAway before s f)) :
    breakawayTest before items s f = s ∨ ∃ g, breakawayTest before items s f = setGrant s f g := by
  by_cases hrests : (grantOf s f).held = none ∨ (¬∃ x ∈ items, ItemWrites s f x)
      ∨ (isNumeric f = false ∧ ¬BreaksAway before s f)
  · exact .inl (breakawayTest_of_rests hrests)
  rw [not_or, not_or, not_not, not_and, not_not] at hrests
  obtain ⟨hheld, hwrote, hdisc⟩ := hrests
  have hbreaks : ¬BreaksAway before s f := fun h => hno ⟨hwrote, h⟩
  have hnum : isNumeric f = true := by
    by_contra hnot
    exact hbreaks (hdisc (by simpa using hnot))
  obtain ⟨held, hheld⟩ := Option.ne_none_iff_exists'.mp hheld
  by_cases hreaches : (authOf s f).breakaway ≤ (((slotOf s .radio f).value).getD 0).natAbs
  · exact .inr ⟨_, breakawayTest_of_reaches hheld hwrote hnum hbreaks hreaches⟩
  · exact .inr ⟨_, breakawayTest_of_below hheld hwrote hnum hreaches⟩

end

theorem Untouched.authOf {f : Fn} {s t : State} (h : Untouched f s t) : authOf t f = authOf s f := by
  rw [Machine.authOf, h.deciders.profile]
  rfl

theorem Untouched.breaksAway {f : Fn} {s t : State} (h : Untouched f s t) (before : State) :
    BreaksAway before t f ↔ BreaksAway before s f := by
  unfold BreaksAway
  rw [h.grant, h.authOf, h.slots]

theorem itemWrites_congr {s t : State} (h : t.profile = s.profile) (f : Fn) (x : RadioItem) :
    ItemWrites t f x ↔ ItemWrites s f x := by
  unfold ItemWrites fnMask
  rw [h]

theorem wrote_congr {s t : State} (h : t.profile = s.profile) (f : Fn) (items : List RadioItem) :
    (∃ x ∈ items, ItemWrites t f x) ↔ ∃ x ∈ items, ItemWrites s f x := by
  simp only [itemWrites_congr h]

theorem BreaksAway.held {before s : State} {f : Fn} (h : BreaksAway before s f) : (grantOf s f).held.isSome = true := by
  obtain ⟨g, hheld, _⟩ := h
  rw [hheld]
  rfl

/-- The tests of the functions, one after another. -/
def breakawayTests (before : State) (items : List RadioItem) (fs : List Fn) (s : State) : State :=
  fs.foldl (breakawayTest before items) s

theorem noticesStay_breakawayTest (before : State) (items : List RadioItem) (s : State) (f : Fn) :
    NoticesStay s (breakawayTest before items s f) := by
  by_cases hends : (∃ x ∈ items, ItemWrites s f x) ∧ BreaksAway before s f
  · rw [breakawayTest_of_breaks hends.1 hends.2]
    exact noticesStay_endGrant _ f s
  · obtain heq | ⟨g, heq⟩ := breakawayTest_of_not hends
    · rw [heq]
      exact .of_notices rfl
    · rw [heq]
      exact .of_notices rfl

theorem raised_breakawayTests {before : State} {items : List RadioItem} {f : Fn} {fs : List Fn} {s : State} (hmem : f ∈ fs)
    (hwrote : ∃ x ∈ items, ItemWrites s f x) (hbreaks : BreaksAway before s f) :
    Raised .grantEnded s (breakawayTests before items fs s) := by
  induction fs generalizing s with
  | nil => cases hmem
  | cons g fs ih =>
    have hcons : breakawayTests before items (g :: fs) s = breakawayTests before items fs (breakawayTest before items s g) := rfl
    rw [hcons]
    by_cases hg : f = g
    · subst hg
      rw [breakawayTest_of_breaks hwrote hbreaks]
      exact (raised_endGrant hbreaks.held).stay (noticesStay_foldl (noticesStay_breakawayTest before items) fs _)
    · have hstays : Untouched f s (breakawayTest before items s g) := untouched_breakawayTest hg
      have hprofile := hstays.deciders.profile
      exact (ih ((List.mem_cons.mp hmem).resolve_left hg) ((wrote_congr hprofile f items).mpr hwrote)
        ((hstays.breaksAway before).mpr hbreaks)).of_profile hprofile

theorem breakawayTests_quiet {before : State} {items : List RadioItem} {fs : List Fn} {s : State} (hnodup : fs.Nodup)
    (hno : ∀ f ∈ fs, ¬((∃ x ∈ items, ItemWrites s f x) ∧ BreaksAway before s f)) :
    SameExcept [.resolver] s (breakawayTests before items fs s) := by
  induction fs generalizing s with
  | nil => exact .refl _ s
  | cons g fs ih =>
    obtain ⟨hg, hnodup⟩ := List.nodup_cons.mp hnodup
    have hstep : SameExcept [.resolver] s (breakawayTest before items s g) := by
      obtain heq | ⟨x, heq⟩ := breakawayTest_of_not (hno g List.mem_cons_self)
      · rw [heq]
        exact .refl _ s
      · rw [heq]
        exact setGrant_frame s g x
    refine hstep.trans (ih hnodup fun f hf hends => hno f (List.mem_cons_of_mem _ hf) ?_)
    have hstays : Untouched f s (breakawayTest before items s g) := untouched_breakawayTest fun h => hg (h ▸ hf)
    exact ⟨(wrote_congr hstays.deciders.profile f items).mp hends.1, (hstays.breaksAway before).mp hends.2⟩

/-- One function's own test, among those of all functions. -/
theorem breakawayTests_own (before : State) (items : List RadioItem) (f : Fn) (s : State) : ∃ u, Untouched f s u
    ∧ ((∃ x ∈ items, ItemWrites u f x) ↔ ∃ x ∈ items, ItemWrites s f x) ∧ (BreaksAway before u f ↔ BreaksAway before s f)
    ∧ Untouched f (breakawayTest before items u f) (breakawayTests before items Fn.all s) := by
  obtain ⟨u, hbefore, hafter⟩ := foldl_own_step (step := fun f s => breakawayTest before items s f)
    (fun _ _ _ hne => untouched_breakawayTest hne) Fn.nodup_all (Fn.mem_all f) s
  exact ⟨u, hbefore, wrote_congr hbefore.deciders.profile f items, hbefore.breaksAway before, hafter⟩

theorem resolvedWhere_breakawayTests (before : State) (items : List RadioItem) (s : State) :
    ResolvedWhere (fun f => ((∃ x ∈ items, ItemWrites s f x) ∧ BreaksAway before s f) ∧ Resolvable s f) (fun _ => false)
      (slotOf s) s (breakawayTests before items Fn.all s) := by
  refine resolvedWhere_of fun f => ?_
  obtain ⟨u, hbefore, hwrote, hbreaks, hafter⟩ := breakawayTests_own before items f s
  by_cases hends : (∃ x ∈ items, ItemWrites s f x) ∧ BreaksAway before s f
  · rw [breakawayTest_of_breaks (hwrote.mpr hends.1) (hbreaks.mpr hends.2)] at hafter
    have hvisited := visited_endGrant (why := .breakaway) (hbreaks.mpr hends.2).held
    have hbusy : consumerBusy (setGrant u f ⟨none, some .breakaway⟩) f = consumerBusy s f := hbefore.busy
    refine ⟨setGrant u f ⟨none, some .breakaway⟩, hbefore.eff, hbefore.slots, fun hwhich => ?_, fun hnot => ?_⟩
    · exact (hvisited.free (hbusy.trans ((consumerBusy_eq_false_iff s f).mpr hwhich.2))).untouched hafter
    · refine (hvisited.busy ?_).trans hafter
      rw [hbusy]
      by_contra hfree
      exact hnot ⟨hends, (consumerBusy_eq_false_iff s f).mp (by simpa using hfree)⟩
  · have hnot : ¬((∃ x ∈ items, ItemWrites u f x) ∧ BreaksAway before u f) :=
      fun h => hends ⟨hwrote.mp h.1, hbreaks.mp h.2⟩
    have hkept : effOf (breakawayTest before items u f) f = effOf u f
        ∧ ∀ m, slotOf (breakawayTest before items u f) m f = slotOf u m f := by
      obtain heq | ⟨g, heq⟩ := breakawayTest_of_not hnot
      · rw [heq]
        exact ⟨rfl, fun _ => rfl⟩
      · rw [heq]
        exact ⟨rfl, fun _ => rfl⟩
    exact ⟨breakawayTest before items u f, hkept.1.trans hbefore.eff, fun m => (hkept.2 m).trans (hbefore.slots m),
      fun h => absurd h.1 hends, fun _ => hafter⟩

theorem grant_of_breaks {before s : State} {items : List RadioItem} {f : Fn} (hwrote : ∃ x ∈ items, ItemWrites s f x)
    (hbreaks : BreaksAway before s f) : grantOf (breakawayTests before items Fn.all s) f = ⟨none, some .breakaway⟩ := by
  obtain ⟨u, _, hw, hb, hafter⟩ := breakawayTests_own before items f s
  rw [breakawayTest_of_breaks (hw.mpr hwrote) (hb.mpr hbreaks)] at hafter
  exact hafter.grant.trans ((visited_endGrant (hb.mpr hbreaks).held).grant.trans (grantOf_setGrant_same ..))

/-- A numeric function's breakaway count after the test (R55). -/
theorem grant_of_counts {before s : State} {items : List RadioItem} {f : Fn} {h : HeldGrant} (hheld : (grantOf s f).held = some h)
    (hwrote : ∃ x ∈ items, ItemWrites s f x) (hnum : isNumeric f = true) (hno : ¬BreaksAway before s f) :
    ((authOf s f).breakaway ≤ (((slotOf s .radio f).value).getD 0).natAbs →
        grantOf (breakawayTests before items Fn.all s) f = { grantOf s f with held := some { h with breakaway := 1 } })
      ∧ (¬(authOf s f).breakaway ≤ (((slotOf s .radio f).value).getD 0).natAbs →
        grantOf (breakawayTests before items Fn.all s) f = { grantOf s f with held := some { h with breakaway := 0 } }) := by
  obtain ⟨u, hbefore, hw, hb, hafter⟩ := breakawayTests_own before items f s
  rw [← hbefore.grant] at hheld
  rw [← hbefore.authOf, ← hbefore.slots, ← hbefore.grant]
  refine ⟨fun hreaches => ?_, fun hbelow => ?_⟩
  · rw [breakawayTest_of_reaches hheld (hw.mpr hwrote) hnum (mt hb.mp hno) hreaches] at hafter
    rw [hafter.grant, grantOf_setGrant_same]
  · rw [breakawayTest_of_below hheld (hw.mpr hwrote) hnum hbelow] at hafter
    rw [hafter.grant, grantOf_setGrant_same]

theorem grant_of_rests {before s : State} {items : List RadioItem} {f : Fn} (h : (grantOf s f).held = none
    ∨ (¬∃ x ∈ items, ItemWrites s f x) ∨ (isNumeric f = false ∧ ¬BreaksAway before s f)) :
    grantOf (breakawayTests before items Fn.all s) f = grantOf s f := by
  obtain ⟨u, hbefore, hw, hb, hafter⟩ := breakawayTests_own before items f s
  rw [← hbefore.grant, ← hw, ← hb] at h
  rw [breakawayTest_of_rests h] at hafter
  exact hafter.grant.trans hbefore.grant

/-- The breakaway of every function that a frame wrote is tested once (R55). -/
theorem breakawayTested_breakawayTests (before : State) (items : List RadioItem) (s : State) :
    BreakawayTested items before s (breakawayTests before items Fn.all s) := by
  refine ⟨resolvedWhere_breakawayTests before items s, fun f => ⟨fun hends => ?_, fun h hheld hwrote hnum hno => ?_, fun h => ?_⟩,
    fun hno => breakawayTests_quiet Fn.nodup_all fun f _ => hno f, SameExcept.foldl (breakawayTest_frame before items) Fn.all s⟩
  · exact ⟨grant_of_breaks hends.1 hends.2, raised_breakawayTests (Fn.mem_all f) hends.1 hends.2⟩
  · exact grant_of_counts hheld hwrote hnum fun hb => hno ⟨hwrote, hb⟩
  · by_cases hwrote : ∃ x ∈ items, ItemWrites s f x
    · exact grant_of_rests (h.imp_right (Or.imp_right fun hdisc => ⟨hdisc.1, fun hb => hdisc.2 ⟨hwrote, hb⟩⟩))
    · exact grant_of_rests (.inr (.inl hwrote))

end Sys2Proof.Machine
end

section
/-! PROOFS. A valid frame as a whole, and the last item of a function (R35). -/
namespace Sys2Proof.Machine

/-! ### The stages of a frame -/

/-- The radio heard, before the items. -/
def frameBefore (f : RadioFrame) (s : State) : State := makeLive .radio (counted f s)

/-- The items delivered. -/
def frameDelivered (f : RadioFrame) (s : State) : State := f.items.foldl deliverItem (frameBefore f s)

/-- The breakaways tested. -/
def frameTested (f : RadioFrame) (s : State) : State := breakawayTests (frameBefore f s) f.items Fn.all (frameDelivered f s)

/-- The reply counts grown, and with the permit the scan taken. -/
def frameFinished (f : RadioFrame) (u : State) : State := if framePermit f then replyScan (growCounts u) else growCounts u

theorem exec_frame {f : RadioFrame} {s : State} (hfree : lineFree s = true) (hf : FrameValid f) (hbit : f.header.getLsbD 0 = false) :
    exec (.radioFrame f) s = .next (frameFinished f (frameTested f s)) := by
  have hsafe : ¬frameFailsafe f = true := by rw [frameFailsafe, hbit]; decide
  rw [exec_radioFrame, receiveFrame_of_valid hfree hf]
  unfold validFrame
  dsimp only
  rw [if_neg hsafe]
  rfl

theorem frameFinished_frame (f : RadioFrame) (u : State) : SameExcept [.radioPort, .notices] u (frameFinished f u) :=
  finishFrame_frame_scan f u

theorem dropLead_notices_comp (s : State) : (dropLead s).notices.comp = s.notices.comp := by
  unfold dropLead
  split <;> rfl

theorem replyScan_notices_comp (s : State) : (replyScan s).notices.comp = s.notices.comp := by
  have hpick (k : ReplySlot) : (pickSlot k s).notices.comp = s.notices.comp := by
    unfold pickSlot
    split
    · exact dropLead_notices_comp s
    · rfl
  unfold replyScan
  split
  · rfl
  · exact hpick _

theorem frameFinished_notices_comp (f : RadioFrame) (u : State) : (frameFinished f u).notices.comp = u.notices.comp := by
  unfold frameFinished
  split
  · exact replyScan_notices_comp _
  · rfl

theorem frameFinished_notices {f : RadioFrame} (h : f.header.getLsbD 1 = false) (u : State) :
    (frameFinished f u).notices = u.notices := by
  have hpermit : ¬framePermit f = true := by rw [framePermit, h]; decide
  unfold frameFinished
  rw [if_neg hpermit]
  rfl

theorem profile_frameBefore (f : RadioFrame) (s : State) : (frameBefore f s).profile = s.profile :=
  makeLive_profile .radio (counted f s)

theorem frameDelivered_frame (f : RadioFrame) (s : State) : SameExcept contextTouches (frameBefore f s) (frameDelivered f s) :=
  SameExcept.foldl deliverItem_frame f.items _

theorem breakawayTests_frame (before : State) (items : List RadioItem) (s : State) :
    SameExcept resolveTouches s (breakawayTests before items Fn.all s) :=
  SameExcept.foldl (breakawayTest_frame before items) Fn.all s

/-! ### What moves a slot that no item writes -/

/-- The slot stands, or it was FRESH and is TAKEN (R22). -/
def SlotMoves (x y : Slot) : Prop := y = x ∨ (x.state = .fresh ∧ y = { x with state := .taken })

theorem SlotMoves.refl (x : Slot) : SlotMoves x x := .inl rfl

theorem SlotMoves.trans {x y z : Slot} (h : SlotMoves x y) (h' : SlotMoves y z) : SlotMoves x z := by
  obtain rfl | ⟨hfresh, rfl⟩ := h
  · exact h'
  · obtain rfl | ⟨hno, _⟩ := h'
    · exact .inr ⟨hfresh, rfl⟩
    · cases hno

theorem SlotMoves.eq_of_notFresh {x y : Slot} (h : SlotMoves x y) (hx : x.state ≠ .fresh) : y = x :=
  h.elim id fun h => absurd h.1 hx

theorem SlotMoves.confirmed {x y : Slot} (h : SlotMoves x y) : y.confirmed = x.confirmed := by
  obtain rfl | ⟨_, rfl⟩ := h
  · rfl
  · rfl

theorem SlotMoves.notFresh {x y : Slot} (h : SlotMoves x y) (hx : x.state ≠ .fresh) : y.state ≠ .fresh := by
  rw [h.eq_of_notFresh hx]
  exact hx

theorem ResolvedWhere.slotMoves {which : Fn → Prop} {marks : Fn → Bool} {slots : Master → Fn → Slot} {s t : State}
    (h : ResolvedWhere which marks slots s t) (m : Master) (f : Fn) : SlotMoves (slots m f) (slotOf t m f) := by
  obtain ⟨htakes, hstands⟩ := (h f).2.2 m
  by_cases hwhich : which f ∧ (slots m f).state = .fresh
  · exact .inr ⟨hwhich.2, htakes hwhich.1 hwhich.2⟩
  · exact .inl (hstands (not_and_or.mp hwhich))

/-- The bar leaves the radio's slots, but for those that its resolutions take. -/
theorem BarWritten.slotMoves {b : Bool} {s t : State} (h : BarWritten b s t) (f : Fn) :
    SlotMoves (slotOf s .radio f) (slotOf t .radio f) := by
  obtain ⟨hsame, hchanged⟩ := h
  by_cases hb : s.comp.barred = b
  · rw [hsame hb]
    exact .refl _
  obtain ⟨_, _, hlost, hreturns, _, hgone, hmarks, _⟩ := hchanged hb
  have hkept : unconfirmed .companion s .radio f = slotOf s .radio f := if_neg fun h => nomatch h.1
  by_cases hlive : s.comp.state = .live
  · cases b with
    | true => exact (hlost hlive rfl).1.slotMoves .radio f
    | false => exact hkept ▸ (hreturns hlive rfl).1.slotMoves .radio f
  · cases b with
    | true => exact (hgone hlive rfl).slotMoves .radio f
    | false => exact hkept ▸ (hmarks hlive rfl).slotMoves .radio f

/-- An item that does not write a function leaves its radio slot, but for a resolution that takes it. -/
theorem slotMoves_deliverItem {s : State} {x : RadioItem} {f : Fn} (hno : ¬ItemWrites s f x) :
    SlotMoves (slotOf s .radio f) (slotOf (deliverItem s x) .radio f) := by
  have hcounted {t : State} (h : CountedUnmatched s t) : SlotMoves (slotOf s .radio f) (slotOf t .radio f) :=
    .inl (h.2.slotOf (by decide) .radio f)
  have hitem := itemDelivered_deliverItem s x
  unfold ItemDelivered at hitem
  cases hmatch : matchEntry s.profile.map (itemTag x) with
  | none =>
    rw [hmatch] at hitem
    exact hcounted hitem
  | some e =>
    rw [hmatch] at hitem
    dsimp only at hitem
    cases htarget : e.target with
    | fn g =>
      rw [htarget] at hitem
      obtain ⟨hin, hout⟩ := hitem
      by_cases hmask : (fnMask s .radio).getLsbD (fnNumber g) = true
      · have hne : f ≠ g := fun hfg => hno ⟨hfg ▸ hmask, e, hmatch, hfg ▸ htarget⟩
        obtain ⟨_, _, hother, _⟩ := hin hmask
        exact .inl (hother .radio f hne)
      · exact hcounted (hout (by simpa using hmask))
    | flag i =>
      rw [htarget] at hitem
      obtain ⟨_, _, _, hframe⟩ := hitem
      exact .inl (hframe.slotOf (by decide) .radio f)
    | bar =>
      rw [htarget] at hitem
      exact hitem.slotMoves f
    | none =>
      rw [htarget] at hitem
      exact hcounted hitem

/-- An item that writes a function, by the entry that takes it (R31). -/
theorem slotWritten_deliverItem {s : State} {x : RadioItem} {e : MapEntry} {f : Fn}
    (hmatch : matchEntry s.profile.map (itemTag x) = some e) (htarget : e.target = .fn f)
    (hmask : (fnMask s .radio).getLsbD (fnNumber f) = true) :
    SlotWritten .radio f (demandOf e f (itemRaw x)) s (deliverItem s x) := by
  have hitem := itemDelivered_deliverItem s x
  unfold ItemDelivered at hitem
  rw [hmatch] at hitem
  dsimp only at hitem
  rw [htarget] at hitem
  exact hitem.1 hmask

theorem notFresh_deliverItem {s : State} {x : RadioItem} {f : Fn} (hf : f ≠ .steermode)
    (hfresh : (slotOf s .radio f).state ≠ .fresh) : (slotOf (deliverItem s x) .radio f).state ≠ .fresh := by
  by_cases hwrites : ItemWrites s f x
  · obtain ⟨hmask, e, hmatch, htarget⟩ := hwrites
    rw [((slotWritten_deliverItem hmatch htarget hmask).taken hf hfresh).2.2]
    decide
  · exact (slotMoves_deliverItem hwrites).notFresh hfresh

theorem profile_deliverItem (s : State) (x : RadioItem) : (deliverItem s x).profile = s.profile :=
  deliverItem_frame s x .profile (by decide)

theorem profile_foldl_deliverItem (items : List RadioItem) (s : State) : (items.foldl deliverItem s).profile = s.profile :=
  SameExcept.foldl deliverItem_frame items s .profile (by decide)

theorem slotMoves_foldl_deliverItem {f : Fn} : ∀ {items : List RadioItem} {s : State}, (∀ x ∈ items, ¬ItemWrites s f x) →
    SlotMoves (slotOf s .radio f) (slotOf (items.foldl deliverItem s) .radio f)
  | [], _, _ => .refl _
  | x :: xs, s, h =>
    (slotMoves_deliverItem (h x List.mem_cons_self)).trans (slotMoves_foldl_deliverItem fun y hy => by
      rw [itemWrites_congr (profile_deliverItem s x)]
      exact h y (List.mem_cons_of_mem _ hy))

theorem notFresh_foldl_deliverItem {f : Fn} (hf : f ≠ .steermode) : ∀ (items : List RadioItem) (s : State),
    (slotOf s .radio f).state ≠ .fresh → (slotOf (items.foldl deliverItem s) .radio f).state ≠ .fresh
  | [], _, h => h
  | _ :: xs, _, h => notFresh_foldl_deliverItem hf xs _ (notFresh_deliverItem hf h)

/-- The last item of a function leaves its value in the radio slot (R35). -/
theorem foldl_deliverItem_last {before after : List RadioItem} {x : RadioItem} {s : State} {e : MapEntry} {f : Fn}
    (hmatch : matchEntry s.profile.map (itemTag x) = some e) (htarget : e.target = .fn f)
    (hmask : (fnMask s .radio).getLsbD (fnNumber f) = true) (hafter : ∀ y ∈ after, ¬ItemWrites s f y) (hf : f ≠ .steermode)
    (hfresh : (slotOf s .radio f).state ≠ .fresh) :
    let t := (before ++ x :: after).foldl deliverItem s
    (slotOf t .radio f).value = some (demandOf e f (itemRaw x)) ∧ (slotOf t .radio f).age = 0
      ∧ (slotOf t .radio f).state = .taken := by
  intro t
  have hprofile := profile_foldl_deliverItem before s
  have hmask' : (fnMask (before.foldl deliverItem s) .radio).getLsbD (fnNumber f) = true := by
    unfold fnMask
    rw [hprofile]
    exact hmask
  have hwritten := (slotWritten_deliverItem (s := before.foldl deliverItem s) (by rw [hprofile]; exact hmatch) htarget hmask').taken
    hf (notFresh_foldl_deliverItem hf before s hfresh)
  rw [fnClamp_demand e f (itemRaw_lt x)] at hwritten
  have hstays : slotOf t .radio f = slotOf (deliverItem (before.foldl deliverItem s) x) .radio f := by
    show slotOf ((before ++ x :: after).foldl deliverItem s) .radio f = _
    rw [List.foldl_append, List.foldl_cons]
    refine (slotMoves_foldl_deliverItem fun y hy => ?_).eq_of_notFresh (by rw [hwritten.2.2]; decide)
    rw [itemWrites_congr (profile_deliverItem _ x), itemWrites_congr hprofile]
    exact hafter y hy
  rw [hstays]
  exact hwritten

/-- A radio slot once the radio is heard. -/
theorem slotMoves_frameBefore (f : RadioFrame) (s : State) (g : Fn) :
    SlotMoves (if s.radio.state = .live then slotOf s .radio g else unconfirmed .radio s .radio g)
      (slotOf (frameBefore f s) .radio g) := by
  obtain ⟨_, _, hlive, hreturns⟩ := frameHeard_makeLive f s
  by_cases h : s.radio.state = .live
  · rw [if_pos h]
    exact .inl ((hlive h).slotOf (by decide) .radio g)
  · rw [if_neg h]
    exact (hreturns h).1.1.slotMoves .radio g

theorem notFresh_frameBefore {f : RadioFrame} {s : State} {g : Fn} (h : (slotOf s .radio g).state ≠ .fresh) :
    (slotOf (frameBefore f s) .radio g).state ≠ .fresh := by
  refine (slotMoves_frameBefore f s g).notFresh ?_
  split
  · exact h
  · rw [unconfirmed_eq]
    exact h

theorem slotMoves_frameTested (f : RadioFrame) (s : State) (g : Fn) :
    SlotMoves (slotOf (frameDelivered f s) .radio g) (slotOf (frameTested f s) .radio g) :=
  (breakawayTested_breakawayTests (frameBefore f s) f.items (frameDelivered f s)).1.slotMoves .radio g

end Sys2Proof.Machine
end

section
/-! PROOFS. A frame of one item, and the whole of a frame (R31, R34, R35, R55). -/
namespace Sys2Proof.Machine

/-! ### Stages of a frame of one item -/

theorem frameBefore_of_live {f : RadioFrame} {s : State} (h : s.radio.state = .live) :
    frameBefore f s = loadTimer .radio (counted f s) := makeLive_radio_of_live (s := counted f s) h

theorem frameBefore_frame {f : RadioFrame} {s : State} (h : s.radio.state = .live) :
    SameExcept [.radio, .radioPort] s (frameBefore f s) := by
  obtain ⟨_, _, hlive, _⟩ := frameHeard_makeLive f s
  exact hlive h

/-- Before and after the item: what the frame around it changes is in the two radio records and the pending sets. -/
structure AroundItem (s u v t : State) : Prop where
  before : SameExcept [.radio, .radioPort] s u
  live : u.radio.state = s.radio.state
  after : SameExcept [.radioPort, .notices] v t
  notices : t.notices.comp = v.notices.comp

theorem breakawayTests_of_rests {before : State} {items : List RadioItem} {fs : List Fn} {s : State}
    (h : ∀ f, (grantOf s f).held = none ∨ ¬∃ x ∈ items, ItemWrites s f x) : breakawayTests before items fs s = s := by
  induction fs with
  | nil => rfl
  | cons f fs ih =>
    have hstep : breakawayTest before items s f = s := breakawayTest_of_rests ((h f).imp_right .inl)
    have hcons : breakawayTests before items (f :: fs) s = breakawayTests before items fs (breakawayTest before items s f) := rfl
    rw [hcons, hstep, ih]

theorem frameDelivered_of_one {f : RadioFrame} {x : RadioItem} (h : f.items = [x]) (s : State) :
    frameDelivered f s = deliverItem (frameBefore f s) x := by
  rw [frameDelivered, h]
  rfl

theorem frameTested_of_one {f : RadioFrame} {x : RadioItem} (h : f.items = [x]) (s : State) :
    frameTested f s = breakawayTests (frameBefore f s) [x] Fn.all (deliverItem (frameBefore f s) x) := by
  rw [frameTested, frameDelivered_of_one h, h]

theorem aroundItem {f : RadioFrame} {s v : State} (hlive : s.radio.state = .live) (htested : frameTested f s = v) :
    AroundItem s (frameBefore f s) v (frameFinished f (frameTested f s)) where
  before := frameBefore_frame hlive
  live := by
    rw [frameBefore_of_live hlive]
    exact hlive.symm
  after := htested ▸ frameFinished_frame f _
  notices := by rw [frameFinished_notices_comp, htested]

/-! ### What holds around the item holds of the frame -/

section
variable {s u v t : State}

theorem AroundItem.deciders (h : AroundItem s u v t) (f : Fn) : SameDeciders f v t :=
  sameDeciders_of_frame h.after (by decide) f

theorem AroundItem.effOf_before (h : AroundItem s u v t) (f : Fn) : effOf u f = effOf s f := h.before.effOf (by decide) f

theorem AroundItem.effOf_after (h : AroundItem s u v t) (f : Fn) : effOf t f = effOf v f := h.after.effOf (by decide) f

theorem AroundItem.slotOf_before (h : AroundItem s u v t) (m : Master) (f : Fn) : slotOf u m f = slotOf s m f :=
  h.before.slotOf (by decide) m f

theorem AroundItem.slotOf_after (h : AroundItem s u v t) (m : Master) (f : Fn) : slotOf t m f = slotOf v m f :=
  h.after.slotOf (by decide) m f

theorem AroundItem.grantOf_before (h : AroundItem s u v t) (f : Fn) : grantOf u f = grantOf s f :=
  h.before.grantOf (by decide) f

theorem AroundItem.grantOf_after (h : AroundItem s u v t) (f : Fn) : grantOf t f = grantOf v f :=
  h.after.grantOf (by decide) f

theorem AroundItem.profile (h : AroundItem s u v t) : u.profile = s.profile := h.before .profile (by decide)

theorem AroundItem.resolvable (h : AroundItem s u v t) (f : Fn) : Resolvable u f ↔ Resolvable s f := by
  have hsteering : u.steering = s.steering := h.before .steering (by decide)
  unfold Resolvable
  rw [hsteering]

theorem AroundItem.resolved (h : AroundItem s u v t) {f : Fn} {byMark : Bool} (hv : Resolved (effOf u f) byMark v f) :
    Resolved (effOf s f) byMark t f := by
  rw [← h.effOf_before]
  exact hv.of_same (h.deciders f) (h.effOf_after f)

theorem AroundItem.raised (h : AroundItem s u v t) {k : Notice} (hv : Raised k u v) :
    s.profile.sources.compNotices.getLsbD (noticeNumber k) = true → t.notices.comp.getLsbD (noticeNumber k) = true := by
  rw [h.notices, ← h.profile]
  exact hv.2

theorem AroundItem.handedBefore (h : AroundItem s u v t) : SameHanding u s := (SameHanding.of_frame h.before (by decide)).symm

theorem AroundItem.handedAfter (h : AroundItem s u v t) : SameHanding v t := .of_frame h.after (by decide)

theorem AroundItem.resolvedWhere (h : AroundItem s u v t) {which which' : Fn → Prop} {marks marks' : Fn → Bool}
    {slots slots' : Master → Fn → Slot} (hwhich : ∀ f, which f ↔ which' f) (hmarks : ∀ f, marks f = marks' f)
    (hslots : ∀ m f, slots m f = slots' m f) (hv : ResolvedWhere which marks slots u v) :
    ResolvedWhere which' marks' slots' s t := by
  intro f
  obtain ⟨hon, hoff, hmoves⟩ := hv f
  rw [← hwhich, ← hmarks, ← h.effOf_before, h.effOf_after]
  refine ⟨fun hf => (hon hf).of_same (h.deciders f) (h.effOf_after f), hoff, fun m => ?_⟩
  rw [← hslots, h.slotOf_after]
  exact hmoves m

theorem AroundItem.losesMark (h : AroundItem s u v t) (m : Master) (f : Fn) : losesMark m u f = losesMark m s f := by
  unfold Machine.losesMark
  rw [h.slotOf_before]

theorem AroundItem.unconfirmed (h : AroundItem s u v t) (m m' : Master) (f : Fn) :
    unconfirmed m u m' f = unconfirmed m s m' f := by
  unfold Machine.unconfirmed
  rw [h.slotOf_before]

theorem AroundItem.masterReturns (h : AroundItem s u v t) {m : Master} (hv : MasterReturns m u v) : MasterReturns m s t := by
  obtain ⟨hresolved, hgrants⟩ := hv
  refine ⟨h.resolvedWhere h.resolvable (h.losesMark m) (h.unconfirmed m) hresolved, fun f => ?_⟩
  rw [h.grantOf_after, hgrants, h.grantOf_before]

end

/-! ### Items that write no slot -/

theorem noWrites_of_entry {s : State} {x : RadioItem} {e : MapEntry} (hmatch : matchEntry s.profile.map (itemTag x) = some e)
    (htarget : ∀ f, e.target ≠ .fn f) (f : Fn) : ¬ItemWrites s f x := by
  rintro ⟨_, e', hmatch', htarget'⟩
  obtain rfl : e = e' := Option.some_inj.mp (hmatch.symm.trans hmatch')
  exact htarget f htarget'

/-- A frame of one item that writes no slot is its delivery alone. -/
theorem frameTested_of_noWrites {f : RadioFrame} {s : State} {x : RadioItem} (hone : f.items = [x])
    (hno : ∀ g, ¬ItemWrites s g x) : frameTested f s = deliverItem (frameBefore f s) x := by
  rw [frameTested_of_one hone]
  refine breakawayTests_of_rests fun g => .inr ?_
  rintro ⟨y, hy, hwrites⟩
  obtain rfl := List.mem_singleton.mp hy
  rw [itemWrites_congr (profile_deliverItem _ _), itemWrites_congr (profile_frameBefore f s)] at hwrites
  exact hno g hwrites

theorem deliverItem_of_target {s : State} {x : RadioItem} {e : MapEntry} {f : RadioFrame}
    (hmatch : matchEntry s.profile.map (itemTag x) = some e) :
    deliverItem (frameBefore f s) x = deliverTo e (itemRaw x) (frameBefore f s) :=
  deliverItem_of_some (by rw [profile_frameBefore]; exact hmatch)

end Sys2Proof.Machine
end

section
/-! PROOFS. What a frame of one item does to the function, the flag or the bar that it names (R31, R34, R35, R55). -/
namespace Sys2Proof.Machine

/-! ### A written slot that does not wait -/

/-- A write is handed to the resolver (R21, R26). -/
def Handed (s : State) (m : Master) (f : Fn) (v : Int) : Prop :=
  (slotOf s m f).state ≠ .taken ∨ (slotOf s m f).value ≠ some v ∨ newMark s f v (slotOf s m f) = true

theorem handed_iff {s : State} {m : Master} {f : Fn} (hfresh : (slotOf s m f).state ≠ .fresh) (v : Int) :
    ((slotOf s m f).state = .empty ∨ (slotOf s m f).state = .stale ∨ (slotOf s m f).value ≠ some v
      ∨ newMark s f v (slotOf s m f) = true) ↔ Handed s m f v := by
  rw [← or_assoc]
  refine or_congr ?_ Iff.rfl
  cases hstate : (slotOf s m f).state with
  | fresh => exact absurd hstate hfresh
  | _ => simp

theorem confirmed_or_newMark (s : State) (f : Fn) (v : Int) (x : Slot) :
    (x.confirmed || (hasMark f && decide (v.natAbs ≤ s.profile.drive.neutralBand))) = (x.confirmed || newMark s f v x) := by
  unfold newMark
  cases x.confirmed
  · rfl
  · rfl

theorem SlotWritten.slot {m : Master} {f : Fn} {raw : Int} {s t : State} (h : SlotWritten m f raw s t)
    (hranged : max (fnLow f) (min (fnHigh f) raw) = raw) (hfresh : (slotOf s m f).state ≠ .fresh) :
    ((f = .steermode ∧ s.steering.state = .slewing) ∧ Handed s m f raw → (slotOf t m f).state = .fresh)
      ∧ (¬((f = .steermode ∧ s.steering.state = .slewing) ∧ Handed s m f raw) → (slotOf t m f).state = .taken)
      ∧ slotOf t m f =
        { slotOf s m f with
          value := some raw, offered := some raw, age := 0, state := (slotOf t m f).state
          seq := if (slotOf s m f).value = some raw then (slotOf s m f).seq else (slotOf s m f).seq + 1
          confirmed := (slotOf s m f).confirmed || newMark s f raw (slotOf s m f) } := by
  obtain ⟨hslot, _⟩ := h
  rw [hranged, slotAfter, if_neg (show ¬((f = .steermode ∧ s.steering.state = .slewing) ∧ (slotOf s m f).state = .fresh) from
    fun h => hfresh h.2), confirmed_or_newMark] at hslot
  have hhanded := handed_iff hfresh raw
  refine ⟨fun hw => ?_, fun hw => ?_, ?_⟩
  · rw [hslot]
    exact (if_pos (hhanded.mpr hw.2)).trans (if_pos hw.1)
  · rw [hslot]
    by_cases hh : Handed s m f raw
    · exact (if_pos (hhanded.mpr hh)).trans (if_neg fun hb => hw ⟨hb, hh⟩)
    · exact (if_neg (mt hhanded.mp hh)).trans (not_not.mp fun hne => hh (.inl hne))
  · rw [hslot]

/-! ### A function's item -/

section
variable {s : State} {fr : RadioFrame} {x : RadioItem} {e : MapEntry} {f : Fn}

/-- The item writes its function's radio slot. -/
theorem slotWritten_oneItem (hmatch : matchEntry s.profile.map (itemTag x) = some e) (htarget : e.target = .fn f)
    (hmask : (fnMask s .radio).getLsbD (fnNumber f) = true) :
    SlotWritten .radio f (demandOf e f (itemRaw x)) (frameBefore fr s) (deliverItem (frameBefore fr s) x) := by
  refine slotWritten_deliverItem (by rw [profile_frameBefore]; exact hmatch) htarget ?_
  unfold fnMask
  rw [profile_frameBefore]
  exact hmask

theorem itemWrites_oneItem (hmatch : matchEntry s.profile.map (itemTag x) = some e) (htarget : e.target = .fn f)
    (hmask : (fnMask s .radio).getLsbD (fnNumber f) = true) {t : State} (ht : t.profile = s.profile) (g : Fn) :
    (∃ y ∈ [x], ItemWrites t g y) ↔ g = f := by
  simp only [List.mem_singleton, exists_eq_left]
  rw [itemWrites_congr ht]
  constructor
  · rintro ⟨_, e', hmatch', htarget'⟩
    obtain rfl : e = e' := Option.some_inj.mp (hmatch.symm.trans hmatch')
    exact Target.fn.inj (htarget'.symm.trans htarget)
  · rintro rfl
    exact ⟨hmask, e, hmatch, htarget⟩

/-- Without a grant the frame is the delivery alone. -/
theorem frameTested_of_noGrant (hone : fr.items = [x]) (hlive : s.radio.state = .live)
    (hmatch : matchEntry s.profile.map (itemTag x) = some e) (htarget : e.target = .fn f)
    (hmask : (fnMask s .radio).getLsbD (fnNumber f) = true) (hnone : (grantOf s f).held = none) :
    frameTested fr s = deliverItem (frameBefore fr s) x := by
  have hprofile : (deliverItem (frameBefore fr s) x).profile = s.profile :=
    (profile_deliverItem _ x).trans (profile_frameBefore fr s)
  rw [frameTested_of_one hone]
  refine breakawayTests_of_rests fun g => ?_
  rw [itemWrites_oneItem hmatch htarget hmask hprofile]
  by_cases hg : g = f
  · subst hg
    obtain ⟨_, _, _, hgrants, _⟩ := slotWritten_oneItem (fr := fr) hmatch htarget hmask
    refine .inl ?_
    rw [hgrants, (frameBefore_frame hlive).grantOf (by decide), hnone]
  · exact .inr hg

/-- Functions that the item does not name keep slots, entry and grant; the function named keeps the slot that the item left. -/
theorem others_oneItem (hone : fr.items = [x]) (hlive : s.radio.state = .live)
    (hmatch : matchEntry s.profile.map (itemTag x) = some e) (htarget : e.target = .fn f)
    (hmask : (fnMask s .radio).getLsbD (fnNumber f) = true) (hfresh : (slotOf s .radio f).state ≠ .fresh) :
    (∀ m g, g ≠ f → slotOf (frameTested fr s) m g = slotOf s m g)
      ∧ (∀ g, g ≠ f → effOf (frameTested fr s) g = effOf s g ∧ grantOf (frameTested fr s) g = grantOf s g)
      ∧ slotOf (frameTested fr s) .radio f = slotOf (deliverItem (frameBefore fr s) x) .radio f := by
  have hbefore := frameBefore_frame (f := fr) hlive
  have hwritten := slotWritten_oneItem (fr := fr) hmatch htarget hmask
  obtain ⟨_, htakenAfter, _⟩ := hwritten.slot (fnClamp_demand e f (itemRaw_lt x))
    (by rw [hbefore.slotOf (by decide)]; exact hfresh)
  have hprofile : (deliverItem (frameBefore fr s) x).profile = s.profile :=
    (profile_deliverItem _ x).trans (profile_frameBefore fr s)
  obtain ⟨htested, hgrants, _⟩ := breakawayTested_breakawayTests (frameBefore fr s) [x] (deliverItem (frameBefore fr s) x)
  rw [← frameTested_of_one hone] at htested hgrants
  have hwrote := itemWrites_oneItem hmatch htarget hmask hprofile
  have hbusy : f = .steermode ∧ (frameBefore fr s).steering.state = .slewing →
      ¬Resolvable (deliverItem (frameBefore fr s) x) f := fun ⟨hf, hslew⟩ hfree => by
    obtain ⟨_, hrests⟩ := hwritten.rests (.inr fun h => h.elim (fun h => h hf) fun h => h hslew)
    have hsteering : (deliverItem (frameBefore fr s) x).steering = (frameBefore fr s).steering := hrests .steering (by decide)
    rw [Resolvable, hsteering] at hfree
    exact hfree.elim (fun h => h hf) fun h => h hslew
  obtain ⟨_, _, hslots, hgrantsKept, heffs, _⟩ := hwritten
  refine ⟨fun m g hg => ?_, fun g hg => ⟨?_, ?_⟩, ?_⟩
  · obtain ⟨_, _, hmoves⟩ := htested g
    rw [(hmoves m).2 (.inl fun h => hg ((hwrote g).mp h.1.1)), hslots m g hg, hbefore.slotOf (by decide)]
  · obtain ⟨_, hoff, _⟩ := htested g
    rw [hoff fun h => hg ((hwrote g).mp h.1.1), heffs g hg, hbefore.effOf (by decide)]
  · obtain ⟨_, _, hrests⟩ := hgrants g
    rw [hrests (.inr (.inl fun h => hg ((hwrote g).mp h))), hgrantsKept, hbefore.grantOf (by decide)]
  · obtain ⟨_, _, hmoves⟩ := htested f
    by_cases hwaits : (f = .steermode ∧ (frameBefore fr s).steering.state = .slewing)
        ∧ Handed (frameBefore fr s) .radio f (demandOf e f (itemRaw x))
    · exact (hmoves .radio).2 (.inl fun h => hbusy hwaits.1 h.2)
    · exact (hmoves .radio).2 (.inr (by rw [htakenAfter hwaits]; decide))

/-- A grant held on the function has its breakaway tested on the value written (R55). -/
theorem grants_oneItem (hone : fr.items = [x]) (hlive : s.radio.state = .live)
    (hmatch : matchEntry s.profile.map (itemTag x) = some e) (htarget : e.target = .fn f)
    (hmask : (fnMask s .radio).getLsbD (fnNumber f) = true) (hfresh : (slotOf s .radio f).state ≠ .fresh) {h : HeldGrant}
    (hheld : (grantOf s f).held = some h) :
    let v := demandOf e f (itemRaw x)
    let t := frameTested fr s
    let ended := grantOf t f = ⟨none, some .breakaway⟩ ∧ Raised .grantEnded s t
    (isNumeric f = true → (authOf s f).breakaway ≤ v.natAbs → 1 ≤ h.breakaway → ended)
      ∧ (isNumeric f = true → (authOf s f).breakaway ≤ v.natAbs → h.breakaway = 0 →
        grantOf t f = { grantOf s f with held := some { h with breakaway := 1 } })
      ∧ (isNumeric f = true → v.natAbs < (authOf s f).breakaway →
        grantOf t f = { grantOf s f with held := some { h with breakaway := 0 } })
      ∧ (isNumeric f = false → (slotOf s .radio f).value ≠ some v → ended)
      ∧ (isNumeric f = false → (slotOf s .radio f).value = some v → grantOf t f = grantOf s f) := by
  intro v t ended
  have hbefore := frameBefore_frame (f := fr) hlive
  have hwritten := slotWritten_oneItem (fr := fr) hmatch htarget hmask
  have hslot : slotOf (frameBefore fr s) .radio f = slotOf s .radio f := hbefore.slotOf (by decide) .radio f
  obtain ⟨_, _, hrecord⟩ := hwritten.slot (fnClamp_demand e f (itemRaw_lt x)) (by rw [hslot]; exact hfresh)
  obtain ⟨_, _, _, hgrantsKept, _, _, _, hframe⟩ := hwritten
  have hprofile : (deliverItem (frameBefore fr s) x).profile = s.profile :=
    (profile_deliverItem _ x).trans (profile_frameBefore fr s)
  have hwrote : ∃ y ∈ [x], ItemWrites (deliverItem (frameBefore fr s) x) f y :=
    (itemWrites_oneItem hmatch htarget hmask hprofile f).mpr rfl
  have hgrant : grantOf (deliverItem (frameBefore fr s) x) f = grantOf s f :=
    (hgrantsKept f).trans (hbefore.grantOf (by decide) f)
  have hauth : authOf (deliverItem (frameBefore fr s) x) f = authOf s f := by
    unfold authOf
    rw [hprofile]
  have hvalue : ((slotOf (deliverItem (frameBefore fr s) x) .radio f).value).getD 0 = v := by
    rw [hrecord]
    rfl
  have hseq : (slotOf (deliverItem (frameBefore fr s) x) .radio f).seq =
      if (slotOf s .radio f).value = some v then (slotOf s .radio f).seq else (slotOf s .radio f).seq + 1 := by
    rw [hrecord, hslot]
  have hheldAfter : (grantOf (deliverItem (frameBefore fr s) x) f).held = some h := by rw [hgrant, hheld]
  have hraisedFrom (k : Notice) : Raised k (deliverItem (frameBefore fr s) x) t → Raised k s t := fun hr => hr.of_profile hprofile
  have ht : t = breakawayTests (frameBefore fr s) [x] Fn.all (deliverItem (frameBefore fr s) x) := frameTested_of_one hone s
  have hends (hb : BreaksAway (frameBefore fr s) (deliverItem (frameBefore fr s) x) f) : ended := by
    refine ⟨?_, hraisedFrom _ ?_⟩
    · rw [ht]
      exact grant_of_breaks hwrote hb
    · rw [ht]
      exact raised_breakawayTests (Fn.mem_all f) hwrote hb
  have hcounts (hnum : isNumeric f = true) (hno : ¬BreaksAway (frameBefore fr s) (deliverItem (frameBefore fr s) x) f) :=
    grant_of_counts hheldAfter hwrote hnum hno
  rw [hauth, hvalue, hgrant, ← ht] at hcounts
  have hbreaks : BreaksAway (frameBefore fr s) (deliverItem (frameBefore fr s) x) f ↔
      (isNumeric f = true → (authOf s f).breakaway ≤ v.natAbs ∧ 1 ≤ h.breakaway)
        ∧ (isNumeric f = false → (slotOf s .radio f).value ≠ some v) := by
    have hadvances : (slotOf (deliverItem (frameBefore fr s) x) .radio f).seq ≠ (slotOf (frameBefore fr s) .radio f).seq ↔
        (slotOf s .radio f).value ≠ some v := by
      rw [hseq, hslot]
      by_cases hsame : (slotOf s .radio f).value = some v
      · simp [hsame]
      · simp [hsame]
    unfold BreaksAway
    rw [hheldAfter, hauth, hvalue, hadvances]
    constructor
    · rintro ⟨_, heq, hconditions⟩
      exact Option.some_inj.mp heq ▸ hconditions
    · exact fun hconditions => ⟨h, rfl, hconditions⟩
  have hnotDisc (hnum : isNumeric f = true) : ¬isNumeric f = false := by rw [hnum]; decide
  have hnotNum (hdisc : isNumeric f = false) : ¬isNumeric f = true := by rw [hdisc]; decide
  refine ⟨fun hnum hreaches hsecond => ?_, fun hnum hreaches hfirst => ?_, fun hnum hbelow => ?_, fun hdisc hnew => ?_,
    fun hdisc hsame => ?_⟩
  · exact hends (hbreaks.mpr ⟨fun _ => ⟨hreaches, hsecond⟩, fun hdisc => absurd hdisc (hnotDisc hnum)⟩)
  · refine (hcounts hnum fun hb => ?_).1 hreaches
    have := ((hbreaks.mp hb).1 hnum).2
    omega
  · refine (hcounts hnum fun hb => ?_).2 (by omega)
    have := ((hbreaks.mp hb).1 hnum).1
    omega
  · exact hends (hbreaks.mpr ⟨fun hnum => absurd hnum (hnotNum hdisc), fun _ => hnew⟩)
  · rw [ht, grant_of_rests (.inr (.inr ⟨hdisc, fun hb => (hbreaks.mp hb).2 hdisc hsame⟩)), hgrant]

end

end Sys2Proof.Machine
end

section
/-! PROOFS. A frame's items, each writing its slot, a flag or the bar (R3, R31, R34, R35, R55). -/
namespace Sys2Proof.Machine

section
variable {s : State} {fr : RadioFrame} {x : RadioItem} {e : MapEntry}

/-- A function's item, where no grant is held on it (R40). -/
theorem effect_oneItem {f : Fn} (hone : fr.items = [x]) (hlive : s.radio.state = .live)
    (hmatch : matchEntry s.profile.map (itemTag x) = some e) (htarget : e.target = .fn f)
    (hmask : (fnMask s .radio).getLsbD (fnNumber f) = true) (hfresh : (slotOf s .radio f).state ≠ .fresh)
    (hnone : (grantOf s f).held = none) :
    let v := demandOf e f (itemRaw x)
    let t := frameFinished fr (frameTested fr s)
    (Handed s .radio f v → ¬(f = .steermode ∧ s.steering.state = .slewing) →
        Resolved (effOf s f) (newMark s f v (slotOf s .radio f)) t f ∧ HandsOver f s t ∧ UnderlyingHanded s t
        ∧ (LimitEntered s t → s.profile.sources.compNotices.getLsbD 9 = true → t.notices.comp.getLsbD 9 = true))
      ∧ (¬Handed s .radio f v ∨ (f = .steermode ∧ s.steering.state = .slewing) →
        effOf t f = effOf s f ∧ SameExcept [.radio, .radioPort, .slots, .notices] s t) := by
  intro v t
  have htested := frameTested_of_noGrant hone hlive hmatch htarget hmask hnone
  have haround : AroundItem s (frameBefore fr s) (deliverItem (frameBefore fr s) x) t := aroundItem hlive htested
  have hwritten := slotWritten_oneItem (fr := fr) hmatch htarget hmask
  have hslot := haround.slotOf_before .radio f
  have hfreshBefore : (slotOf (frameBefore fr s) .radio f).state ≠ .fresh := by rw [hslot]; exact hfresh
  have hmark : newMark (frameBefore fr s) f v (slotOf (frameBefore fr s) .radio f) = newMark s f v (slotOf s .radio f) := by
    unfold newMark
    rw [hslot, haround.profile]
  have hhanded : Handed (frameBefore fr s) .radio f v ↔ Handed s .radio f v := by
    unfold Handed
    rw [hmark, hslot]
  have hclamp := fnClamp_demand e f (itemRaw_lt x)
  have hresolvable := haround.resolvable f
  refine ⟨fun hh hno => ?_, fun hno => ?_⟩
  · have hacts := hwritten.acts
    rw [hclamp] at hacts
    obtain ⟨hresolved, hover, hunder, hlimit, _⟩ :=
      hacts ((handed_iff hfreshBefore v).mpr (hhanded.mpr hh)) (hresolvable.mpr (not_and_or.mp hno))
    rw [hmark] at hresolved
    refine ⟨haround.resolved hresolved, haround.handedBefore.handsOver haround.handedAfter hover,
      haround.handedBefore.underlyingHanded haround.handedAfter hunder, fun hentered => ?_⟩
    exact haround.raised (hlimit ((haround.handedBefore.limitEntered haround.handedAfter).mp hentered))
  · have hrests := hwritten.rests
    rw [hclamp] at hrests
    obtain ⟨heff, hframe⟩ := hrests (hno.imp (fun h hh => h (hhanded.mp ((handed_iff hfreshBefore v).mp hh)))
      fun hb hfree => (not_and_or.mpr (hresolvable.mp hfree)) hb)
    refine ⟨by rw [haround.effOf_after, heff, haround.effOf_before], ?_⟩
    exact ((haround.before.mono (by decide)).trans (hframe.mono (by decide))).trans (haround.after.mono (by decide))

/-- The slot that a function's item leaves, where it did not wait (R21, R26). -/
theorem slot_oneItem {f : Fn} (hlive : s.radio.state = .live)
    (hmatch : matchEntry s.profile.map (itemTag x) = some e) (htarget : e.target = .fn f)
    (hmask : (fnMask s .radio).getLsbD (fnNumber f) = true) (hfresh : (slotOf s .radio f).state ≠ .fresh) :
    let old := slotOf s .radio f
    let v := demandOf e f (itemRaw x)
    let new := slotOf (deliverItem (frameBefore fr s) x) .radio f
    ((f = .steermode ∧ s.steering.state = .slewing) ∧ Handed s .radio f v → new.state = .fresh)
      ∧ (¬((f = .steermode ∧ s.steering.state = .slewing) ∧ Handed s .radio f v) → new.state = .taken)
      ∧ new =
        { old with
          value := some v, offered := some v, age := 0, state := new.state
          seq := if old.value = some v then old.seq else old.seq + 1
          confirmed := old.confirmed || newMark s f v old } := by
  intro old v new
  have hbefore := frameBefore_frame (f := fr) hlive
  have hslot : slotOf (frameBefore fr s) .radio f = old := hbefore.slotOf (by decide) .radio f
  have hprofile := profile_frameBefore fr s
  have hsteering : (frameBefore fr s).steering = s.steering := hbefore .steering (by decide)
  obtain ⟨hwaits, hrests, hrecord⟩ := (slotWritten_oneItem (fr := fr) hmatch htarget hmask).slot
    (fnClamp_demand e f (itemRaw_lt x)) (by rw [hslot]; exact hfresh)
  have hmark : newMark (frameBefore fr s) f v old = newMark s f v old := by
    unfold newMark
    rw [hprofile]
  have hhanded : Handed (frameBefore fr s) .radio f v ↔ Handed s .radio f v := by
    unfold Handed
    rw [hslot, hmark]
  rw [hhanded, hsteering] at hwaits hrests
  rw [hslot, hmark] at hrecord
  exact ⟨hwaits, hrests, hrecord⟩

/-- A FLAG item (R34). -/
theorem flag_oneItem {i : Fin 4} (hone : fr.items = [x]) (hlive : s.radio.state = .live)
    (hmatch : matchEntry s.profile.map (itemTag x) = some e) (htarget : e.target = .flag i) :
    let t := frameFinished fr (frameTested fr s)
    (t.radio.flags.getLsbD i.val = true ↔ 2048 ≤ itemRaw x)
      ∧ (∀ j : Fin 4, j ≠ i → t.radio.flags.getLsbD j.val = s.radio.flags.getLsbD j.val)
      ∧ t.radio.unmatched = s.radio.unmatched ∧ SameExcept [.radio, .radioPort, .notices] s t := by
  intro t
  have htested := frameTested_of_noWrites hone (noWrites_of_entry hmatch fun f h => by rw [htarget] at h; cases h)
  have hdelivers : deliverItem (frameBefore fr s) x = writeRadioFlag i (decide (2048 ≤ itemRaw x)) (frameBefore fr s) := by
    rw [deliverItem_of_target hmatch, deliverTo, htarget]
    rfl
  rw [hdelivers] at htested
  have haround : AroundItem s (frameBefore fr s) (writeRadioFlag i (decide (2048 ≤ itemRaw x)) (frameBefore fr s)) t :=
    aroundItem hlive htested
  obtain ⟨hradio, hset, hothers, hframe⟩ := flagWritten_writeRadioFlag i (decide (2048 ≤ itemRaw x)) (frameBefore fr s)
  have hlater : t.radio = (writeRadioFlag i (decide (2048 ≤ itemRaw x)) (frameBefore fr s)).radio :=
    haround.after .radio (by decide)
  have hflags : (frameBefore fr s).radio.flags = s.radio.flags ∧ (frameBefore fr s).radio.unmatched = s.radio.unmatched := by
    rw [frameBefore_of_live hlive]
    exact ⟨rfl, rfl⟩
  rw [hlater]
  refine ⟨?_, fun j hj => ?_, ?_, ?_⟩
  · rw [hset, decide_eq_true_iff]
  · rw [hothers j hj, hflags.1]
  · rw [hradio]
    exact hflags.2
  · exact ((haround.before.mono (by decide)).trans (hframe.mono (by decide))).trans (haround.after.mono (by decide))

/-- An item that no entry takes, or whose function lies outside the mask (R13, R31). -/
theorem unmatched_oneItem (hone : fr.items = [x]) (hlive : s.radio.state = .live)
    (hout : matchEntry s.profile.map (itemTag x) = none
      ∨ ∃ e f, matchEntry s.profile.map (itemTag x) = some e ∧ e.target = .fn f
          ∧ (fnMask s .radio).getLsbD (fnNumber f) = false) :
    let t := frameFinished fr (frameTested fr s)
    t.radio.unmatched = min 65535 (s.radio.unmatched + 1) ∧ t.radio.flags = s.radio.flags
      ∧ SameExcept [.radio, .radioPort, .notices] s t := by
  intro t
  have hno (g : Fn) : ¬ItemWrites s g x := by
    rintro ⟨hmask, e, hmatch, htarget⟩
    obtain hnone | ⟨e', f, hmatch', htarget', hmask'⟩ := hout
    · rw [hnone] at hmatch
      cases hmatch
    · obtain rfl : e' = e := Option.some_inj.mp (hmatch'.symm.trans hmatch)
      obtain rfl : f = g := Target.fn.inj (htarget'.symm.trans htarget)
      rw [hmask] at hmask'
      cases hmask'
  have hprofile := profile_frameBefore fr s
  have hdelivers : deliverItem (frameBefore fr s) x = countUnmatched (frameBefore fr s) := by
    obtain hnone | ⟨e, f, hmatch, htarget, hmask⟩ := hout
    · exact deliverItem_of_none (by rw [hprofile]; exact hnone)
    · have hreach : ¬radioReaches (frameBefore fr s) f = true := by
        rw [radioReaches, fnMask, hprofile]
        intro h
        exact absurd (h.symm.trans hmask) (by decide)
      rw [deliverItem_of_target hmatch, deliverTo, htarget]
      exact if_neg hreach
  have htested := frameTested_of_noWrites hone hno
  rw [hdelivers] at htested
  have haround : AroundItem s (frameBefore fr s) (countUnmatched (frameBefore fr s)) t := aroundItem hlive htested
  obtain ⟨hradio, hframe⟩ := countedUnmatched_countUnmatched (frameBefore fr s)
  have hlater : t.radio = (countUnmatched (frameBefore fr s)).radio := haround.after .radio (by decide)
  have hflags : (frameBefore fr s).radio.flags = s.radio.flags ∧ (frameBefore fr s).radio.unmatched = s.radio.unmatched := by
    rw [frameBefore_of_live hlive]
    exact ⟨rfl, rfl⟩
  rw [hlater, hradio]
  refine ⟨?_, hflags.1, ?_⟩
  · show min 65535 ((frameBefore fr s).radio.unmatched + 1) = _
    rw [hflags.2]
  · exact ((haround.before.mono (by decide)).trans (hframe.mono (by decide))).trans (haround.after.mono (by decide))

/-- A BAR item (R11, R34). -/
theorem bar_oneItem (hone : fr.items = [x]) (hlive : s.radio.state = .live)
    (hmatch : matchEntry s.profile.map (itemTag x) = some e) (htarget : e.target = .bar) :
    let t := frameFinished fr (frameTested fr s)
    let b := decide (2048 ≤ itemRaw x)
    t.comp.barred = b ∧ t.comp.state = s.comp.state ∧ t.radio.flags = s.radio.flags
      ∧ t.radio.unmatched = s.radio.unmatched
      ∧ (s.comp.barred = b → SameExcept [.radio, .radioPort, .notices] s t)
      ∧ (s.comp.barred ≠ b →
          (s.profile.sources.compNotices.getLsbD 7 = true → t.notices.comp.getLsbD 7 = true)
          ∧ (b = true → s.comp.state = .live → ∀ f, (grantOf t f).held = none)
          ∧ (b = true → s.comp.state = .live → ∀ f, (grantOf s f).held.isSome = true →
              grantOf t f = ⟨none, some .lapse⟩
                ∧ (s.profile.sources.compNotices.getLsbD 6 = true → t.notices.comp.getLsbD 6 = true))
          ∧ (b = true → s.comp.state = .live →
              ResolvedWhere (Resolvable s) (fun _ => false) (slotOf s) s t)
          ∧ (b = false → s.comp.state = .live → MasterReturns .companion s t)
          ∧ (b = true → s.comp.state ≠ .live → ∀ f, effOf t f = effOf s f ∧ grantOf t f = grantOf s f)
          ∧ (b = false → s.comp.state ≠ .live →
              ResolvedWhere (fun f => losesMark .companion s f = true) (losesMark .companion s)
                (unconfirmed .companion s) s t)
          ∧ (b = false →
              (slotOf t .companion .drive).confirmed = false
                ∧ (slotOf t .companion .winch).confirmed = false)) := by
  intro t b
  have htested := frameTested_of_noWrites hone (noWrites_of_entry hmatch fun f h => by rw [htarget] at h; cases h)
  have hdelivers : deliverItem (frameBefore fr s) x = writeBar b (frameBefore fr s) := by
    rw [deliverItem_of_target hmatch, deliverTo, htarget]
    rfl
  rw [hdelivers] at htested
  have haround : AroundItem s (frameBefore fr s) (writeBar b (frameBefore fr s)) t := aroundItem hlive htested
  have hcompBefore : (frameBefore fr s).comp = s.comp := haround.before .comp (by decide)
  have hcompAfter : t.comp = { s.comp with barred := b } := by
    have hlater : t.comp = (writeBar b (frameBefore fr s)).comp := haround.after .comp (by decide)
    rw [hlater, writeBar_comp, hcompBefore]
  have hradio : t.radio = (frameBefore fr s).radio := by
    have hlater : t.radio = (writeBar b (frameBefore fr s)).radio := haround.after .radio (by decide)
    rw [hlater, writeBar_radio]
  have hflags : (frameBefore fr s).radio.flags = s.radio.flags ∧ (frameBefore fr s).radio.unmatched = s.radio.unmatched := by
    rw [frameBefore_of_live hlive]
    exact ⟨rfl, rfl⟩
  obtain ⟨hsame, hchanged⟩ := barWritten_writeBar b (frameBefore fr s)
  rw [hcompBefore] at hsame hchanged
  refine ⟨by rw [hcompAfter], by rw [hcompAfter], by rw [hradio, hflags.1], by rw [hradio, hflags.2], fun hstands => ?_,
    fun hchanges => ?_⟩
  · have hafter := haround.after
    rw [hsame hstands] at hafter
    exact (haround.before.mono (by decide)).trans (hafter.mono (by decide))
  obtain ⟨_, hraised, hlost, hreturns, hgrants, hgone, hmarks, _⟩ := hchanged hchanges
  have hended (hb : b = true) (hcomp : s.comp.state = .live) (f : Fn) (hheld : (grantOf s f).held.isSome = true) :
      grantOf t f = ⟨none, some .lapse⟩ ∧ Raised .grantEnded (frameBefore fr s) (writeBar b (frameBefore fr s)) := by
    obtain ⟨_, hends, _⟩ := hlost hcomp hb
    rw [haround.grantOf_after]
    exact (hends rfl f).1 (by rw [haround.grantOf_before]; exact hheld) trivial
  refine ⟨haround.raised hraised, fun hb hcomp f => ?_, fun hb hcomp f hheld => ?_, fun hb hcomp => ?_, fun hb hcomp => ?_,
    fun hb hcomp f => ?_, fun hb hcomp => ?_, fun hb => ?_⟩
  · cases hheld : (grantOf s f).held with
    | some h => rw [(hended hb hcomp f (by rw [hheld]; rfl)).1]
    | none =>
      obtain ⟨_, hends, _⟩ := hlost hcomp hb
      rw [haround.grantOf_after, (hends rfl f).2 (.inl (by rw [haround.grantOf_before, hheld])), haround.grantOf_before, hheld]
  · obtain ⟨hgrant, hr⟩ := hended hb hcomp f hheld
    exact ⟨hgrant, haround.raised hr⟩
  · exact haround.resolvedWhere haround.resolvable (fun _ => rfl) haround.slotOf_before (hlost hcomp hb).1
  · exact haround.masterReturns (hreturns hcomp hb)
  · refine ⟨?_, by rw [haround.grantOf_after, hgrants hcomp, haround.grantOf_before]⟩
    rw [haround.effOf_after, ((hgone hcomp hb) f).2.1 id, haround.effOf_before]
  · exact haround.resolvedWhere (fun f => by rw [haround.losesMark]) (haround.losesMark .companion)
      (haround.unconfirmed .companion) (hmarks hcomp hb)
  · have hcleared (f : Fn) (hf : hasMark f = true) : (slotOf t .companion f).confirmed = false := by
      have hmoves : SlotMoves (unconfirmed .companion (frameBefore fr s) .companion f)
          (slotOf (writeBar b (frameBefore fr s)) .companion f) := by
        by_cases hcomp : s.comp.state = .live
        · exact (hreturns hcomp hb).1.slotMoves .companion f
        · exact (hmarks hcomp hb).slotMoves .companion f
      rw [haround.slotOf_after, hmoves.confirmed, unconfirmed_eq]
      exact if_pos ⟨rfl, hf⟩
    exact ⟨hcleared .drive rfl, hcleared .winch rfl⟩

end

/-- Settles O20. -/
theorem radioItemWritesItsSlot : Obligations.RadioItemWritesItsSlot := by
  unfold Obligations.RadioItemWritesItsSlot
  refine ⟨fun s fr x hfree hf hbit hlive hone => ?oneItem, fun s fr hfree hf hbit => ?frame⟩
  case oneItem =>
    intro raw
    have hframe : SameExcept radioTouches s (frameFinished fr (frameTested fr s)) :=
      ((((frameBefore_frame hlive).mono (by decide)).trans ((frameDelivered_frame fr s).mono (by decide))).trans
        ((breakawayTests_frame _ _ _).mono (by decide))).trans ((frameFinished_frame fr _).mono (by decide))
    refine ⟨_, exec_frame hfree hf hbit, hframe, fun e f hmatch htarget hmask hfresh => ?_,
      fun e i hmatch htarget => flag_oneItem hone hlive hmatch htarget,
      fun e hmatch htarget => bar_oneItem hone hlive hmatch htarget, unmatched_oneItem hone hlive⟩
    intro old v marks handed waits
    have haround : AroundItem s (frameBefore fr s) (frameTested fr s) (frameFinished fr (frameTested fr s)) := aroundItem hlive rfl
    obtain ⟨hslots, hothers, hslot⟩ := others_oneItem hone hlive hmatch htarget hmask hfresh
    have hrested := (effect_oneItem hone hlive hmatch htarget hmask hfresh)
    refine ⟨?_, fun m g hg => ?_, fun g hg => ⟨?_, ?_⟩, fun hnone => ?_, fun hnone hh hno => (hrested hnone).1 hh hno,
      fun hnone hno => (hrested hnone).2 hno, fun h hheld => ?_⟩
    · obtain ⟨hwaiting, htaken, hrecord⟩ := slot_oneItem (fr := fr) hlive hmatch htarget hmask hfresh
      have hstate : (slotOf (deliverItem (frameBefore fr s) x) .radio f).state = if waits ∧ handed then .fresh else .taken := by
        by_cases h : waits ∧ handed
        · rw [if_pos h]
          exact hwaiting h
        · rw [if_neg h]
          exact htaken h
      rw [hstate] at hrecord
      rw [haround.slotOf_after, hslot]
      exact hrecord
    · rw [haround.slotOf_after, hslots m g hg]
    · rw [haround.effOf_after, (hothers g hg).1]
    · rw [haround.grantOf_after, (hothers g hg).2]
    · rw [haround.grantOf_after, frameTested_of_noGrant hone hlive hmatch htarget hmask hnone]
      obtain ⟨_, _, _, hgrants, _⟩ := slotWritten_oneItem (fr := fr) hmatch htarget hmask
      rw [hgrants, haround.grantOf_before]
    · obtain ⟨hends, hfirst, hbelow, hnew, hsame⟩ := grants_oneItem hone hlive hmatch htarget hmask hfresh hheld
      have hraised (h : Raised .grantEnded s (frameTested fr s)) : s.profile.sources.compNotices.getLsbD 6 = true →
          (frameFinished fr (frameTested fr s)).notices.comp.getLsbD 6 = true := by
        rw [haround.notices]
        exact h.2
      rw [haround.grantOf_after]
      exact ⟨fun hnum hreaches hsecond => (hends hnum hreaches hsecond).imp_right hraised, hfirst, hbelow,
        fun hdisc hvalue => (hnew hdisc hvalue).imp_right hraised, hsame⟩
  case frame =>
    refine ⟨frameBefore fr s, frameDelivered fr s, frameTested fr s, _, exec_frame hfree hf hbit, frameHeard_makeLive fr s,
      inTurn_foldl itemDelivered_deliverItem fr.items _, breakawayTested_breakawayTests _ _ _, frameFinished_frame fr _,
      frameFinished_notices_comp fr _, fun hpermit => frameFinished_notices hpermit _,
      fun before after x e f hitems hmatch htarget hmask hafter hf hfresh => ?_⟩
    have hprofile := profile_frameBefore fr s
    have hleft := foldl_deliverItem_last (before := before) (after := after) (s := frameBefore fr s) (x := x) (e := e) (f := f)
      (by rw [hprofile]; exact hmatch) htarget (by rw [fnMask, hprofile]; exact hmask)
      (fun y hy => by rw [itemWrites_congr hprofile]; exact hafter y hy) hf (notFresh_frameBefore hfresh)
    have hdelivered : frameDelivered fr s = (before ++ x :: after).foldl deliverItem (frameBefore fr s) := by
      rw [frameDelivered, hitems]
    rw [← hdelivered] at hleft
    have hstays : slotOf (frameTested fr s) .radio f = slotOf (frameDelivered fr s) .radio f :=
      (slotMoves_frameTested fr s f).eq_of_notFresh (by rw [hleft.2.2]; decide)
    rw [(frameFinished_frame fr _).slotOf (by decide), hstays]
    exact hleft

end Sys2Proof.Machine
end

section
/-! PROOFS. The radio made LIVE by a valid frame (R3), and the reply scan of a permitting frame (R162, R163). -/
namespace Sys2Proof.Machine

/-! ### What an item leaves of the radio's record -/

/-- An item changes of the radio's record the crew flags and the count of unmatched items alone (R31, R34). -/
theorem radio_deliverItem (s : State) (x : RadioItem) : (deliverItem s x).radio =
    { s.radio with flags := (deliverItem s x).radio.flags, unmatched := (deliverItem s x).radio.unmatched } := by
  have hkept {t : State} (h : t.radio = s.radio) :
      t.radio = { s.radio with flags := t.radio.flags, unmatched := t.radio.unmatched } := by rw [h]
  unfold deliverItem
  cases hmatch : matchEntry s.profile.map (itemTag x) with
  | none => rfl
  | some e =>
    dsimp only
    unfold deliverTo
    cases e.target with
    | fn f =>
      dsimp only
      split
      · exact hkept (writeSlot_frame .radio f _ s .radio (by decide))
      · rfl
    | flag i => rfl
    | bar => exact hkept (writeBar_radio _ s)
    | none => rfl

theorem radio_foldl_deliverItem : ∀ (items : List RadioItem) (s : State),
    (items.foldl deliverItem s).radio.state = s.radio.state ∧ (items.foldl deliverItem s).radio.timer = s.radio.timer
      ∧ (items.foldl deliverItem s).radio.accepted = s.radio.accepted
      ∧ (items.foldl deliverItem s).radio.refused = s.radio.refused
  | [], _ => ⟨rfl, rfl, rfl, rfl⟩
  | x :: xs, s => by
    obtain ⟨hstate, htimer, haccepted, hrefused⟩ := radio_foldl_deliverItem xs (deliverItem s x)
    have hitem := radio_deliverItem s x
    rw [List.foldl_cons, hstate, htimer, haccepted, hrefused, hitem]
    exact ⟨rfl, rfl, rfl, rfl⟩

/-! ### Notices stay -/

theorem noticesStay_setSlot (s : State) (m : Master) (f : Fn) (x : Slot) : NoticesStay s (setSlot s m f x) :=
  .of_notices (setSlot_frame s m f x .notices (by decide))

theorem noticesStay_writeSlot (m : Master) (f : Fn) (v : Int) (s : State) : NoticesStay s (writeSlot m f v s) := by
  rw [writeSlot_eq]
  split
  · exact (noticesStay_setSlot s m f _).trans (noticesStay_resolve f _ _)
  · exact noticesStay_setSlot s m f _

theorem noticesStay_writeBar (b : Bool) (s : State) : NoticesStay s (writeBar b s) := by
  have hchanged : NoticesStay s (barChanged b s) := noticesStay_raise .barChanged (s.setComp { s.comp with barred := b })
  by_cases h : s.comp.barred = b
  · rw [writeBar_of_same h]
    exact .of_notices rfl
  · cases b with
    | true =>
      by_cases hlive : s.comp.state = .live
      · rw [writeBar_barring_live h hlive]
        exact (hchanged.trans (noticesStay_foldl (fun _ f => noticesStay_endGrant .lapse f _) _ _)).trans
          (noticesStay_resolveList _ _ _)
      · rw [writeBar_barring_gone h hlive]
        exact hchanged
    | false =>
      have hcleared := hchanged.trans (.of_notices (clearMarks_frame .companion (barChanged false s) .notices (by decide)))
      rw [writeBar_unbarring h]
      split
      · exact hcleared.trans (noticesStay_resolveList _ _ _)
      · exact hcleared.trans (noticesStay_resolveList _ _ _)

theorem noticesStay_deliverItem (s : State) (x : RadioItem) : NoticesStay s (deliverItem s x) := by
  have hkept {t : State} (h : t.notices = s.notices) : NoticesStay s t := .of_notices h
  unfold deliverItem
  cases hmatch : matchEntry s.profile.map (itemTag x) with
  | none => exact hkept rfl
  | some e =>
    dsimp only
    unfold deliverTo
    cases e.target with
    | fn f =>
      dsimp only
      split
      · exact noticesStay_writeSlot .radio f _ s
      · exact hkept rfl
    | flag i => exact hkept rfl
    | bar => exact noticesStay_writeBar _ s
    | none => exact hkept rfl

/-! ### A function that no item reaches -/

theorem untouched_writeSlot {f g : Fn} (h : g ≠ f) (m : Master) (v : Int) (s : State) : Untouched g s (writeSlot m f v s) := by
  rw [writeSlot_eq]
  split
  · exact (untouched_setSlot h m _ s).trans (untouched_resolve h _ _)
  · exact untouched_setSlot h m _ s

theorem untouched_setRadio {s : State} {r : RadioCtx} (h : r.state = s.radio.state) (f : Fn) : Untouched f s (s.setRadio r) where
  deciders := ⟨rfl, rfl, fun m => by
    cases m with
    | radio => exact congrArg (· == CtxState.live) h
    | companion => rfl, fun _ => rfl, fun _ => rfl, rfl⟩
  eff := rfl
  grant := rfl
  slots _ := rfl
  busy := rfl

/-- An item that neither writes the function nor goes to the bar leaves the function alone. -/
theorem untouched_deliverItem {s : State} {x : RadioItem} {g : Fn} (hno : ¬ItemWrites s g x)
    (hbar : ∀ e, matchEntry s.profile.map (itemTag x) = some e → e.target ≠ .bar) : Untouched g s (deliverItem s x) := by
  have hcounted : Untouched g s (countUnmatched s) :=
    untouched_setRadio (r := { s.radio with unmatched := satSucc 65535 s.radio.unmatched }) rfl g
  have hflag (i : Fin 4) (b : Bool) : Untouched g s (writeRadioFlag i b s) :=
    untouched_setRadio (s := s) (r := (writeRadioFlag i b s).radio) rfl g
  cases hmatch : matchEntry s.profile.map (itemTag x) with
  | none =>
    rw [deliverItem_of_none hmatch]
    exact hcounted
  | some e =>
    rw [deliverItem_of_some hmatch]
    unfold deliverTo
    cases htarget : e.target with
    | fn f =>
      dsimp only
      split
      next hin =>
        refine untouched_writeSlot (fun hg => hno ?_) .radio _ s
        subst hg
        exact ⟨hin, e, hmatch, htarget⟩
      next => exact hcounted
    | flag i => exact hflag i _
    | bar => exact absurd htarget (hbar e hmatch)
    | none => exact hcounted

theorem untouched_foldl_deliverItem {g : Fn} : ∀ {items : List RadioItem} {s : State}, (∀ x ∈ items, ¬ItemWrites s g x) →
    (∀ x ∈ items, ∀ e, matchEntry s.profile.map (itemTag x) = some e → e.target ≠ .bar) →
      Untouched g s (items.foldl deliverItem s)
  | [], s, _, _ => .refl g s
  | x :: xs, s, hno, hbar => by
    have hprofile := profile_deliverItem s x
    refine (untouched_deliverItem (hno x List.mem_cons_self) (hbar x List.mem_cons_self)).trans
      (untouched_foldl_deliverItem (fun y hy => ?_) fun y hy => ?_)
    · rw [itemWrites_congr hprofile]
      exact hno y (List.mem_cons_of_mem _ hy)
    · rw [hprofile]
      exact hbar y (List.mem_cons_of_mem _ hy)

theorem untouched_breakawayTests {before s : State} {items : List RadioItem} {g : Fn} (hno : ¬∃ x ∈ items, ItemWrites s g x) :
    Untouched g s (breakawayTests before items Fn.all s) := by
  obtain ⟨u, hbefore, hwrote, _, hafter⟩ := breakawayTests_own before items g s
  rw [breakawayTest_of_rests (.inr (.inl (mt hwrote.mp hno)))] at hafter
  exact hbefore.trans hafter

/-- A radio that returns: a function that no item reaches has the entry of the return's resolution (R2, R3). -/
theorem visited_frame {fr : RadioFrame} {s : State} {g : Fn} (hnot : s.radio.state ≠ .live)
    (hbar : ∀ x ∈ fr.items, ∀ e, matchEntry s.profile.map (itemTag x) = some e → e.target ≠ .bar)
    (hno : ∀ x ∈ fr.items, ¬ItemWrites s g x) :
    Visited g (losesMark .radio s g) (radioReturned (counted fr s)) (frameFinished fr (frameTested fr s)) := by
  have hprofile := profile_frameBefore fr s
  have hreturns : Visited g (losesMark .radio s g) (radioReturned (counted fr s)) (frameBefore fr s) := by
    rw [frameBefore, makeLive_radio_eq (s := counted fr s) hnot]
    exact visited_resolveList Fn.nodup_all (Fn.mem_all g) (losesMark .radio (counted fr s)) _
  have hitems : Untouched g (frameBefore fr s) (frameDelivered fr s) :=
    untouched_foldl_deliverItem (fun x hx => by rw [itemWrites_congr hprofile]; exact hno x hx)
      fun x hx => by rw [hprofile]; exact hbar x hx
  have hprofileAfter : (frameDelivered fr s).profile = s.profile := (profile_foldl_deliverItem fr.items _).trans hprofile
  have htested : Untouched g (frameDelivered fr s) (frameTested fr s) := by
    refine untouched_breakawayTests ?_
    rw [wrote_congr hprofileAfter]
    exact fun ⟨x, hx, hwrites⟩ => hno x hx hwrites
  exact ((hreturns.untouched hitems).untouched htested).untouched (untouched_of_frame (frameFinished_frame fr _) (by decide) g)

/-- Settles O18. -/
theorem validFrameMakesRadioLive : Obligations.ValidFrameMakesRadioLive := by
  intro s fr hfree hf hbit
  obtain ⟨hheard, _, _, hreturns⟩ := frameHeard_makeLive fr s
  have hradio : (frameFinished fr (frameTested fr s)).radio = (frameDelivered fr s).radio := by
    have hfinished : (frameFinished fr (frameTested fr s)).radio = (frameTested fr s).radio :=
      frameFinished_frame fr _ .radio (by decide)
    exact hfinished.trans (breakawayTests_frame _ _ _ .radio (by decide))
  obtain ⟨hstate, htimer, haccepted, hrefused⟩ := radio_foldl_deliverItem fr.items (frameBefore fr s)
  have hbefore : (frameBefore fr s).radio = _ := hheard
  rw [hbefore] at hstate htimer haccepted hrefused
  have hraised (hnot : s.radio.state ≠ .live) : Raised .radioLive s (frameTested fr s) := by
    have hdelivered : Raised .radioLive s (frameDelivered fr s) :=
      (hreturns hnot).2.1.stay (noticesStay_foldl noticesStay_deliverItem fr.items _)
    exact hdelivered.stay (noticesStay_foldl (noticesStay_breakawayTest _ _) Fn.all _)
  have hconfirmed (hnot : s.radio.state ≠ .live) {f : Fn} (hmark : hasMark f = true) (hno : frameWrites s fr.items f = false) :
      (slotOf (frameFinished fr (frameTested fr s)) .radio f).confirmed = false := by
    have hmoves := slotMoves_frameBefore fr s f
    rw [if_neg hnot] at hmoves
    have hdelivered : SlotMoves (slotOf (frameBefore fr s) .radio f) (slotOf (frameDelivered fr s) .radio f) := by
      refine slotMoves_foldl_deliverItem fun x hx hwrites => ?_
      rw [itemWrites_congr (profile_frameBefore fr s)] at hwrites
      have hyes := (frameWrites_iff s fr.items f).mpr ⟨x, hx, hwrites⟩
      rw [hno] at hyes
      cases hyes
    rw [(frameFinished_frame fr _).slotOf (by decide),
      ((hmoves.trans hdelivered).trans (slotMoves_frameTested fr s f)).confirmed, unconfirmed_eq]
    exact if_pos ⟨rfl, hmark⟩
  refine ⟨_, exec_frame hfree hf hbit, by rw [hradio]; exact hstate, by rw [hradio]; exact htimer,
    by rw [hradio]; exact haccepted, by rw [hradio]; exact hrefused,
    fun hnot => ⟨?_, hconfirmed hnot rfl, hconfirmed hnot rfl, fun hbar g hno => ?_⟩, ?_⟩
  · rw [frameFinished_notices_comp]
    exact (hraised hnot).2
  · have hvisited := visited_frame hnot hbar hno
    have hcleared : MarksCleared .radio s (radioReturned (counted fr s)) := marksCleared_radioReturned rfl rfl rfl
    rw [← hcleared.eff g]
    refine ⟨fun hfree => (hvisited.free ?_).resolved, fun hbusy => (hvisited.busy ?_).eff⟩
    · rw [hcleared.busy]
      exact (consumerBusy_eq_false_iff s g).mpr hfree
    · rw [hcleared.busy]
      by_contra hno
      exact hbusy ((consumerBusy_eq_false_iff s g).mp (by simpa using hno))
  · have hexec := exec_frame hfree hf hbit
    rw [exec_radioFrame] at hexec
    rw [← Host.Outcome.next.inj hexec]
    exact receiveFrame_frame fr s

end Sys2Proof.Machine
end

section
/-! PROOFS. The reply scan of a permitting frame (R162, R163). -/
namespace Sys2Proof.Machine

/-! ### A frame with and without its permit -/

/-- The work of a valid frame before its counts grow, believed or not. -/
def frameWork (f : RadioFrame) (s : State) : State := if frameFailsafe f then counted f s else frameTested f s

theorem exec_validFrame {f : RadioFrame} {s : State} (hfree : lineFree s = true) (hf : FrameValid f) :
    exec (.radioFrame f) s = .next (frameFinished f (frameWork f s)) := by
  rw [exec_radioFrame, receiveFrame_of_valid hfree hf]
  rfl

theorem header_without_permit : ∀ h : BitVec 8, (h &&& 0xFD#8).toNat / 4 = h.toNat / 4
    ∧ (h &&& 0xFD#8).getLsbD 0 = h.getLsbD 0 ∧ (h &&& 0xFD#8).getLsbD 1 = false := by decide

theorem frameWork_without_permit {f plain : RadioFrame} (hheader : plain.header = f.header &&& 0xFD#8)
    (hitems : plain.items = f.items) (s : State) : frameWork plain s = frameWork f s := by
  obtain ⟨hseq, hfailsafe, _⟩ := header_without_permit f.header
  have hcounted : counted plain s = counted f s := by
    unfold counted frameSeq
    rw [hheader, hseq]
  have hbit : frameFailsafe plain = frameFailsafe f := by rw [frameFailsafe, frameFailsafe, hheader, hfailsafe]
  unfold frameWork frameTested frameDelivered frameBefore
  rw [hbit, hcounted, hitems]

theorem frameWork_frame (f : RadioFrame) (s : State) : SameExcept contextTouches (counted f s) (frameWork f s) := by
  unfold frameWork
  split
  · exact .refl _ _
  · exact ((makeLive_frame .radio (counted f s)).trans (frameDelivered_frame f s)).trans
      ((breakawayTests_frame _ _ _).mono (by decide))

/-! ### The scan -/

/-- A slot is due (R163). -/
theorem slotDue_iff (u : State) (k : ReplySlot) : slotDue u k = true ↔ (match k with
    | .alert => u.notices.radio ≠ 0 ∧ u.profile.reply.alertEnable = true
    | .pack => u.profile.reply.packEvery ≠ 0 ∧ u.profile.reply.packEvery ≤ u.radioPort.counts.pack
    | .cells => u.profile.reply.cellsEvery ≠ 0 ∧ u.profile.reply.cellsEvery ≤ u.radioPort.counts.cells
    | .winch => u.profile.reply.winchEvery ≠ 0 ∧ u.profile.reply.winchEvery ≤ u.radioPort.counts.winch
    | .drive => u.profile.reply.driveEvery ≠ 0 ∧ u.profile.reply.driveEvery ≤ u.radioPort.counts.drive
    | .flags => u.profile.reply.flagsEvery ≠ 0 ∧ u.profile.reply.flagsEvery ≤ u.radioPort.counts.flags) := by
  cases k <;> simp [slotDue, countDue]

theorem dueSlot_of_lowest {u : State} {k : ReplySlot} (hdue : slotDue u k = true)
    (hlowest : ∀ j, (replyKind j).toNat < (replyKind k).toNat → ¬slotDue u j = true) : dueSlot u = some k := by
  have hbelow (j : ReplySlot) (h : (replyKind j).toNat < (replyKind k).toNat) : slotDue u j = false := by
    simpa using hlowest j h
  unfold dueSlot
  cases k with
  | alert => simp [hdue]
  | pack => simp [hdue, hbelow .alert (by decide)]
  | cells => simp [hdue, hbelow .alert (by decide), hbelow .pack (by decide)]
  | winch => simp [hdue, hbelow .alert (by decide), hbelow .pack (by decide), hbelow .cells (by decide)]
  | drive =>
    simp [hdue, hbelow .alert (by decide), hbelow .pack (by decide), hbelow .cells (by decide), hbelow .winch (by decide)]
  | flags =>
    simp [hdue, hbelow .alert (by decide), hbelow .pack (by decide), hbelow .cells (by decide), hbelow .winch (by decide),
      hbelow .drive (by decide)]

theorem dueSlot_of_none {u : State} (h : ∀ k, ¬slotDue u k = true) : dueSlot u = none :=
  List.find?_eq_none.mpr fun k _ => h k

theorem replyScan_of_none {u : State} (h : dueSlot u = none) : replyScan u = u := by
  unfold replyScan
  rw [h]

theorem replyScan_of_some {u : State} {k : ReplySlot} (h : dueSlot u = some k) : replyScan u =
    (pickSlot k u).setRadioPort
      { (pickSlot k u).radioPort with reply := .delay (composeReply u k) u.profile.reply.delay } := by
  unfold replyScan
  rw [h]

theorem lead_of_ne_zero {v : BitVec 16} (h : v ≠ 0) : ∃ n, lead v = some n := by
  cases hlead : lead v with
  | some n => exact ⟨n, rfl⟩
  | none =>
    refine absurd (BitVec.eq_of_getLsbD_eq fun i hi => ?_) h
    have hnone := List.find?_range_eq_none.mp hlead i hi
    simpa using hnone

theorem dropLead_of_lead {u : State} {n : Nat} (h : lead u.notices.radio = some n) :
    dropLead u = u.setNotices { u.notices with radio := dropMember u.notices.radio n } := by
  unfold dropLead
  rw [h]

theorem pickSlot_of_ne_alert {k : ReplySlot} (h : k ≠ .alert) (u : State) :
    pickSlot k u = u.setRadioPort { u.radioPort with counts := zeroCount u.radioPort.counts k } := if_neg h

/-- What the scan does with the lowest slot that is due (R163). -/
theorem replyScan_picks {u : State} {k : ReplySlot} (hdue : slotDue u k = true) (hpicked : dueSlot u = some k) :
    let t := replyScan u
    let c := u.radioPort.counts
    (∃ payload, CarriesReply u k payload
        ∧ t.radioPort.reply = .delay (radioReply (replyKind k) payload) u.profile.reply.delay)
      ∧ SameExcept [.radioPort, .notices] u t
      ∧ (k = .alert →
          t.radioPort.counts = c
          ∧ ∃ n, lead u.notices.radio = some n ∧ t.notices = ⟨dropMember u.notices.radio n, u.notices.comp⟩)
      ∧ (k ≠ .alert →
          t.notices = u.notices
          ∧ t.radioPort.counts.pack = (if k = .pack then 0 else c.pack)
          ∧ t.radioPort.counts.cells = (if k = .cells then 0 else c.cells)
          ∧ t.radioPort.counts.winch = (if k = .winch then 0 else c.winch)
          ∧ t.radioPort.counts.drive = (if k = .drive then 0 else c.drive)
          ∧ t.radioPort.counts.flags = (if k = .flags then 0 else c.flags)) := by
  intro t c
  have ht : t = _ := replyScan_of_some hpicked
  refine ⟨⟨replyPayload u k, carriesReply u k, ?_⟩, replyScan_frame_scan u, fun hk => ?_, fun hk => ?_⟩
  · rw [ht]
    rfl
  · subst hk
    obtain ⟨n, hlead⟩ := lead_of_ne_zero ((slotDue_iff u .alert).mp hdue).1
    have hpick : pickSlot .alert u = dropLead u := if_pos rfl
    rw [ht, hpick, dropLead_of_lead hlead]
    exact ⟨rfl, n, hlead, rfl⟩
  · rw [ht, pickSlot_of_ne_alert hk]
    refine ⟨rfl, ?_⟩
    cases k with
    | alert => exact absurd rfl hk
    | _ => exact ⟨rfl, rfl, rfl, rfl, rfl⟩

/-- Settles O22. -/
theorem replyScanPicksTheLowestDueSlot : Obligations.ReplyScanPicksTheLowestDueSlot := by
  intro s f plain hfree hf hplain hpermit hheader hitems
  obtain ⟨_, _, hnoPermit⟩ := header_without_permit f.header
  have hu : frameFinished plain (frameWork plain s) = growCounts (frameWork f s) := by
    have hbit : ¬framePermit plain = true := by rw [framePermit, hheader, hnoPermit]; decide
    rw [frameWork_without_permit hheader hitems, frameFinished, if_neg hbit]
  have ht : frameFinished f (frameWork f s) = replyScan (growCounts (frameWork f s)) :=
    if_pos (show framePermit f = true from hpermit)
  have hport : (frameWork f s).radioPort = (counted f s).radioPort := frameWork_frame f s .radioPort (by decide)
  have hprofile : (frameWork f s).profile = s.profile := frameWork_frame f s .profile (by decide)
  refine ⟨growCounts (frameWork f s), replyScan (growCounts (frameWork f s)), ?_, ?_, ?_⟩
  · rw [exec_validFrame hfree hplain, hu]
  · rw [exec_validFrame hfree hf, ht]
  intro p c due
  have hdue (k : ReplySlot) : due k ↔ slotDue (growCounts (frameWork f s)) k = true := (slotDue_iff _ k).symm
  refine ⟨?_, ?_, hprofile, fun hnone => ?_, fun k hk hlowest => ?_⟩
  · show (growCounts (frameWork f s)).radioPort.counts = _
    unfold growCounts
    dsimp only
    rw [hport]
    rfl
  · show (frameWork f s).radioPort.reply = .none
    rw [hport]
    exact beq_iff_eq.mp hfree
  · exact replyScan_of_none (dueSlot_of_none fun k hk => hnone k ((hdue k).mpr hk))
  · exact replyScan_picks ((hdue k).mp hk)
      (dueSlot_of_lowest ((hdue k).mp hk) fun j hj hd => hlowest j hj ((hdue j).mpr hd))

end Sys2Proof.Machine
end

section
/-! PROOFS. An accepted PROFILE_WRITE in the resolver: SOURCES, AUTHORITY and FAILSAFE (R14, R18, R25, R29, R39). -/
namespace Sys2Proof.Machine

/-! ### A write that passes its checks -/

/-- The section that a write's data belongs to. -/
def sectOfData : SectionData → Sect
  | .sources _ => .sources
  | .map _ => .map
  | .authority _ => .authority
  | .failsafe _ => .failsafe
  | .geometry _ => .geometry
  | .drive _ => .drive
  | .winch _ => .winch
  | .pack _ => .pack
  | .lamps _ => .lamps
  | .scene _ _ => .scenes
  | .reply _ => .reply

theorem map_eq_ok {α β : Type} {x : Except Cause α} {g : α → β} {b : β} (h : x.map g = .ok b) : ∃ a, b = g a := by
  cases x with
  | error c => cases h
  | ok a =>
    cases h
    exact ⟨a, rfl⟩

theorem sectOfData_checkBody {k : Sect} {body : List Byte} {d : SectionData} (h : checkBody k body = .ok d) :
    sectOfData d = k := by
  cases k with
  | scenes => cases h; rfl
  | _ =>
    obtain ⟨v, rfl⟩ := map_eq_ok h
    rfl

/-- The state in which the blocks act on a write: the sender heard and the live section replaced. -/
def written (d : SectionData) (s : State) : State := writeLive d (heard s)

theorem written_frame (d : SectionData) (s : State) : SameExcept [.comp, .profile] s (written d s) :=
  ((heard_frame s).mono (by decide)).trans ((setProfile_frame_only (heard s) _).mono (by decide))

/-- A write that passes its checks is accepted with its section's data (R172). -/
theorem exec_of_passes {s : State} {sect : Byte} {k : Sect} {body : List Byte} (h : WritePasses s sect k body) :
    ∃ d, checkBody k body = .ok d ∧ sectOfData d = k ∧ exec (.profileWrite sect body) s = .next (acceptWrite k d (heard s)) := by
  have hscene : ¬(k = .scenes ∧ 15 < fieldAt body 0 1) := fun hk => Nat.not_lt.mpr (h.scene hk.1) hk.2
  obtain ⟨d, hd, -⟩ := checkBody_ok h.map h.value h.scene
  have htarget := writeTarget_of_sect (body := body) h.named
  rw [if_neg hscene] at htarget
  have hreach : sectReach (heard s) k = true :=
    (sectReach_iff s k).mpr ⟨h.mask, fun hheld => by rw [h.held hheld.1] at hheld; exact absurd hheld.2 (by decide)⟩
  have hparked : parked (heard s) = true := h.parked
  have hok : checkWrite (heard s) sect body = .ok (k, d) := by
    rw [checkWrite_of_target htarget, hreach, hparked, hd]
    rfl
  exact ⟨d, hd, sectOfData_checkBody hd, exec_write_of_ok h.ready h.length hok⟩

/-- After the blocks have acted, the acceptance touches the store and the link cell alone. -/
theorem untouched_acceptWrite (k : Sect) (d : SectionData) (s : State) (f : Fn) :
    Untouched f (sectionActs s.profile d (written d s)) (acceptWrite k d (heard s)) :=
  untouched_of_frame (acceptWrite_frame_acted k d (heard s)) (by decide) f

theorem acceptWrite_profile (k : Sect) (d : SectionData) (s : State) :
    (acceptWrite k d (heard s)).profile = (written d s).profile := writeActed_profile d (heard s)

theorem notices_acceptWrite (k : Sect) (d : SectionData) (s : State) :
    (acceptWrite k d (heard s)).notices = (sectionActs s.profile d (written d s)).notices :=
  acceptWrite_frame_acted k d (heard s) .notices (by decide)

theorem sameFn_written (d : SectionData) (s : State) (f : Fn) : SameFn f s (written d s) :=
  sameFn_of_frame (written_frame d s) (by decide) f

/-- What an acceptance touches: the records of every write, and those that its blocks touch. -/
theorem acceptWrite_frame_of {l : List Block} (k : Sect) (d : SectionData) (s : State)
    (h : SameExcept l (written d s) (sectionActs s.profile d (written d s))) :
    SameExcept (acceptTouches ++ l) s (acceptWrite k d (heard s)) :=
  (((written_frame d s).mono (fun b hb => List.mem_append_left l ((by decide : ∀ b ∈ [Block.comp, .profile], b ∈ acceptTouches) b hb))).trans
    (h.mono fun _ hb => List.mem_append_right _ hb)).trans
    ((acceptWrite_frame_acted k d (heard s)).mono (fun b hb =>
      List.mem_append_left l ((by decide : ∀ b ∈ [Block.store, .compPort], b ∈ acceptTouches) b hb)))

/-- The function resolved once from its entry before the write, where its consumer is free. -/
theorem resolved_of_visited {f : Fn} {s u t : State} (hvisited : Visited f false u t) (heff : effOf u f = effOf s f)
    (hbusy : consumerBusy u f = consumerBusy s f) (hfree : Resolvable s f) : Resolved (effOf s f) false t f := by
  rw [← heff]
  exact (hvisited.free (hbusy.trans ((consumerBusy_eq_false_iff s f).mpr hfree))).resolved

theorem effOf_of_visited_busy {f : Fn} {s u t : State} (hvisited : Visited f false u t) (heff : effOf u f = effOf s f)
    (hbusy : consumerBusy u f = consumerBusy s f) (hnot : ¬Resolvable s f) : effOf t f = effOf s f := by
  have hb : consumerBusy u f = true := by
    rw [hbusy]
    by_contra h
    exact hnot ((consumerBusy_eq_false_iff s f).mp (by simpa using h))
  exact (hvisited.busy hb).eff.trans heff

theorem grantEnded_of {why : EndReason} {f : Fn} {u t : State} (hgrant : grantOf t f = ⟨none, some why⟩)
    (hraised : Raised .grantEnded u t) (hprofile : u.profile = t.profile) : GrantEnded why f t := by
  refine ⟨hgrant, ?_⟩
  rw [← hprofile]
  exact hraised.2

/-! ### SOURCES -/

theorem sourcesActs_of_same {old : Sources} {s : State}
    (h : old.radioFns = s.profile.sources.radioFns ∧ old.compFns = s.profile.sources.compFns) : sourcesActs old s = s := if_pos h

theorem sourcesActs_of_ne {old : Sources} {s : State}
    (h : ¬(old.radioFns = s.profile.sources.radioFns ∧ old.compFns = s.profile.sources.compFns)) :
    sourcesActs old s = resolveList Fn.all (fun _ => false)
      (endGrants .mapChange (fun f => !(s.profile.sources.compFns.getLsbD (fnNumber f))) s) := if_neg h

theorem sourcesAct_acceptWrite (v : Sources) (s : State) : SourcesAct s (acceptWrite .sources (.sources v) (heard s)) := by
  have hprofile := acceptWrite_profile .sources (.sources v) s
  unfold SourcesAct
  dsimp only
  rw [hprofile, ne_eq, Prod.mk.injEq]
  refine ⟨fun hsame => ?_, fun hne => ⟨fun f => ?_, ?_⟩⟩
  · have hid : sectionActs s.profile (.sources v) (written (.sources v) s) = written (.sources v) s :=
      sourcesActs_of_same ⟨hsame.1.symm, hsame.2.symm⟩
    refine (acceptWrite_frame_of (l := []) .sources (.sources v) s ?_).mono (by decide)
    rw [hid]
    exact SameExcept.refl _ _
  · have hacts : sectionActs s.profile (.sources v) (written (.sources v) s) = _ :=
      sourcesActs_of_ne fun h => hne ⟨h.1.symm, h.2.symm⟩
    have hafter := untouched_acceptWrite .sources (.sources v) s f
    have hsame := sameFn_written (.sources v) s f
    have hnotices := notices_acceptWrite .sources (.sources v) s
    rw [hacts] at hafter hnotices
    by_cases hends : (grantOf s f).held.isSome = true ∧ (written (.sources v) s).profile.sources.compFns.getLsbD (fnNumber f) = false
    · have hheld : (grantOf (written (.sources v) s) f).held.isSome = true := by rw [hsame.grant]; exact hends.1
      have hwhich : (!(written (.sources v) s).profile.sources.compFns.getLsbD (fnNumber f)) = true := by rw [hends.2]; rfl
      have hvisited := (visited_lost_of_held (why := .mapChange)
        (which := fun f => !((written (.sources v) s).profile.sources.compFns.getLsbD (fnNumber f))) hheld hwhich).untouched hafter
      have hraised := (raised_endGrants (why := .mapChange)
        (which := fun f => !((written (.sources v) s).profile.sources.compFns.getLsbD (fnNumber f))) hheld hwhich).stay
          (noticesStay_resolveList Fn.all (fun _ => false) _)
      refine ⟨fun _ => grantEnded_of (hvisited.grant.trans (grantOf_setGrant_same ..)) (hraised.of_notices hnotices) hprofile.symm,
        fun hno => absurd hends hno, resolved_of_visited hvisited hsame.eff hsame.busy,
        effOf_of_visited_busy hvisited hsame.eff hsame.busy⟩
    · have hvisited := (visited_lost_of_not (why := .mapChange) (s := written (.sources v) s) (f := f)
        (which := fun f => !((written (.sources v) s).profile.sources.compFns.getLsbD (fnNumber f))) (by
          rw [hsame.grant]
          rw [not_and_or, Bool.not_eq_true, Bool.not_eq_false] at hends
          exact hends.imp_right fun h => by rw [h]; rfl)).untouched hafter
      exact ⟨fun h => absurd h hends, fun _ => hvisited.grant.trans hsame.grant,
        resolved_of_visited hvisited hsame.eff hsame.busy, effOf_of_visited_busy hvisited hsame.eff hsame.busy⟩
  · exact acceptWrite_frame_of (l := resolveTouches) .sources (.sources v) s (by
      have hacts : sectionActs s.profile (.sources v) (written (.sources v) s) = _ :=
        sourcesActs_of_ne fun h => hne ⟨h.1.symm, h.2.symm⟩
      rw [hacts]
      exact (endGrants_frame _ _ _).trans (resolveList_frame _ _ _))

/-! ### Slots that new hold times outlive -/

/-- A numeric slot that its hold time outlives: TAKEN and older (R25). -/
def Older (s : State) (m : Master) (f : Fn) : Prop :=
  isNumeric f = true ∧ (slotOf s m f).state = .taken ∧ (authOf s f).hold < (slotOf s m f).age

/-- One slot against its hold time (R25). -/
def staleIfOlder (m : Master) (f : Fn) (s : State) : State :=
  if (authOf s f).hold < (slotOf s m f).age then slotStale m f s else s

/-- The slots of a master against their hold times, in function order (R25, log entry 45). -/
def stalePass (m : Master) (s : State) : State :=
  (Fn.all.filter isNumeric).foldl (fun s f => staleIfOlder m f s) s

theorem staleByHold_eq (s : State) : staleByHold s = stalePass .companion (stalePass .radio s) := rfl

theorem staleIfOlder_of_older {m : Master} {f : Fn} {s : State} (h : Older s m f) : staleIfOlder m f s = slotStale m f s :=
  if_pos h.2.2

theorem staleIfOlder_of_not {m : Master} {f : Fn} {s : State} (h : ¬Older s m f) : staleIfOlder m f s = s := by
  unfold staleIfOlder
  split
  next hage =>
    refine slotStale_of_not ?_
    by_contra hcan
    rw [not_or, Bool.not_eq_false, not_not] at hcan
    exact h ⟨hcan.1, hcan.2, hage⟩
  next => rfl

theorem untouched_staleIfOlder {f g : Fn} (h : g ≠ f) (m : Master) (s : State) : Untouched g s (staleIfOlder m f s) := by
  unfold staleIfOlder
  split
  · exact untouched_slotStale h m s
  · exact .refl g s

theorem Older.of_untouched {m : Master} {f : Fn} {s t : State} (h : Untouched f s t) : Older t m f ↔ Older s m f := by
  unfold Older authOf
  rw [h.slots, h.deciders.profile]

theorem untouched_stalePass {m : Master} {f : Fn} {s : State} (h : ¬Older s m f) : Untouched f s (stalePass m s) := by
  have hstep : ∀ g f s, f ≠ g → Untouched f s (staleIfOlder m g s) := fun g f s hne => untouched_staleIfOlder hne m s
  by_cases hnum : isNumeric f = true
  · obtain ⟨u, hbefore, hafter⟩ := foldl_own_step (step := staleIfOlder m) hstep (Fn.nodup_all.filter isNumeric)
      (List.mem_filter.mpr ⟨Fn.mem_all f, hnum⟩) s
    rw [staleIfOlder_of_not (mt (Older.of_untouched hbefore).mp h)] at hafter
    exact hbefore.trans hafter
  · exact foldl_untouched (step := staleIfOlder m) hstep _ s fun hmem => hnum (List.mem_filter.mp hmem).2

/-- A pass over a master's slots takes an older one STALE, once, after the others before it. -/
theorem stalePass_of_older {m : Master} {f : Fn} {s : State} (h : Older s m f) :
    ∃ u, Untouched f s u ∧ Older u m f ∧ Untouched f (slotStale m f u) (stalePass m s) := by
  obtain ⟨u, hbefore, hafter⟩ := foldl_own_step (step := staleIfOlder m) (fun g f s hne => untouched_staleIfOlder hne m s)
    (Fn.nodup_all.filter isNumeric) (List.mem_filter.mpr ⟨Fn.mem_all f, h.1⟩) s
  have holder := (Older.of_untouched hbefore).mpr h
  rw [staleIfOlder_of_older holder] at hafter
  exact ⟨u, hbefore, holder, hafter⟩

/-- An older slot goes STALE with its age, which is past the hold time already. -/
theorem staleSlot_of_older {s : State} {m : Master} {f : Fn} (h : Older s m f) :
    staleSlot s m f = { slotOf s m f with state := .stale } := by
  have hage : max (slotOf s m f).age (min 65535 ((authOf s f).hold + 1)) = (slotOf s m f).age := by
    have := h.2.2
    omega
  rw [staleSlot, hage]

theorem slotOf_stalePass_of_older {m : Master} {f : Fn} {s : State} (h : Older s m f) :
    slotOf (stalePass m s) m f = { slotOf s m f with state := .stale } := by
  obtain ⟨u, hbefore, holder, hafter⟩ := stalePass_of_older h
  obtain ⟨v, -, hslot, -, -, -, honce⟩ := visited_slotStale holder.1 holder.2.1
  rw [hafter.slots, honce.slots, hslot, staleSlot_of_older holder, hbefore.slots]
  exact takenSlot_of_not_fresh (fun h => nomatch h)

/-- The other master's slot is at most taken by the resolution that follows (R22). -/
theorem slotOf_stalePass_of_settled {m m' : Master} {f : Fn} {s : State} (hm : m' ≠ m) (h : (slotOf s m' f).state ≠ .fresh) :
    slotOf (stalePass m s) m' f = slotOf s m' f := by
  by_cases holder : Older s m f
  · obtain ⟨u, hbefore, holder, hafter⟩ := stalePass_of_older holder
    obtain ⟨v, -, -, hothers, -, -, honce⟩ := visited_slotStale holder.1 holder.2.1
    rw [hafter.slots, honce.slots, hothers m' hm, hbefore.slots]
    exact takenSlot_of_not_fresh h
  · exact (untouched_stalePass holder).slots m'

theorem grantOf_stalePass_of_stands {m : Master} {f : Fn} {s : State} (h : m = .radio ∨ (grantOf s f).held = none ∨ ¬Older s m f) :
    grantOf (stalePass m s) f = grantOf s f := by
  by_cases holder : Older s m f
  · obtain ⟨u, hbefore, holderU, hafter⟩ := stalePass_of_older holder
    obtain ⟨v, -, -, -, -, hstands, honce⟩ := visited_slotStale holderU.1 holderU.2.1
    refine (hafter.grant.trans (honce.grant.trans (hstands ?_))).trans hbefore.grant
    rw [hbefore.grant]
    exact h.imp_right fun h => h.resolve_right fun hno => hno holder
  · exact (untouched_stalePass holder).grant

theorem noticesStay_slotStale (m : Master) (f : Fn) (s : State) : NoticesStay s (slotStale m f s) := by
  have hset := noticesStay_setSlot s m f (staleSlot s m f)
  by_cases hcan : isNumeric f = true ∧ (slotOf s m f).state = .taken
  · rw [slotStale_of hcan.1 hcan.2]
    split
    · exact (hset.trans (noticesStay_endGrant _ _ _)).trans (noticesStay_resolve f false _)
    · exact hset.trans (noticesStay_resolve f false _)
  · rw [slotStale_of_not ((not_and_or.mp hcan).imp_left (by simp))]
    exact .of_notices rfl

theorem noticesStay_staleIfOlder (m : Master) (s : State) (f : Fn) : NoticesStay s (staleIfOlder m f s) := by
  unfold staleIfOlder
  split
  · exact noticesStay_slotStale m f s
  · exact .of_notices rfl

theorem noticesStay_stalePass (m : Master) (s : State) : NoticesStay s (stalePass m s) :=
  noticesStay_foldl (noticesStay_staleIfOlder m) _ s

theorem staleIfOlder_frame (m : Master) (f : Fn) (s : State) : SameExcept resolveTouches s (staleIfOlder m f s) := by
  unfold staleIfOlder
  split
  · exact slotStale_frame m f s
  · exact SameExcept.refl _ _

/-- A COMPANION slot that goes STALE ends the grant it carries (R56). -/
theorem stalePass_ends {f : Fn} {s : State} (h : Older s .companion f) (hheld : (grantOf s f).held.isSome = true) :
    grantOf (stalePass .companion s) f = ⟨none, some .stale⟩ ∧ Raised .grantEnded s (stalePass .companion s) := by
  refine ⟨?_, ?_⟩
  · obtain ⟨u, hbefore, holder, hafter⟩ := stalePass_of_older h
    obtain ⟨v, -, -, -, hended, -, honce⟩ := visited_slotStale holder.1 holder.2.1
    rw [hafter.grant, honce.grant]
    exact hended rfl (by rw [hbefore.grant]; exact hheld)
  · have hfold : ∀ (fs : List Fn) (t : State), Older t .companion f → (grantOf t f).held.isSome = true → f ∈ fs →
        Raised .grantEnded t (fs.foldl (fun s g => staleIfOlder .companion g s) t) := by
      intro fs
      induction fs with
      | nil => exact fun t _ _ hmem => by cases hmem
      | cons g gs ih =>
        intro t holder ht hmem
        have hprofile : (staleIfOlder .companion g t).profile = t.profile := staleIfOlder_frame .companion g t .profile (by decide)
        by_cases hg : f = g
        · subst hg
          have hraised : Raised .grantEnded t (staleIfOlder .companion f t) := by
            rw [staleIfOlder_of_older holder]
            exact raised_slotStale holder.1 holder.2.1 ht
          exact hraised.stay (noticesStay_foldl (noticesStay_staleIfOlder .companion) gs _)
        · have hkept := untouched_staleIfOlder hg .companion t
          refine (ih _ ((Older.of_untouched hkept).mpr holder) ?_ ((List.mem_cons.mp hmem).resolve_left hg)).of_profile hprofile
          rw [hkept.grant]
          exact ht
    exact hfold _ s h hheld (List.mem_filter.mpr ⟨Fn.mem_all f, h.1⟩)

theorem stalePass_frame (m : Master) (s : State) : SameExcept resolveTouches s (stalePass m s) := by
  unfold stalePass
  generalize Fn.all.filter isNumeric = fs
  induction fs generalizing s with
  | nil => exact .refl _ _
  | cons f fs ih => exact (staleIfOlder_frame m f s).trans (ih _)

end Sys2Proof.Machine
end

section
/-! PROOFS. AUTHORITY and FAILSAFE writes in the resolver (R25, R29, R39), and the settling of the resolver's sections. -/
namespace Sys2Proof.Machine

/-! ### AUTHORITY -/

/-- The map ends a function's grant: takeover is not allowed, or the function is tethered without RADIO present (R39). -/
def mapEnds (s : State) (f : Fn) : Bool := !(authOf s f).takeover || ((authOf s f).tethered && !present s .radio)

/-- The grants that the map ends, ended (R39). -/
def mapEnded (s : State) : State := endGrants .mapChange (mapEnds s) s

/-- The slots that new hold times outlive, gone STALE after the grants (R39). -/
def mapStaled (s : State) : State := stalePass .companion (stalePass .radio (mapEnded s))

theorem authorityActs_eq (s : State) : authorityActs s = resolveList Fn.all (fun _ => false) (mapStaled s) := rfl

theorem visited_authorityActs (f : Fn) (s : State) : Visited f false (mapStaled s) (authorityActs s) :=
  visited_resolveList Fn.nodup_all (Fn.mem_all f) (fun _ => false) _

theorem mapEnded_profile (s : State) : (mapEnded s).profile = s.profile := endGrants_frame _ _ _ .profile (by decide)

theorem stalePass_profile (m : Master) (s : State) : (stalePass m s).profile = s.profile := stalePass_frame m s .profile (by decide)

/-- A slot that is not FRESH stands through a resolution of its function (R22). -/
theorem Visited.slot_of_settled {f : Fn} {byMark : Bool} {s t : State} (h : Visited f byMark s t) {m : Master}
    (hslot : (slotOf s m f).state ≠ .fresh) : slotOf t m f = slotOf s m f := by
  cases hbusy : consumerBusy s f with
  | false => rw [(h.free hbusy).slots, takenSlot_of_not_fresh hslot]
  | true => exact (h.busy hbusy).slots m

theorem Older.congr {s u : State} {m : Master} {f : Fn} (hslot : slotOf u m f = slotOf s m f) (hprofile : u.profile = s.profile) :
    Older u m f ↔ Older s m f := by
  unfold Older authOf
  rw [hslot, hprofile]

theorem visited_mapEnded {f : Fn} {s : State} (hheld : (grantOf s f).held.isSome = true) (hends : mapEnds s f = true) :
    Visited f false (setGrant s f ⟨none, some .mapChange⟩) (mapEnded s) := visited_endGrants hheld hends

theorem untouched_mapEnded {f : Fn} {s : State} (h : (grantOf s f).held.isSome = false ∨ mapEnds s f = false) :
    Untouched f s (mapEnded s) := untouched_endGrants h

theorem mapEnded_of_stands {f : Fn} {s : State} (h : ¬((grantOf s f).held.isSome = true ∧ mapEnds s f = true)) :
    Untouched f s (mapEnded s) := by
  rw [not_and_or, Bool.not_eq_true, Bool.not_eq_true] at h
  exact untouched_mapEnded h

theorem slotOf_mapEnded {m : Master} {f : Fn} {s : State} (h : (slotOf s m f).state ≠ .fresh) :
    slotOf (mapEnded s) m f = slotOf s m f := by
  by_cases hends : (grantOf s f).held.isSome = true ∧ mapEnds s f = true
  · exact (visited_mapEnded hends.1 hends.2).slot_of_settled h
  · exact (mapEnded_of_stands hends).slots m

theorem older_mapEnded {m : Master} {f : Fn} {s : State} (h : (slotOf s m f).state ≠ .fresh) :
    Older (mapEnded s) m f ↔ Older s m f := Older.congr (slotOf_mapEnded h) (mapEnded_profile s)

theorem slotOf_radioPass {f : Fn} {s : State} (h : (slotOf s .companion f).state ≠ .fresh) :
    slotOf (stalePass .radio (mapEnded s)) .companion f = slotOf s .companion f := by
  have hended := slotOf_mapEnded h
  exact (slotOf_stalePass_of_settled (by decide) (by rw [hended]; exact h)).trans hended

theorem older_radioPass {f : Fn} {s : State} (h : (slotOf s .companion f).state ≠ .fresh) :
    Older (stalePass .radio (mapEnded s)) .companion f ↔ Older s .companion f :=
  Older.congr (slotOf_radioPass h) ((stalePass_profile _ _).trans (mapEnded_profile s))

/-- A slot that is not FRESH goes STALE where its hold time outlives it, and else stands (R25). -/
theorem slotOf_mapStaled {m : Master} {f : Fn} {s : State} (h : (slotOf s m f).state ≠ .fresh) :
    (Older s m f → slotOf (mapStaled s) m f = { slotOf s m f with state := .stale })
      ∧ (¬Older s m f → slotOf (mapStaled s) m f = slotOf s m f) := by
  cases m with
  | radio =>
    have hrest {x : Slot} (hx : slotOf (stalePass .radio (mapEnded s)) .radio f = x) (hsettled : x.state ≠ .fresh) :
        slotOf (mapStaled s) .radio f = x := by
      subst hx
      exact slotOf_stalePass_of_settled (by decide) hsettled
    refine ⟨fun holder => hrest ?_ (fun h => nomatch h), fun hno => hrest ?_ h⟩
    · rw [slotOf_stalePass_of_older ((older_mapEnded h).mpr holder), slotOf_mapEnded h]
    · rw [(untouched_stalePass (mt (older_mapEnded h).mp hno)).slots, slotOf_mapEnded h]
  | companion =>
    refine ⟨fun holder => ?_, fun hno => ?_⟩
    · exact (slotOf_stalePass_of_older ((older_radioPass h).mpr holder)).trans (by rw [slotOf_radioPass h])
    · exact ((untouched_stalePass (mt (older_radioPass h).mp hno)).slots _).trans (slotOf_radioPass h)

theorem slotOf_authorityActs {m : Master} {f : Fn} {s : State} (h : (slotOf s m f).state ≠ .fresh) :
    (Older s m f → slotOf (authorityActs s) m f = { slotOf s m f with state := .stale })
      ∧ (¬Older s m f → slotOf (authorityActs s) m f = slotOf s m f) := by
  obtain ⟨hstale, hstands⟩ := slotOf_mapStaled h
  refine ⟨fun holder => ?_, fun hno => ?_⟩
  · rw [(visited_authorityActs f s).slot_of_settled (by rw [hstale holder]; exact fun h => nomatch h), hstale holder]
  · rw [(visited_authorityActs f s).slot_of_settled (by rw [hstands hno]; exact h), hstands hno]

theorem noticesStay_mapStaled (s : State) : NoticesStay (mapEnded s) (mapStaled s) :=
  (noticesStay_stalePass .radio _).trans (noticesStay_stalePass .companion _)

/-- A HELD grant that the map ends (R39). -/
theorem authorityActs_mapChange {f : Fn} {s : State} (hheld : (grantOf s f).held.isSome = true) (hends : mapEnds s f = true) :
    grantOf (authorityActs s) f = ⟨none, some .mapChange⟩ ∧ Raised .grantEnded s (authorityActs s) := by
  have hended : grantOf (mapEnded s) f = ⟨none, some .mapChange⟩ := (visited_mapEnded hheld hends).grant.trans (grantOf_setGrant_same ..)
  have hradio : grantOf (stalePass .radio (mapEnded s)) f = ⟨none, some .mapChange⟩ :=
    (grantOf_stalePass_of_stands (.inl rfl)).trans hended
  have hstaled : grantOf (mapStaled s) f = ⟨none, some .mapChange⟩ :=
    (grantOf_stalePass_of_stands (.inr (.inl (by rw [hradio])))).trans hradio
  exact ⟨(visited_authorityActs f s).grant.trans hstaled,
    ((raised_endGrants hheld hends).stay (noticesStay_mapStaled s)).stay (noticesStay_resolveList _ _ _)⟩

/-- A grant that the map leaves stands until the COMPANION slots are tried (R39). -/
theorem grantOf_radioPass {f : Fn} {s : State} (h : ¬((grantOf s f).held.isSome = true ∧ mapEnds s f = true)) :
    grantOf (stalePass .radio (mapEnded s)) f = grantOf s f :=
  (grantOf_stalePass_of_stands (.inl rfl)).trans (mapEnded_of_stands h).grant

/-- A HELD grant that its slot's going STALE ends (R39). -/
theorem authorityActs_stale {f : Fn} {s : State} (hheld : (grantOf s f).held.isSome = true) (hends : mapEnds s f = false)
    (holder : Older s .companion f) :
    grantOf (authorityActs s) f = ⟨none, some .stale⟩ ∧ Raised .grantEnded s (authorityActs s) := by
  have hsettled : (slotOf s .companion f).state ≠ .fresh := by rw [holder.2.1]; decide
  have hradio := grantOf_radioPass (s := s) (f := f) fun h => by rw [hends] at h; exact absurd h.2 (by decide)
  obtain ⟨hgrant, hraised⟩ := stalePass_ends ((older_radioPass hsettled).mpr holder) (by rw [hradio]; exact hheld)
  exact ⟨(visited_authorityActs f s).grant.trans hgrant,
    (hraised.of_profile ((stalePass_profile _ _).trans (mapEnded_profile s))).stay (noticesStay_resolveList _ _ _)⟩

theorem authorityActs_grant_stands {f : Fn} {s : State} (h : (grantOf s f).held.isSome = false
    ∨ (mapEnds s f = false ∧ ¬Older s .companion f ∧ (slotOf s .companion f).state ≠ .fresh)) :
    grantOf (authorityActs s) f = grantOf s f := by
  have hradio := grantOf_radioPass (s := s) (f := f) fun hends => by
    obtain hnone | ⟨hno, -⟩ := h
    · rw [hnone] at hends
      exact absurd hends.1 (by decide)
    · rw [hno] at hends
      exact absurd hends.2 (by decide)
  refine ((visited_authorityActs f s).grant.trans (grantOf_stalePass_of_stands (.inr ?_))).trans hradio
  obtain hnone | ⟨-, hno, hsettled⟩ := h
  · left
    rw [hradio]
    simpa using hnone
  · exact .inr (mt (older_radioPass hsettled).mp hno)

/-- A function that no slot goes STALE of is resolved once, from its entry as it stood (R39). -/
theorem visited_of_untouched_mapStaled {f : Fn} {s : State} (h : Untouched f (mapEnded s) (mapStaled s)) :
    ∃ u, effOf u f = effOf s f ∧ consumerBusy u f = consumerBusy s f ∧ Visited f false u (authorityActs s) := by
  have hafter := h.visited (visited_authorityActs f s)
  by_cases hends : (grantOf s f).held.isSome = true ∧ mapEnds s f = true
  · exact ⟨setGrant s f ⟨none, some .mapChange⟩, rfl, rfl, (visited_mapEnded hends.1 hends.2).again hafter⟩
  · exact ⟨s, rfl, rfl, (mapEnded_of_stands hends).visited hafter⟩

theorem untouched_mapStaled_of_discrete {f : Fn} (h : isNumeric f = false) (s : State) :
    Untouched f (mapEnded s) (mapStaled s) := by
  have hno (m : Master) (u : State) : ¬Older u m f := fun holder => by
    rw [holder.1] at h
    exact absurd h (by decide)
  exact (untouched_stalePass (hno .radio _)).trans (untouched_stalePass (hno .companion _))

theorem untouched_mapStaled_of_settled {f : Fn} {s : State} (h : ∀ m, ¬Older s m f ∧ (slotOf s m f).state ≠ .fresh) :
    Untouched f (mapEnded s) (mapStaled s) :=
  (untouched_stalePass (mt (older_mapEnded (h .radio).2).mp (h .radio).1)).trans
    (untouched_stalePass (mt (older_radioPass (h .companion).2).mp (h .companion).1))

/-- The level, source and value that decide a function, as a resolution leaves them in its entry (R40). -/
def DecidedIn (t : State) (f : Fn) : Prop :=
  ∃ l src v, Decides t f l src v
    ∧ (locked t f = false →
        (effOf t f).level = l ∧ (effOf t f).source = src ∧ ∀ r, v = some r → (effOf t f).target = r)
    ∧ (locked t f = true → (effOf t f).level = .lockout)

theorem decidedIn_of_resolved {old : Eff} {byMark : Bool} {t : State} {f : Fn} (h : Resolved old byMark t f) : DecidedIn t f := by
  obtain ⟨l, src, v, hdecides, hlocked, hfree⟩ := h
  refine ⟨l, src, v, hdecides, fun hlock => ?_, fun hlock => (hlocked hlock).1⟩
  obtain ⟨hlevel, hsource, htarget, -⟩ := hfree hlock
  exact ⟨hlevel, hsource, fun r hv => by rw [htarget, hv]; rfl⟩

theorem resolved_authorityActs {f : Fn} {s : State} (h : consumerBusy s f = false) :
    ∃ old, Resolved old false (authorityActs s) f := by
  cases hnum : isNumeric f with
  | false =>
    obtain ⟨u, -, hbusy, hvisited⟩ := visited_of_untouched_mapStaled (untouched_mapStaled_of_discrete hnum s)
    exact ⟨_, (hvisited.free (hbusy.trans h)).resolved⟩
  | true =>
    exact ⟨_, ((visited_authorityActs f s).free (consumerBusy_of_ne (isNumeric_ne_steermode hnum) _)).resolved⟩

theorem authorityActs_frame_acts (s : State) : SameExcept resolveTouches s (authorityActs s) :=
  (((endGrants_frame .mapChange (mapEnds s) s).trans (stalePass_frame .radio _)).trans (stalePass_frame .companion _)).trans
    (resolveList_frame _ _ _)

theorem isNumeric_iff (f : Fn) : isNumeric f = true ↔ f = .drive ∨ f = .steer ∨ f = .winch ∨ f = .drag := by
  cases f <;> decide

theorem authorityActs_acceptWrite (v : PerFn AuthEntry) (s : State) :
    AuthorityActs s (acceptWrite .authority (.authority v) (heard s)) := by
  have hprofile := acceptWrite_profile .authority (.authority v) s
  have hnotices : (acceptWrite .authority (.authority v) (heard s)).notices = (authorityActs (written (.authority v) s)).notices :=
    notices_acceptWrite .authority (.authority v) s
  refine ⟨fun f => ?_, acceptWrite_frame_of (l := resolveTouches) .authority (.authority v) s (authorityActs_frame_acts _)⟩
  have hafter : Untouched f (authorityActs (written (.authority v) s)) (acceptWrite .authority (.authority v) (heard s)) :=
    untouched_acceptWrite .authority (.authority v) s f
  have hsame := sameFn_written (.authority v) s f
  have hauth : authOf (acceptWrite .authority (.authority v) (heard s)) f = authOf (written (.authority v) s) f :=
    congrArg (fun p : Profile => p.authority.get f) hprofile
  have hradio : present (written (.authority v) s) .radio = true ↔ s.radio.state = .live := present_radio_iff s
  have hmap : ((authOf (written (.authority v) s) f).takeover = false
      ∨ ((authOf (written (.authority v) s) f).tethered = true ∧ s.radio.state ≠ .live))
      ↔ mapEnds (written (.authority v) s) f = true := by
    rw [mapEnds, Bool.or_eq_true, Bool.and_eq_true, Bool.not_eq_true', Bool.not_eq_true', ne_eq, ← hradio, Bool.not_eq_true]
  have holder (m : Master) : Outlived s (acceptWrite .authority (.authority v) (heard s)) m f
      ↔ Older (written (.authority v) s) m f := by
    unfold Outlived Older
    rw [hauth, hsame.slots, isNumeric_iff]
  dsimp only
  rw [hauth, hmap, holder]
  simp only [holder]
  rw [← hsame.grant, Bool.not_eq_true, Bool.not_eq_true]
  refine ⟨fun hheld hends => ?_, fun hheld hno hold => ?_, fun hstands => ?_, fun m hsettled => ?_, fun hfree => ?_,
    fun hfree hsettled => ?_⟩
  · obtain ⟨hgrant, hraised⟩ := authorityActs_mapChange hheld hends
    exact grantEnded_of (hafter.grant.trans hgrant) (hraised.of_notices hnotices) hprofile.symm
  · obtain ⟨hgrant, hraised⟩ := authorityActs_stale hheld hno hold
    exact grantEnded_of (hafter.grant.trans hgrant) (hraised.of_notices hnotices) hprofile.symm
  · refine hafter.grant.trans (authorityActs_grant_stands ?_)
    rw [hsame.slots]
    exact hstands
  · have hslot := slotOf_authorityActs (s := written (.authority v) s) (m := m) (f := f) (by rw [hsame.slots]; exact hsettled)
    rw [hafter.slots, ← hsame.slots]
    exact hslot
  · have hconsumer := hsame.busy.trans ((consumerBusy_eq_false_iff s f).mpr hfree)
    obtain ⟨old, hresolved⟩ := resolved_authorityActs hconsumer
    exact decidedIn_of_resolved (hresolved.of_same hafter.deciders hafter.eff)
  · obtain ⟨u, heff, hbusy, hvisited⟩ := visited_of_untouched_mapStaled (s := written (.authority v) s) (f := f)
      (untouched_mapStaled_of_settled fun m => ⟨(hsettled m).1, by rw [hsame.slots]; exact (hsettled m).2⟩)
    exact resolved_of_visited (hvisited.untouched hafter) (heff.trans hsame.eff) (hbusy.trans hsame.busy) hfree

/-! ### FAILSAFE -/

/-- The trimmed value of a deciding slot is one value (R46). -/
theorem TrimmedValue.eq {t : State} {m : Master} {f : Fn} {v : Int} (h : TrimmedValue t m f v) : v = decidedValue t m f := by
  obtain ⟨hplain, htrimmed, huntrimmed⟩ := h
  obtain ⟨hplain', htrimmed', huntrimmed'⟩ := trimmedValue_decidedValue t m f
  cases htrim : trimmable f with
  | false => exact (hplain htrim).trans (hplain' htrim).symm
  | true =>
    by_cases hsource : ∃ r, (authOf t f).trim = some r ∧ r ≠ m ∧ Deciding t r f
    · obtain ⟨r, hr, hne, hdec⟩ := hsource
      exact (htrimmed htrim r hr hne hdec).trans (htrimmed' htrim r hr hne hdec).symm
    · have hnone : ∀ r, (authOf t f).trim = some r → r = m ∨ ¬Deciding t r f := by
        intro r hr
        by_contra hboth
        rw [not_or, not_not] at hboth
        exact hsource ⟨r, hr, hboth⟩
      exact (huntrimmed htrim hnone).trans (huntrimmed' htrim hnone).symm

/-- One level, source and value decide a function (R42 to R44). -/
theorem Decides.eq {t : State} {f : Fn} {l : Level} {src : Src} {v : Option Int} (h : Decides t f l src v) :
    decision t f = ⟨l, src, v⟩ := by
  obtain ⟨hgrant, hfirst, hsecond, hrest⟩ := h
  unfold decision
  by_cases hheld : (grantOf t f).held.isSome = true
  · obtain ⟨rfl, rfl, rfl⟩ := hgrant hheld
    exact if_pos hheld
  rw [if_neg hheld]
  by_cases hprimary : decides t (authOf t f).primary f = true
  · obtain ⟨rfl, rfl, x, rfl, hx⟩ := hfirst hheld ((deciding_iff t _ f).mpr hprimary)
    rw [if_pos hprimary, ← hx.eq]
  rw [if_neg hprimary]
  have hno : ¬Deciding t (authOf t f).primary f := fun h => hprimary ((deciding_iff t _ f).mp h)
  cases hsec : secondaryOf t f with
  | some m =>
    obtain ⟨hm, hdec⟩ := secondaryOf_eq_some hsec
    obtain ⟨rfl, m', hm', rfl, x, rfl, hx⟩ := hsecond hheld hno ⟨m, hm, hdec⟩
    obtain rfl : m = m' := Option.some.inj (hm.symm.trans hm')
    dsimp only
    rw [← hx.eq]
  | none =>
    obtain ⟨rfl, rfl, rfl⟩ := hrest hheld hno (secondaryOf_eq_none hsec)
    rfl

/-- Above FAILSAFE, the FAILSAFE contents do not decide (R43, R44). -/
theorem Decides.of_failsafe {s t : State} {f : Fn} {l : Level} {src : Src} {v : Option Int} (h : Decides s f l src v)
    (hlevel : l ≠ .failsafe) (hauth : authOf t f = authOf s f) (hgrant : grantOf t f = grantOf s f)
    (hslots : ∀ m, slotOf t m f = slotOf s m f) (hpresent : ∀ m, present t m = present s m)
    (husable : ∀ m, usable t m f = usable s m f) : Decides t f l src v := by
  obtain ⟨hheld, hfirst, hsecond, hrest⟩ := h
  unfold Decides TrimmedValue Deciding
  unfold TrimmedValue Deciding at hfirst hsecond
  unfold Deciding at hrest
  simp only [hauth, hgrant, hslots, hpresent, husable]
  exact ⟨hheld, hfirst, hsecond, fun h1 h2 h3 => absurd (hrest h1 h2 h3).1 hlevel⟩

/-- An entry that its master decides without a blend, or with one under way, stays as it is. -/
theorem blendEntry_of_decided {e : Eff} (hunderlying : e.underlying = e.target) (hvalue : e.blend = none → e.value = e.target)
    (handover : Nat) : blendEntry e ⟨e.level, e.source, some e.target⟩ e.target handover false = e := by
  obtain ⟨value, level, source, blend, target, underlying⟩ := e
  cases hunderlying
  cases blend with
  | none =>
    cases hvalue rfl
    exact if_neg fun h => by rw [mastersChange_self] at h; exact absurd h.1 (by decide)
  | some b => exact blendEntry_of_same_master rfl (mastersChange_self source) _ _

/-- An entry as its level gives it stays through a resolution by that level. -/
theorem entryFrom_of_decided {t : State} {f : Fn} {e : Eff} (hlock : locked t f = false) (hlevel : e.level ≠ .failsafe)
    (hdecision : decision t f = ⟨e.level, e.source, some e.target⟩) (hunderlying : e.underlying = e.target)
    (hvalue : e.blend = none → e.value = e.target) (hdiscrete : isNumeric f = false → e.blend = none) :
    entryFrom t f e false = e := by
  cases hnum : isNumeric f with
  | false =>
    rw [entryFrom_of_plain hlock (.inl hnum), hdecision]
    obtain ⟨value, level, source, blend, target, underlying⟩ := e
    cases hunderlying
    cases hdiscrete hnum
    cases hvalue rfl
    rfl
  | true =>
    rw [entryFrom_of_blending hlock hnum (by rw [hdecision]; exact hlevel), hdecision]
    exact blendEntry_of_decided hunderlying hvalue _

theorem failsafeActs_acceptWrite (v : PerFn (Option Int)) (s : State) :
    FailsafeActs s (acceptWrite .failsafe (.failsafe v) (heard s)) := by
  have hprofile := acceptWrite_profile .failsafe (.failsafe v) s
  have hframe := written_frame (.failsafe v) s
  refine ⟨fun f => ?_, (acceptWrite_frame_of (l := resolveTouches) .failsafe (.failsafe v) s
    (resolveList_frame _ _ _)).mono (by decide)⟩
  have hafter := untouched_acceptWrite .failsafe (.failsafe v) s f
  have hsame := sameFn_written (.failsafe v) s f
  have hcontent : (acceptWrite .failsafe (.failsafe v) (heard s)).profile.failsafe.get f = v.get f := by rw [hprofile]; rfl
  have hchanged : f ∈ Fn.all.filter (fun f => s.profile.failsafe.get f != v.get f) ↔ v.get f ≠ s.profile.failsafe.get f := by
    rw [List.mem_filter, bne_iff_ne, ne_comm]
    exact and_iff_right (Fn.mem_all f)
  have hstands (h : v.get f = s.profile.failsafe.get f) :
      Untouched f (written (.failsafe v) s) (acceptWrite .failsafe (.failsafe v) (heard s)) :=
    (untouched_resolveList (fun hmem => hchanged.mp hmem h) (fun _ => false) _).trans hafter
  have hresolved (h : v.get f ≠ s.profile.failsafe.get f) :
      Visited f false (written (.failsafe v) s) (acceptWrite .failsafe (.failsafe v) (heard s)) :=
    (visited_resolveList (Fn.nodup_all.filter _) (hchanged.mpr h) (fun _ => false) _).untouched hafter
  dsimp only
  rw [hcontent]
  refine ⟨fun h => (hstands h).eff.trans hsame.eff, fun h hfree => resolved_of_visited (hresolved h) hsame.eff hsame.busy hfree,
    fun hlock hlevel hdecides hunderlying hvalue hdiscrete => ?_, ?_⟩
  · by_cases h : v.get f = s.profile.failsafe.get f
    · exact (hstands h).eff.trans hsame.eff
    have hpresent (m : Master) : present (written (.failsafe v) s) m = present s m := by cases m <;> rfl
    have husable (m : Master) : usable (written (.failsafe v) s) m f = usable s m f := by cases m <;> rfl
    have hdecision := (hdecides.of_failsafe (t := written (.failsafe v) s) hlevel rfl hsame.grant hsame.slots hpresent husable).eq
    have hkept := entryFrom_of_decided (t := written (.failsafe v) s) hlock hlevel hdecision hunderlying hvalue hdiscrete
    cases hbusy : consumerBusy (written (.failsafe v) s) f with
    | false => rw [((hresolved h).free hbusy).eff, hsame.eff, hkept]
    | true => exact ((hresolved h).busy hbusy).eff.trans hsame.eff
  · by_cases h : v.get f = s.profile.failsafe.get f
    · exact (hstands h).grant.trans hsame.grant
    · exact (hresolved h).grant.trans hsame.grant

/-- Settles O28. -/
theorem resolverSectionsAct : Obligations.ResolverSectionsAct := by
  intro s sect k body hpasses
  obtain ⟨d, -, hsect, hexec⟩ := exec_of_passes hpasses
  refine ⟨_, hexec, fun hk => ?_, fun hk => ?_, fun hk => ?_⟩
  all_goals
    subst hk
    cases d <;> cases hsect
  · exact sourcesAct_acceptWrite _ s
  · exact authorityActs_acceptWrite _ s
  · exact failsafeActs_acceptWrite _ s

end Sys2Proof.Machine
end

section
/-! PROOFS. An accepted PROFILE_WRITE in the units: GEOMETRY, LAMPS, SCENES and WINCH (R66, R116, R158, R159). -/
namespace Sys2Proof.Machine

/-! ### What an acceptance leaves of the units -/

theorem sameHanding_acceptWrite (k : Sect) (d : SectionData) (s : State) :
    SameHanding (sectionActs s.profile d (written d s)) (acceptWrite k d (heard s)) :=
  .of_frame (acceptWrite_frame_acted k d (heard s)) (by decide)

theorem SameHanding.lampsFollow {s s' t t' : State} (ht : SameHanding t t') (hs : s'.lamps = s.lamps) (h : LampsFollow s t) :
    LampsFollow s' t' := by
  have hboth : LampsFollow s' t := by
    unfold LampsFollow LampsKept
    rw [hs]
    exact h
  obtain ⟨hresolver, hsteering, hdrive, hwinch, hlamps, hprotection, hprofile⟩ := ht
  cases t
  cases t'
  cases hresolver
  cases hsteering
  cases hdrive
  cases hwinch
  cases hlamps
  cases hprotection
  cases hprofile
  exact hboth

theorem SameHanding.sceneTaken {n : Fin 16} {s s' t t' : State} (ht : SameHanding t t') (hs : s'.lamps = s.lamps)
    (h : SceneTaken n s t) : SceneTaken n s' t' := by
  have hboth : SceneTaken n s' t := by
    unfold SceneTaken LampsKept
    rw [hs]
    exact h
  obtain ⟨hresolver, hsteering, hdrive, hwinch, hlamps, hprotection, hprofile⟩ := ht
  cases t
  cases t'
  cases hresolver
  cases hsteering
  cases hdrive
  cases hwinch
  cases hlamps
  cases hprotection
  cases hprofile
  exact hboth

/-- A kind raised under the same notice masks is raised, whatever other sections a write replaced. -/
theorem Raised.of_sources {k : Notice} {s t u : State} (h : Raised k s t) (hp : u.profile.sources = s.profile.sources) :
    Raised k u t := by
  unfold Raised
  rw [hp]
  exact h

/-! ### GEOMETRY, MAP, REPLY and LAMPS -/

theorem acceptWrite_frame_of_rests (k : Sect) {d : SectionData} {s : State}
    (h : sectionActs s.profile d (written d s) = written d s) : SameExcept acceptTouches s (acceptWrite k d (heard s)) := by
  refine (acceptWrite_frame_of (l := []) k d s ?_).mono (by decide)
  rw [h]
  exact SameExcept.refl _ _

theorem chan_state_of_parked {s : State} (h : parked s = true) (w : Wheel) :
    (chan s w).state = .drag ∨ (chan s w).state = .lockedOut := by
  simp only [parked, Bool.and_eq_true, List.all_eq_true] at h
  have hall := PerWheel.forall_mem_list.mp h.1.2 w
  simpa [chan] using hall

theorem channels_map_eq {t : PerWheel Channel} {g : Channel → Channel} (h : ∀ w, g (t.get w) = t.get w) : t.map g = t := by
  obtain ⟨fl, fr, rl, rr⟩ := t
  exact congr (congr (congr (congrArg PerWheel.mk (h .fl)) (h .fr)) (h .rl)) (h .rr)

theorem mapChans_of_fixed {s : State} {g : Channel → Channel} (h : ∀ w, g (chan s w) = chan s w) : mapChans s g = s := by
  have hchannels : s.drive.channels.map g = s.drive.channels := channels_map_eq h
  rw [mapChans, hchannels]
  rfl

/-- While parked no channel is in RUN, and the transition limit finds nothing to clamp (R84). -/
theorem geometryActs_of_parked {s : State} (h : parked s = true) : geometryActs s = s := by
  unfold geometryActs
  split
  · refine mapChans_of_fixed fun w => if_neg fun hrun => ?_
    obtain hst | hst := chan_state_of_parked h w <;> simp [hst] at hrun
  · rfl

/-! ### SCENES -/

theorem scenesAct_acceptWrite (i : Fin 16) (v : Scene) (s : State) :
    ScenesAct i.val s (acceptWrite .scenes (.scene i v) (heard s)) := by
  have hsame := sameHanding_acceptWrite .scenes (.scene i v) s
  refine ⟨fun heff j hj => ?_, fun hne hlow hhigh => ?_,
    (acceptWrite_frame_of .scenes (.scene i v) s (sceneActs_frame i _)).mono (by decide)⟩
  · obtain rfl : j = i := Fin.ext hj
    have hforce : sceneInForce (written (.scene j v) s) = j := sceneInForce_of_effective heff
    have hacts : sectionActs s.profile (.scene j v) (written (.scene j v) s) = sceneHanded (written (.scene j v) s) := if_pos hforce
    have htaken := sceneTaken_of hforce (lampsAt_lampResolve (takeScene (written (.scene j v) s))) rfl rfl
    rw [hacts] at hsame
    exact hsame.sceneTaken rfl htaken
  · have hforce : sceneInForce (written (.scene i v) s) ≠ i := fun h => hne (by
      have hval := congrArg Fin.val h
      have hmod : (effective s .scene).toNat % 16 = i.val := hval
      omega)
    have hacts : sectionActs s.profile (.scene i v) (written (.scene i v) s) = written (.scene i v) s := if_neg hforce
    rw [hacts] at hsame
    exact hsame.lamps

/-! ### WINCH -/

/-- The winch record that a write's fields give at once, before its state is tested (R110, R116). -/
def winchWritten (old : WinchSection) (s : State) : WinchUnit :=
  let known := s.winch.known && decide (s.profile.winch.reverse = old.reverse)
  { s.winch with
    known := known
    duty := if known = false ∧ (s.profile.winch.slowIn : Int) < s.winch.duty then s.profile.winch.slowIn else s.winch.duty }

theorem slowInClamp_reverseChanged (old : WinchSection) (s : State) :
    slowInClamp (reverseChanged old s) = s.setWinch (winchWritten old s) := by
  have hclamp (u : State) (hu : u.profile = s.profile) (hduty : u.winch.duty = s.winch.duty) (hunknown : u.winch.known = false) :
      slowInClamp u = u.setWinch { u.winch with
        duty := if (s.profile.winch.slowIn : Int) < s.winch.duty then s.profile.winch.slowIn else s.winch.duty } := by
    have hmin : min u.winch.duty (u.profile.winch.slowIn : Int)
        = if (s.profile.winch.slowIn : Int) < s.winch.duty then (s.profile.winch.slowIn : Int) else s.winch.duty := by
      rw [hu, hduty]
      split <;> omega
    rw [slowInClamp, hunknown, ← hmin]
    rfl
  by_cases hrev : old.reverse = s.profile.winch.reverse
  · have hkeep : reverseChanged old s = s := if_pos hrev
    rw [hkeep, winchWritten, decide_eq_true hrev.symm, Bool.and_true]
    cases hknown : s.winch.known with
    | true =>
      have hrests : slowInClamp s = s := if_pos hknown
      have hrecord : s.winch = { s.winch with known := true } := by rw [← hknown]
      rw [hrests]
      rw [if_neg fun h => absurd h.1 (by decide)]
      conv_lhs => rw [show s = s.setWinch s.winch from rfl, hrecord]
    | false =>
      have hrecord : s.winch = { s.winch with known := false } := by rw [← hknown]
      rw [hclamp s rfl rfl hknown, hrecord]
      simp only [true_and]
  · have hlost : reverseChanged old s = s.setWinch { s.winch with known := false } := if_neg hrev
    rw [hlost, hclamp (s.setWinch { s.winch with known := false }) rfl rfl rfl, winchWritten, decide_eq_false (Ne.symm hrev),
      Bool.and_false]
    simp only [true_and]
    rfl

/-- The held WINCH takes a winch from a stop that no longer holds (R104, R116). -/
theorem goes_goByHeld {s : State} (hin : s.winch.state = .limitIn → atInStop s = false)
    (hout : s.winch.state = .limitOut → atOutStop s = false) (hat : s.winch.state = .limitIn ∨ s.winch.state = .limitOut) :
    Goes (if s.winch.held.natAbs ≤ s.profile.drive.neutralBand then .idle
      else if 0 < s.winch.held then (if s.winch.known = true ∧ payout s.winch ≤ 0 then .limitIn else .inward)
      else if s.winch.known = true ∧ (limitCount s.profile.winch : Int) ≤ payout s.winch then .limitOut else .outward)
      s (goByHeld s) := by
  have hne {st : WinchState} (h1 : st ≠ .limitIn) (h2 : st ≠ .limitOut) : s.winch.state ≠ st := fun h =>
    hat.elim (fun h' => h1 (h.symm.trans h')) fun h' => h2 (h.symm.trans h')
  rw [goByHeld, ite_inBand]
  split
  · exact goes_goIdle (hne (by decide) (by decide))
  · split
    · exact goes_goInward (hne (by decide) (by decide)) fun hstop h => by rw [hin h] at hstop; cases hstop
    · exact goes_goOutward (hne (by decide) (by decide)) fun hstop h => by rw [hout h] at hstop; cases hstop

/-- The state of a winch whose fields were written, tested by its clear timer and its stops (R116). -/
theorem goes_retest (s : State) : Goes (winchStateAfterWrite s.winch.known s.profile.winch s.profile.drive.neutralBand s.winch) s
    (retestLimit (stallByTime s)) := by
  have hstays (st : WinchState) (hst : s.winch.state = st) (hne : st ≠ .stalled) : stallByTime s = s := by
    unfold stallByTime
    split
    next h _ => exact absurd (hst.symm.trans h) hne
    next => rfl
  have hlast (st : WinchState) (hst : s.winch.state = st) : Goes st s s := hst ▸ Goes.stays s
  unfold winchStateAfterWrite
  cases hst : s.winch.state with
  | idle =>
    rw [hstays .idle hst (by decide), retestLimit, hst]
    exact hlast .idle hst
  | inward =>
    rw [hstays .inward hst (by decide), retestLimit, hst]
    exact hlast .inward hst
  | outward =>
    rw [hstays .outward hst (by decide), retestLimit, hst]
    exact hlast .outward hst
  | limitIn =>
    rw [hstays .limitIn hst (by decide), retestLimit, hst]
    dsimp only
    by_cases hstop : atInStop s = true
    · rw [if_pos hstop, if_pos ((atInStop_iff s).mp hstop)]
      exact hlast .limitIn hst
    · rw [if_neg hstop, if_neg (mt (atInStop_iff s).mpr hstop)]
      exact goes_goByHeld (fun _ => by simpa using hstop) (fun h => by rw [hst] at h; cases h) (.inl hst)
  | limitOut =>
    rw [hstays .limitOut hst (by decide), retestLimit, hst]
    dsimp only
    by_cases hstop : atOutStop s = true
    · rw [if_pos hstop, if_pos ((atOutStop_iff s).mp hstop)]
      exact hlast .limitOut hst
    · rw [if_neg hstop, if_neg (mt (atOutStop_iff s).mpr hstop)]
      exact goes_goByHeld (fun h => by rw [hst] at h; cases h) (fun _ => by simpa using hstop) (.inr hst)
  | stalled =>
    have hretest : retestLimit s = s := by rw [retestLimit, hst]
    cases hclear : s.winch.clear with
    | none =>
      have hrests : stallByTime s = s := by rw [stallByTime, hst, hclear]
      rw [hrests, hretest]
      exact hlast .stalled hst
    | some n =>
      have hstall : stallByTime s = if s.profile.winch.stallClear ≤ n then goIdle s else s := by rw [stallByTime, hst, hclear]
      rw [hstall]
      dsimp only
      split
      · have hidle : retestLimit (goIdle s) = goIdle s := by
          have hstate : (goIdle s).winch.state = .idle := (congrArg WinchUnit.state (goIdle_winch s) :)
          rw [retestLimit, hstate]
        rw [hidle]
        exact goes_goIdle (by rw [hst]; decide)
      · rw [hretest]
        exact hlast .stalled hst

/-- The lamps follow the winch in the state that an acceptance leaves (R154). -/
theorem Goes.lampsFollow_accepted {st : WinchState} {s u v t : State} (h : Goes st u v) (hstate : u.winch.state = s.winch.state)
    (hlamps : u.lamps = s.lamps) (ht : SameHanding v t) : LampsFollowWinch s t := by
  unfold LampsFollowWinch
  rw [ht.winch, ht.lamps, ← hstate, ← hlamps]
  refine ⟨fun hsame => h.lamps.elim And.right fun ⟨hne, _⟩ => absurd hsame hne, fun hne => ?_⟩
  obtain ⟨hsame, _⟩ | ⟨_, w, hw, hv⟩ := h.lamps
  · exact absurd hsame hne
  · rw [hv] at ht
    exact ht.lampsFollow rfl (lampsFollow_lampResolve (hw.trans hlamps))

/-- A limit state entered in the state that an acceptance leaves raises WINCH_LIMIT (R105). -/
theorem Goes.raised_accepted {st : WinchState} {s u v t : State} (h : Goes st u v) (hstate : u.winch.state = s.winch.state)
    (hsources : s.profile.sources = u.profile.sources) (hwinch : t.winch = v.winch) (hnotices : t.notices = v.notices)
    (hentered : LimitEntered s t) : Raised .winchLimit s t := by
  have hin : LimitEntered u v := by
    unfold LimitEntered at hentered ⊢
    rw [hwinch, ← hstate] at hentered
    exact hentered
  exact ((raised_raise .winchLimit u).of_notices (hnotices.trans (h.limit hin))).of_sources hsources

theorem winchActs_acceptWrite (v : WinchSection) (s : State) : WinchActs s (acceptWrite .winch (.winch v) (heard s)) := by
  have hsame := sameHanding_acceptWrite .winch (.winch v) s
  have hacts : sectionActs s.profile (.winch v) (written (.winch v) s)
      = retestLimit (stallByTime ((written (.winch v) s).setWinch (winchWritten s.profile.winch (written (.winch v) s)))) := by
    rw [← slowInClamp_reverseChanged]
    rfl
  have hgoes := goes_retest ((written (.winch v) s).setWinch (winchWritten s.profile.winch (written (.winch v) s)))
  rw [hacts] at hsame
  have hnotices := notices_acceptWrite .winch (.winch v) s
  rw [hacts] at hnotices
  unfold WinchActs
  rw [acceptWrite_profile, hsame.winch]
  exact ⟨hgoes.winch, hgoes.lampsFollow_accepted rfl rfl hsame, hgoes.raised_accepted rfl rfl hsame.winch hnotices,
    acceptWrite_frame_of .winch (.winch v) s (winchActsOn_frame _ _)⟩

end Sys2Proof.Machine
end

section
/-! PROOFS. An accepted DRIVE write in the units (R98). -/
namespace Sys2Proof.Machine

/-! ### The channels -/

/-- A channel's duty held to the top of the range in force (R86). -/
def heldToTop (top : Int) (c : Channel) : Channel := { c with duty := clampI (-top) top c.duty }

/-- A LOCKED_OUT channel after a DRIVE write, with its clear timer as the band has left it (R98). -/
def lockedAfter (clearTime : Nat) (drag top : Int) (c : Channel) : Option Nat → Channel
  | some n => if clearTime ≤ n then clearedChannel drag c else { heldToTop top c with clear := some n }
  | none => { heldToTop top c with clear := none }

theorem clearByTime_of_lockedOut {c : Channel} (h : c.state = .lockedOut) (clearTime : Nat) (drag top : Int) (timer : Option Nat) :
    clearByTime clearTime drag (heldToTop top { c with clear := timer }) = lockedAfter clearTime drag top c timer := by
  cases c
  cases h
  cases timer with
  | none => rfl
  | some n =>
    unfold clearByTime lockedAfter
    dsimp only [heldToTop]
    split <;> rfl

theorem clearByTime_of_drag {c : Channel} (h : c.state = .drag) (clearTime : Nat) (drag : Int) : clearByTime clearTime drag c = c := by
  cases c
  cases h
  rfl

theorem bandAtLockout_of_drag {c : Channel} (h : c.state = .drag) (moved band : Bool) : bandAtLockout moved band c = c := by
  refine if_neg ?_
  rw [h]
  simp

theorem bandAtLockout_of_lockedOut {c : Channel} (h : c.state = .lockedOut) (moved band : Bool) : bandAtLockout moved band c =
    { c with clear := if moved then (if band then some (c.clear.getD 0) else none) else c.clear } := by
  cases c
  cases h
  cases moved <;> rfl

theorem inBandOf_eq_inBand_iff (old : DriveSection) (s : State) (v : Int) :
    inBandOf old v = inBand s v ↔ (v.natAbs ≤ old.neutralBand ↔ v.natAbs ≤ s.profile.drive.neutralBand) := decide_eq_decide

/-! ### The stages of a DRIVE write -/

/-- The recovery condition and the clear timers under the new band (R98). -/
def bandTaken (old : DriveSection) (s : State) : State :=
  mapChans (recoveryDriveTest s)
    (bandAtLockout (inBandOf old (effective s .drive) != inBand s (effective s .drive)) (inBand s (effective s .drive)))

/-- The held WINCH under the new band (R104). -/
def heldTaken (old : DriveSection) (s : State) : State :=
  if inBandOf old s.winch.held = inBand s s.winch.held then bandTaken old s else winchActs (bandTaken old s)

theorem bandTaken_frame (old : DriveSection) (s : State) : SameExcept [.protection, .drive] s (bandTaken old s) :=
  ((recoveryDriveTest_frame_only s).mono (by decide)).trans ((mapChans_frame _ _).mono (by decide))

theorem heldTaken_frame (old : DriveSection) (s : State) : SameExcept winchTouches (bandTaken old s) (heldTaken old s) := by
  unfold heldTaken
  split
  · exact SameExcept.refl _ _
  · exact winchActs_frame _

theorem driveActs_eq (old : DriveSection) (s : State) : driveActs old s =
    mapChans (rangeHanded (heldTaken old s)) (clearByTime s.profile.drive.clearTime (effective s .drag)) := by
  have hwinch : (bandTaken old s).winch = s.winch := bandTaken_frame old s .winch (by decide)
  have hprofile : (bandTaken old s).profile = s.profile := bandTaken_frame old s .profile (by decide)
  have hheld : heldTaken old s = if inBandOf old (bandTaken old s).winch.held = inBand s (bandTaken old s).winch.held
      then bandTaken old s else winchActs (bandTaken old s) := by rw [hwinch]; rfl
  rw [hheld, hwinch]
  rfl

theorem driveActs_frame_from_held (old : DriveSection) (s : State) : SameExcept [.drive] (heldTaken old s) (driveActs old s) := by
  rw [driveActs_eq]
  exact (mapChans_frame _ _).trans (mapChans_frame _ _)

theorem chan_driveActs (old : DriveSection) (s : State) (w : Wheel) : chan (driveActs old s) w =
    clearByTime s.profile.drive.clearTime (effective s .drag) (heldToTop (topDuty s)
      (bandAtLockout (inBandOf old (effective s .drive) != inBand s (effective s .drive)) (inBand s (effective s .drive)) (chan s w))) := by
  have hframe : SameExcept [.protection, .drive, .winch, .lamps, .notices] s (heldTaken old s) :=
    ((bandTaken_frame old s).mono (by decide)).trans ((heldTaken_frame old s).mono (by decide))
  have htop : topDuty (heldTaken old s) = topDuty s := by
    have hprofile : (heldTaken old s).profile = s.profile := hframe .profile (by decide)
    rw [topDuty, hframe.effective (by decide), hprofile]
    rfl
  have hchan : chan (heldTaken old s) w = chan (bandTaken old s) w := (heldTaken_frame old s).chan (by decide) w
  rw [driveActs_eq, chan_mapChans, rangeHanded, chan_mapChans, hchan, htop, bandTaken, chan_mapChans,
    (recoveryDriveTest_frame_only s).chan (by decide)]
  rfl

theorem OnlyChannels.trans {s t u : State} (h : OnlyChannels s t) (h' : OnlyChannels t u) : OnlyChannels s u := by
  unfold OnlyChannels at h'
  rw [h] at h'
  exact h'

theorem onlyChannels_of_same {s t : State} (h : t.drive = s.drive) : OnlyChannels s t := by
  rw [OnlyChannels, h]

theorem onlyChannels_mapChans (s : State) (g : Channel → Channel) : OnlyChannels s (mapChans s g) := rfl

theorem onlyChannels_driveActs (old : DriveSection) (s : State) : OnlyChannels s (driveActs old s) := by
  have htest : OnlyChannels s (recoveryDriveTest s) := onlyChannels_of_same (recoveryDriveTest_frame_only s .drive (by decide))
  have hheld : OnlyChannels (bandTaken old s) (heldTaken old s) := onlyChannels_of_same (heldTaken_frame old s .drive (by decide))
  rw [driveActs_eq]
  exact (((htest.trans (onlyChannels_mapChans _ _)).trans hheld).trans (onlyChannels_mapChans _ _)).trans
    (onlyChannels_mapChans _ _)

/-- The recovery condition tested by the new band (R137). -/
theorem recoveryDriveTest_record (s : State) : (recoveryDriveTest s).protection =
    { s.protection with
      driveOk := underlyingInBand s
      recovery :=
        if s.protection.state = .cutoff then
          if s.protection.cellOk = true ∧ s.protection.currentOk = true ∧ underlyingInBand s = true then
            some (s.protection.recovery.getD 0)
          else none
        else s.protection.recovery } := by
  rw [recoveryDriveTest, recoveryTest_protection]
  rfl

theorem driveActs_protection (old : DriveSection) (s : State) : (driveActs old s).protection = (recoveryDriveTest s).protection :=
  driveActs_frame_from_test old s .protection (by decide)

/-! ### The lamps and the winch -/

/-- The lamps' results stand under wheel channels that are as much at rest. -/
theorem LampsAt.of_drive {s t : State} (hs : LampsAt s) (h : SameExcept [.drive] s t) (hrest : atRest t = atRest s) : LampsAt t := by
  have hresolver : t.resolver = s.resolver := h .resolver (by decide)
  have hwinch : t.winch = s.winch := h .winch (by decide)
  have hlamps : t.lamps = s.lamps := h .lamps (by decide)
  have hprotection : t.protection = s.protection := h .protection (by decide)
  have hprofile : t.profile = s.profile := h .profile (by decide)
  have hroleOf (i : Fin 8) : roleOf t i = roleOf s i := congrArg (fun p : Profile => (p.lamps.channels.get i).role) hprofile
  have hlit : headLit t = headLit s := by
    refine congrArg (List.any (List.finRange 8)) (funext fun i => ?_)
    rw [hroleOf, hlamps]
  have heff (f : Fn) : effective t f = effective s f := congrArg (fun r : Resolver => (r.eff.get f).value) hresolver
  have hheld : anyHeld t = anyHeld s := by
    refine congrArg (List.any Fn.all) (funext fun f => ?_)
    rw [grantOf, hresolver]
    rfl
  have hblink : blinkLevel t = blinkLevel s := by rw [blinkLevel, hlamps]; rfl
  have hrole (r : Role) (base : Nat) : roleLevel t r base = roleLevel s r base := by
    unfold roleLevel
    rw [hrest, hlit, hheld, hwinch, hprofile, hblink]
    simp only [heff]
  have hwished (r : Role) (level : Nat) : wishedLevel t r level = wishedLevel s r level := by
    unfold wishedLevel
    rw [hprotection, hblink]
  refine ⟨fun i => ?_, fun i => ?_, fun i => ?_, ?_⟩
  · rw [hrole, hroleOf, hlamps]
    exact hs.role i
  · rw [hwished, hroleOf, hlamps]
    exact hs.wished i
  · rw [hlamps]
    exact hs.output i
  · rw [hlamps, hprofile]
    exact hs.claim

/-- No channel is in RUN before or after a write, which is taken only while parked. -/
theorem atRest_driveActs {s : State} (h : parked s = true) (old : DriveSection) :
    atRest (driveActs old s) = true ∧ atRest (heldTaken old s) = true := by
  refine ⟨(atRest_iff _).mpr fun w => ?_, (atRest_iff _).mpr fun w => ?_⟩
  · rw [chan_driveActs]
    obtain hst | hst := chan_state_of_parked h w
    · rw [bandAtLockout_of_drag hst, clearByTime_of_drag (c := heldToTop (topDuty s) (chan s w)) hst]
      show (chan s w).state ≠ .run
      rw [hst]
      decide
    · rw [bandAtLockout_of_lockedOut hst, clearByTime_of_lockedOut hst]
      unfold lockedAfter
      split
      · split
        · exact fun h => nomatch h
        · show (chan s w).state ≠ .run
          rw [hst]
          decide
      · show (chan s w).state ≠ .run
        rw [hst]
        decide
  · rw [(heldTaken_frame old s).chan (by decide), bandTaken, chan_mapChans, (recoveryDriveTest_frame_only s).chan (by decide)]
    obtain hst | hst := chan_state_of_parked h w
    · rw [bandAtLockout_of_drag hst, hst]
      decide
    · rw [bandAtLockout_of_lockedOut hst]
      show (chan s w).state ≠ .run
      rw [hst]
      decide

/-- Under a band that has not moved over it, the held WINCH is not handed to the winch. -/
theorem heldTaken_of_same {old : DriveSection} {s : State} (h : inBandOf old s.winch.held = inBand s s.winch.held) :
    heldTaken old s = bandTaken old s := if_pos h

theorem heldTaken_of_moved {old : DriveSection} {s : State} (h : inBandOf old s.winch.held ≠ inBand s s.winch.held) :
    heldTaken old s = winchActs (bandTaken old s) := if_neg h

theorem driveActs_frame_of_same {old : DriveSection} {s : State} (h : inBandOf old s.winch.held = inBand s s.winch.held) :
    SameExcept [.protection, .drive] s (driveActs old s) := by
  have hfrom := driveActs_frame_from_held old s
  rw [heldTaken_of_same h] at hfrom
  exact (bandTaken_frame old s).trans (hfrom.mono (by decide))

theorem winchTakes_driveActs {old : DriveSection} {s : State} (hparked : parked s = true)
    (h : inBandOf old s.winch.held ≠ inBand s s.winch.held) :
    WinchTakes s.profile.drive.neutralBand s.winch.held s (driveActs old s)
      ∧ (LimitEntered s (driveActs old s) → Raised .winchLimit s (driveActs old s)) := by
  have hframe := bandTaken_frame old s
  have hwinch : (bandTaken old s).winch = s.winch := hframe .winch (by decide)
  have hlamps : (bandTaken old s).lamps = s.lamps := hframe .lamps (by decide)
  have hprofile : (bandTaken old s).profile = s.profile := hframe .profile (by decide)
  have hafter := driveActs_frame_from_held old s
  rw [heldTaken_of_moved h] at hafter
  have hacts : (driveActs old s).winch = (winchActs (bandTaken old s)).winch := hafter .winch (by decide)
  have hlit : (driveActs old s).lamps = (winchActs (bandTaken old s)).lamps := hafter .lamps (by decide)
  have hnotices : (driveActs old s).notices = (winchActs (bandTaken old s)).notices := hafter .notices (by decide)
  unfold WinchTakes
  dsimp only
  by_cases hstalled : s.winch.state = .stalled
  · have hclear : (driveActs old s).winch =
        { s.winch with clear := if s.winch.held.natAbs ≤ s.profile.drive.neutralBand then some (s.winch.clear.getD 0) else none } := by
      rw [hacts, winchActs_of_stalled (by rw [hwinch]; exact hstalled), hwinch]
      have hband : inBand (bandTaken old s) s.winch.held = inBand s s.winch.held := by rw [inBand, hprofile]; rfl
      rw [hband]
      exact congrArg (fun c => { s.winch with clear := c }) (ite_inBand s s.winch.held _ _)
    have hsame : (driveActs old s).winch.state = s.winch.state := by rw [hclear]
    refine ⟨⟨fun _ => hclear, fun hne => absurd hstalled hne, fun _ => ?_, fun hne => absurd hsame hne⟩,
      fun hentered => absurd hsame hentered.1⟩
    rw [hlit, winchActs_of_stalled (by rw [hwinch]; exact hstalled)]
    exact hlamps
  · have hgoes := goes_winchActs (s := bandTaken old s) (by rw [hwinch]; exact hstalled)
    have htable : winchStateFor (bandTaken old s).profile.drive.neutralBand (bandTaken old s).winch.held (bandTaken old s)
        = winchStateFor s.profile.drive.neutralBand s.winch.held s := by
      unfold winchStateFor
      rw [hwinch, hprofile]
    have hgoesWinch := hgoes.winch
    rw [htable, hwinch] at hgoesWinch
    refine ⟨⟨fun h => absurd h hstalled, fun _ => hacts ▸ hgoesWinch, fun hsame => ?_, fun hne => ?_⟩, fun hentered => ?_⟩
    · rw [hacts, ← hwinch] at hsame
      exact hlit.trans ((hgoes.lamps.elim And.right fun ⟨hne, _⟩ => absurd hsame hne).trans hlamps)
    · rw [hacts, ← hwinch] at hne
      obtain ⟨hsame, _⟩ | ⟨_, u, hu, hv⟩ := hgoes.lamps
      · exact absurd hsame hne
      · have hrest := atRest_driveActs hparked old
        have hat : LampsAt (driveActs old s) := by
          refine LampsAt.of_drive (s := heldTaken old s) ?_ (driveActs_frame_from_held old s) (hrest.1.trans hrest.2.symm)
          rw [heldTaken_of_moved h, hv]
          exact lampsAt_lampResolve u
        exact lampsFollow_of_at hat (hu.trans hlamps) (hlit.trans (congrArg State.lamps hv))
    · have hin : LimitEntered (bandTaken old s) (winchActs (bandTaken old s)) := by
        unfold LimitEntered at hentered ⊢
        rw [hacts] at hentered
        rw [hwinch]
        exact hentered
      exact ((raised_raise .winchLimit _).of_notices (hnotices.trans (hgoes.limit hin))).of_profile hprofile

/-! ### The write -/

/-- The top of the range in force, in the words of the rules. -/
theorem topDuty_cast (s : State) : (topDuty s : Int) =
    if effective s .range = 0 then (s.profile.drive.topLow : Int)
    else if effective s .range = 1 then s.profile.drive.topMid else s.profile.drive.topHigh := by
  unfold topDuty
  split
  · rfl
  · split <;> rfl

theorem driveActs_acceptWrite {s : State} (hparked : parked s = true) (v : DriveSection) :
    DriveActs s (acceptWrite .drive (.drive v) (heard s)) := by
  have hsame : SameHanding (driveActs s.profile.drive (written (.drive v) s)) (acceptWrite .drive (.drive v) (heard s)) :=
    sameHanding_acceptWrite .drive (.drive v) s
  have hnotices : (acceptWrite .drive (.drive v) (heard s)).notices = (driveActs s.profile.drive (written (.drive v) s)).notices :=
    notices_acceptWrite .drive (.drive v) s
  have hchan (w : Wheel) : chan (acceptWrite .drive (.drive v) (heard s)) w = _ :=
    (congrArg (fun d : DriveUnit => d.channels.get w) hsame.drive).trans (chan_driveActs s.profile.drive (written (.drive v) s) w)
  have hprotection := hsame.protection.trans ((driveActs_protection _ _).trans (recoveryDriveTest_record (written (.drive v) s)))
  have htop := topDuty_cast (written (.drive v) s)
  have hmoved (x : Int) := inBandOf_eq_inBand_iff s.profile.drive (written (.drive v) s) x
  have hwinchTakes := winchTakes_driveActs (s := written (.drive v) s) (old := s.profile.drive) hparked
  unfold DriveActs
  rw [acceptWrite_profile]
  intro old new e u moved range top
  have hband (x : Int) (h : ¬moved x) : inBandOf s.profile.drive x = inBand (written (.drive v) s) x :=
    (hmoved x).mpr (not_not.mp h)
  refine ⟨fun hcut => ?cutoff, fun hnot => ?others, fun w => ?channel, ?only, fun hno => ?stays, fun hheld => ?taken, ?limit, ?frame⟩
  case cutoff =>
    rw [hprotection]
    have hcut' : (written (.drive v) s).protection.state = .cutoff := hcut
    rw [if_pos hcut']
    have hok : underlyingInBand (written (.drive v) s) = decide (u.natAbs ≤ v.neutralBand) := rfl
    rw [hok]
    simp only [decide_eq_true_eq]
    rfl
  case others =>
    rw [hprotection]
    have hnot' : (written (.drive v) s).protection.state ≠ .cutoff := hnot
    rw [if_neg hnot']
    rfl
  case channel =>
    intro c kept clears after
    have hc := hchan w
    have hsameChan : chan (written (.drive v) s) w = c := rfl
    rw [hsameChan] at hc
    have hkept : heldToTop (topDuty (written (.drive v) s)) c = kept := by
      rw [heldToTop, htop]
      rfl
    have hafter (timer : Option Nat) :
        lockedAfter v.clearTime (effective s .drag) (topDuty (written (.drive v) s)) c timer = after timer := by
      unfold lockedAfter
      rw [hkept]
      cases timer <;> rfl
    have hlocks (timer : Option Nat) (hlocked : c.state = .lockedOut)
        (ht : (if (inBandOf s.profile.drive e != inBand (written (.drive v) s) e) = true
          then (if inBand (written (.drive v) s) e = true then some (c.clear.getD 0) else none) else c.clear) = timer) :
        chan (acceptWrite .drive (.drive v) (heard s)) w = after timer := by
      rw [hc, bandAtLockout_of_lockedOut hlocked, clearByTime_of_lockedOut hlocked]
      exact (congrArg (lockedAfter v.clearTime (effective s .drag) _ c) ht).trans (hafter timer)
    have hmoves (hmove : moved e) : (inBandOf s.profile.drive e != inBand (written (.drive v) s) e) = true :=
      bne_iff_ne.mpr (mt (hmoved e).mp hmove)
    refine ⟨fun hdrag => ?_, fun hlocked hno => hlocks _ hlocked (if_neg ?_),
      fun hlocked hmove hlow => hlocks _ hlocked ((if_pos (hmoves hmove)).trans (if_pos ((inBand_eq_true_iff _ _).mpr hlow))),
      fun hlocked hmove hhigh => hlocks _ hlocked ((if_pos (hmoves hmove)).trans (if_neg ?_))⟩
    · rw [hc, bandAtLockout_of_drag hdrag, clearByTime_of_drag (c := heldToTop _ c) hdrag, hkept]
    · rw [hband e hno, bne_self_eq_false]
      decide
    · rw [(inBand_eq_false_iff (written (.drive v) s) e).mpr hhigh]
      decide
  case only =>
    rw [OnlyChannels, hsame.drive]
    exact onlyChannels_driveActs s.profile.drive (written (.drive v) s)
  case stays =>
    have hstays := driveActs_frame_of_same (s := written (.drive v) s) (hband s.winch.held hno)
    exact ⟨hsame.winch.trans (hstays .winch (by decide)), hsame.lamps.trans (hstays .lamps (by decide)),
      hnotices.trans (hstays .notices (by decide))⟩
  case taken =>
    obtain ⟨⟨hstalled, hgoes, hstands, hfollow⟩, -⟩ := hwinchTakes (mt (hmoved s.winch.held).mp hheld)
    rw [← hsame.winch] at hstalled hgoes hstands hfollow
    rw [← hsame.lamps] at hstands
    exact ⟨hstalled, hgoes, hstands, fun hne => hsame.lampsFollow rfl (hfollow hne)⟩
  case limit =>
    intro hentered
    by_cases hheld : inBandOf s.profile.drive s.winch.held = inBand (written (.drive v) s) s.winch.held
    · have hstays := driveActs_frame_of_same (s := written (.drive v) s) hheld
      have hwinch := hsame.winch.trans (hstays .winch (by decide))
      exact absurd (congrArg WinchUnit.state hwinch) hentered.1
    · obtain ⟨-, hraised⟩ := hwinchTakes hheld
      have hin : LimitEntered (written (.drive v) s) (driveActs s.profile.drive (written (.drive v) s)) := by
        unfold LimitEntered at hentered ⊢
        rw [hsame.winch] at hentered
        exact hentered
      exact ((hraised hin).of_notices hnotices).of_sources rfl
  case frame =>
    exact acceptWrite_frame_of .drive (.drive v) s
      (((recoveryDriveTest_frame_only _).mono (by decide)).trans ((driveActs_frame_from_test _ _).mono (by decide)))

end Sys2Proof.Machine
end

section
/-! PROOFS. An accepted PACK write in the units (R128, R137, R145), and the settling of the units' sections. -/
namespace Sys2Proof.Machine

/-! ### The cell count and the cutoff drag -/

/-- The Sense Unit after a PACK write (R128). -/
def packSensed (old : Pack) (s : State) : State := s.setSense (packSense old s.profile.pack s.sense)

/-- The first recovery condition, tested where the cell count changed (R137). -/
def packTested (old : Pack) (s : State) : State :=
  if (packSensed old s).sense.count = s.sense.count then packSensed old s else recoveryCellTest (packSensed old s)

/-- Pack Protection before its running dwells are compared with their new times (R145, log entry 51). -/
def packTaken (old : Pack) (s : State) : State := retarget (cutoffDragHanded old (packTested old s))

theorem packActs_eq (old : Pack) (s : State) : packActs old s = dwellsByTime (packTaken old s) := rfl

theorem packTested_frame (old : Pack) (s : State) : SameExcept [.sense, .protection] s (packTested old s) := by
  have hsensed : SameExcept [.sense, .protection] s (packSensed old s) := (setSense_frame_only s _).mono (by decide)
  unfold packTested
  split
  · exact hsensed
  · exact hsensed.trans ((recoveryCellTest_frame_only _).mono (by decide))

theorem packTaken_frame_tested (old : Pack) (s : State) : SameExcept [.protection] (cutoffDragHanded old (packTested old s)) (packTaken old s) :=
  retarget_frame_only _

/-- A cell count that changed in CUTOFF. -/
def Recounted (old : Pack) (s : State) : Prop :=
  (packSensed old s).sense.count ≠ s.sense.count ∧ s.protection.state = .cutoff

theorem packTested_protection (old : Pack) (s : State) :
    ∃ c r, (packTested old s).protection = { s.protection with cellOk := c, recovery := r }
      ∧ (¬Recounted old s → r = s.protection.recovery)
      ∧ (Recounted old s → r =
          if cellOkNow (packSensed old s) = true ∧ s.protection.currentOk = true ∧ s.protection.driveOk = true then
            some (s.protection.recovery.getD 0)
          else none) := by
  unfold packTested
  by_cases hcount : (packSensed old s).sense.count = s.sense.count
  · rw [if_pos hcount]
    exact ⟨s.protection.cellOk, s.protection.recovery, rfl, fun _ => rfl, fun h => absurd hcount h.1⟩
  · rw [if_neg hcount, recoveryCellTest, recoveryTest_protection]
    refine ⟨cellOkNow (packSensed old s), _, rfl, fun hno => ?_, fun h => ?_⟩
    · exact if_neg fun hcut => hno ⟨hcount, hcut⟩
    · exact if_pos h.2

/-- A resolution of another function than DRIVE moves nothing in Pack Protection (R40, R137). -/
theorem protection_resolve_of_ne {f : Fn} (h : f ≠ .drive) (byMark : Bool) (s : State) :
    (resolve f byMark s).protection = s.protection := by
  cases hbusy : consumerBusy s f with
  | true => rw [resolve_of_busy hbusy]
  | false =>
    have htaken : (takeSlots f s).protection = s.protection := takeSlots_frame f s .protection (by decide)
    rw [resolve_of_free hbusy, commitEff_eq]
    obtain ⟨p, hp, -, -, hstands⟩ := handUnderlying_eq (effOf (takeSlots f s) .drive).underlying
      (handedEntry f (entryFrom s f (effOf s f) byMark) (takeSlots f s))
    have heff : effOf (handedEntry f (entryFrom s f (effOf s f) byMark) (takeSlots f s)) .drive = effOf (takeSlots f s) .drive := by
      rw [effOf, resolver_handedEntry]
      exact effOf_setEff_ne _ (Ne.symm h) _
    rw [hp, State.setProtection_protection, hstands fun hhanded => hhanded.2 (by rw [heff]), ← htaken]
    exact handedEntry_frame f _ _ .protection (by decide)

theorem cutoffDragHanded_of_rests {old : Pack} {s : State}
    (h : ¬(s.resolver.lockout = true ∧ old.cutoffDrag ≠ s.profile.pack.cutoffDrag)) : cutoffDragHanded old s = s := if_neg h

theorem cutoffDragHanded_of_moved {old : Pack} {s : State}
    (h : s.resolver.lockout = true ∧ old.cutoffDrag ≠ s.profile.pack.cutoffDrag) :
    cutoffDragHanded old s = resolve .drag false s := if_pos h

theorem cutoffDragHanded_protection (old : Pack) (s : State) : (cutoffDragHanded old s).protection = s.protection := by
  unfold cutoffDragHanded
  split
  · exact protection_resolve_of_ne (by decide) false s
  · rfl

theorem cutoffDragHanded_profile (old : Pack) (s : State) : (cutoffDragHanded old (packTested old s)).profile = s.profile := by
  have hhanded : (cutoffDragHanded old (packTested old s)).profile = (packTested old s).profile :=
    cutoffDragHanded_frame old _ .profile (by decide)
  exact hhanded.trans (packTested_frame old s .profile (by decide))

theorem packTaken_profile (old : Pack) (s : State) : (packTaken old s).profile = s.profile := cutoffDragHanded_profile old s

/-- The target of R140's table, in the words of the rules. -/
theorem targetByTable_eq (p : Pack) (v : Protection) : targetByTable p v.thresholds v.state v.vmin v.blind = targetFor p v := by
  have hbase : (if v.state = .precheck ∨ v.state = .cutoff then p.servoReserve else
      match v.vmin with
      | none => p.servoReserve
      | some m =>
        if (v.thresholds.vcau : Int) ≤ m.volts then p.amax
        else if (v.thresholds.vcut : Int) ≤ m.volts then
          p.servoReserve + (p.amax - p.servoReserve) * (m.volts - v.thresholds.vcut).toNat / (v.thresholds.vcau - v.thresholds.vcut)
        else p.servoReserve) = baseTarget p v.thresholds v.state v.vmin := by
    unfold baseTarget
    cases v.vmin <;> rfl
  rw [targetFor, ← hbase]
  unfold targetByTable blindLimit
  cases v.vmin <;> rfl

/-- Pack Protection's record with its target recomputed (R140). -/
theorem packTaken_protection (old : Pack) (s : State) :
    ∃ c r, (packTaken old s).protection =
        { s.protection with
          cellOk := c, recovery := r, target := targetFor s.profile.pack s.protection
          allowance := min s.protection.allowance (targetFor s.profile.pack s.protection) }
      ∧ (¬Recounted old s → r = s.protection.recovery)
      ∧ (Recounted old s → r =
          if cellOkNow (packSensed old s) = true ∧ s.protection.currentOk = true ∧ s.protection.driveOk = true then
            some (s.protection.recovery.getD 0)
          else none) := by
  obtain ⟨c, r, hrecord, hstands, htested⟩ := packTested_protection old s
  refine ⟨c, r, ?_, hstands, htested⟩
  rw [packTaken, retarget_protection, cutoffDragHanded_protection, cutoffDragHanded_profile, hrecord]
  rfl

/-! ### The running dwells -/

/-- A cutoff dwell at or past its new time enters CUTOFF (R145). -/
theorem dwellsByTime_of_cuts {s : State} {n : Nat} (hjudging : judging s.protection.state = true) (hdwell : s.protection.dwell = some n)
    (hover : s.profile.pack.cutoffDwell ≤ n) : dwellsByTime s = enterCutoff .undervolt s := by
  have hruns := dwellExpires_of_runs hjudging (by rw [hdwell]; rfl)
  rw [dwellsByTime, hdwell]
  exact (if_pos hover).trans hruns

/-- A recovery dwell at or past its new time leaves CUTOFF (R145). -/
theorem dwellsByTime_of_recovers {s : State} {n : Nat} (hstate : s.protection.state = .cutoff) (hdwell : s.protection.dwell = none)
    (hrecovery : s.protection.recovery = some n) (hover : s.profile.pack.recoveryDwell ≤ n) : dwellsByTime s = leaveCutoff s := by
  rw [dwellsByTime, hdwell, hrecovery]
  exact (if_pos hover).trans (if_pos ⟨hstate, by rw [hrecovery]; rfl⟩)

/-- Otherwise the dwells run on. -/
theorem dwellsByTime_of_rests {s : State}
    (hcuts : ∀ n, s.protection.dwell = some n → s.profile.pack.cutoffDwell ≤ n → judging s.protection.state = false)
    (hrecovers : ∀ n, s.protection.dwell = none → s.protection.recovery = some n → s.profile.pack.recoveryDwell ≤ n →
      s.protection.state ≠ .cutoff) : dwellsByTime s = s := by
  unfold dwellsByTime
  cases hdwell : s.protection.dwell with
  | some n =>
    dsimp only
    split
    next hover => exact dwellExpires_of_rests (.inr (hcuts n hdwell hover))
    next => rfl
  | none =>
    cases hrecovery : s.protection.recovery with
    | none => rfl
    | some n =>
      dsimp only
      split
      next hover => exact if_neg fun h => hrecovers n hdwell hrecovery hover h.1
      next => rfl

/-- What the end of CUTOFF leaves (R138). -/
theorem leaveCutoff_leaves (s : State) :
    (leaveCutoff s).protection.state = .normal ∧ (leaveCutoff s).retained.latch = none ∧ (leaveCutoff s).protection.recovery = none
      ∧ (leaveCutoff s).resolver.lockout = false ∧ Raised .packState s (leaveCutoff s) := by
  have hemptied := (resolverKept_normal none).emptyLockout (fun _ h => h) (s := cutoffCleared s) ⟨rfl, rfl⟩
  have hframe := leaveCutoff_frame_emptied s
  have hprotection : (leaveCutoff s).protection = (retarget (emptyLockout (cutoffCleared s))).protection := raised_ends_protection _
  have hretained : (emptyLockout (cutoffCleared s)).retained = { s.retained with latch := none } := emptyLockout_frame _ .retained (by decide)
  have hprofile : (emptyLockout (cutoffCleared s)).profile = s.profile := emptyLockout_frame _ .profile (by decide)
  have hraised : Raised .packState (emptyLockout (cutoffCleared s)) (raise .packState (retarget (emptyLockout (cutoffCleared s)))) :=
    (raised_raise .packState _).of_profile rfl
  refine ⟨by rw [hprotection]; exact hemptied.1, ?_, by rw [hprotection]; exact hemptied.2, ?_,
    (hraised.of_profile hprofile).of_notices (lampResolve_frame _ .notices (by decide))⟩
  · rw [(hframe .retained (by decide) : (leaveCutoff s).retained = _), hretained]
  · rw [(hframe .resolver (by decide) : (leaveCutoff s).resolver = _)]
    exact (visited_resolveList (f := .drive) (by decide) (by decide) (fun _ => false) _).deciders.lockout

/-! ### The write -/

theorem bne_eq_decide_ne {α : Type} [DecidableEq α] (a b : α) : (a != b) = decide (b ≠ a) := by
  rw [Bool.eq_iff_iff, bne_iff_ne, decide_eq_true_iff]
  exact ne_comm

theorem packSense_eq (old new : Pack) (n : Sense) : packSense old new n =
    { n with
      count :=
        if new.cellCount = old.cellCount then n.count else if new.cellCount = 0 then none else some new.cellCount
      checkDue :=
        n.checkDue || decide (new.cellCount ≠ old.cellCount) || decide (new.leadThreshold ≠ old.leadThreshold) } := by
  unfold packSense fixedCount
  rw [bne_eq_decide_ne, bne_eq_decide_ne, if_congr eq_comm rfl rfl]

theorem sense_acceptWrite (v : Pack) (s : State) :
    (acceptWrite .pack (.pack v) (heard s)).sense = packSense s.profile.pack v s.sense := by
  have hsense : (acceptWrite .pack (.pack v) (heard s)).sense = (packActs s.profile.pack (written (.pack v) s)).sense :=
    acceptWrite_frame_acted .pack (.pack v) (heard s) .sense (by decide)
  exact hsense.trans (packActs_sense _ _)

theorem sensingActs_acceptWrite (v : Pack) (s : State) : SensingActs s (acceptWrite .pack (.pack v) (heard s)) := by
  unfold SensingActs
  rw [acceptWrite_profile, sense_acceptWrite]
  exact packSense_eq s.profile.pack v s.sense

/-- The cutoff drag under the lockout (R41, R145). -/
theorem effective_cutoffDragHanded {old : Pack} {s : State} (hlock : s.resolver.lockout = true)
    (h : old.cutoffDrag ≠ s.profile.pack.cutoffDrag) : effective (cutoffDragHanded old s) .drag = s.profile.pack.cutoffDrag := by
  have hlocked : locked s .drag = true := by rw [locked, hlock]; rfl
  rw [cutoffDragHanded_of_moved ⟨hlock, h⟩, effective, effOf_resolve_of_free (consumerBusy_of_ne (by decide) s),
    entryFrom_of_locked hlocked]
  rfl

theorem effOf_cutoffDragHanded_ne {f : Fn} (h : f ≠ .drag) (old : Pack) (s : State) : effOf (cutoffDragHanded old s) f = effOf s f := by
  unfold cutoffDragHanded
  split
  · exact effOf_resolve_ne h false s
  · rfl

theorem judging_iff_or (st : ProtState) : judging st = true ↔ st = .normal ∨ st = .caution ∨ st = .shed := by
  cases st <;> decide

/-- The recovery dwell of a written PACK section is not 0 (R145). -/
theorem recoveryDwell_pos_of_check {body : List Byte} {v : Pack} (h : checkBody .pack body = .ok (.pack v)) :
    0 < v.recoveryDwell := by
  rw [checkBody] at h
  cases hcheck : checkPack body with
  | error c => rw [hcheck] at h; cases h
  | ok w =>
    rw [hcheck] at h
    cases h
    unfold checkPack at hcheck
    dsimp only at hcheck
    split at hcheck
    · cases hcheck
    · split at hcheck
      · cases hcheck
        have hbounds : 1000 ≤ clampN 1000 30000 (u16 body 53) := (clampN_bounds (by decide) _).1
        exact Nat.lt_of_lt_of_le (by decide) hbounds
      · cases hcheck

theorem packActs_acceptWrite {v : Pack} (hdwell : 0 < v.recoveryDwell) (s : State) :
    PackActs s (acceptWrite .pack (.pack v) (heard s)) := by
  have hfrom := acceptWrite_frame_acted .pack (.pack v) (heard s)
  obtain ⟨c, r, hrecord, hstands, htested⟩ := packTaken_protection s.profile.pack (written (.pack v) s)
  have hprofile := packTaken_profile s.profile.pack (written (.pack v) s)
  have hmeasures := sameMeasures_packActs s.profile.pack (written (.pack v) s)
  have hmeasured : (acceptWrite .pack (.pack v) (heard s)).protection = _ := hfrom .protection (by decide)
  have hcellOk : cellOkNow (packSensed s.profile.pack (written (.pack v) s)) = true ↔ _ := cellOkNow_iff _
  have hbefore : SameExcept [.sense, .comp, .profile, .protection] s (packTested s.profile.pack (written (.pack v) s)) :=
    ((written_frame _ s).mono (by decide)).trans ((packTested_frame _ _).mono (by decide))
  have hactsTo {x : State} (h : dwellsByTime (packTaken s.profile.pack (written (.pack v) s)) = x) :
      SameExcept [.store, .compPort] x (acceptWrite .pack (.pack v) (heard s)) := h ▸ hfrom
  unfold PackActs
  rw [acceptWrite_profile, sense_acceptWrite]
  intro new p judging cellOk counted holds cuts recovers
  have hjudging : Machine.judging (packTaken s.profile.pack (written (.pack v) s)).protection.state = true ↔ judging := by
    rw [hrecord]
    exact judging_iff_or p.state
  have hholds : (cellOkNow (packSensed s.profile.pack (written (.pack v) s)) = true
      ∧ (written (.pack v) s).protection.currentOk = true ∧ (written (.pack v) s).protection.driveOk = true) ↔ holds :=
    and_congr hcellOk Iff.rfl
  have hrecounted : Recounted s.profile.pack (written (.pack v) s) ↔ counted := Iff.rfl
  have hrunning (h : counted) (hh : holds) : r = some (p.recovery.getD 0) := (htested (hrecounted.mpr h)).trans (if_pos (hholds.mpr hh))
  have hstopped (h : counted) (hh : ¬holds) : r = none := (htested (hrecounted.mpr h)).trans (if_neg (mt hholds.mp hh))
  have hsources : s.profile.sources = (packTaken s.profile.pack (written (.pack v) s)).profile.sources := by rw [hprofile]; rfl
  refine ⟨fun hcuts => ?cuts, fun hrecovers => ?recovers, fun hno hstay hdwells => ?rests, ?thresholds, ?current, ?frame⟩
  case cuts =>
    obtain ⟨hjudges, n, hn, hover⟩ := hcuts
    have hto := hactsTo (dwellsByTime_of_cuts (hjudging.mpr hjudges) (by rw [hrecord]; exact hn) (by rw [hprofile]; exact hover))
    have hlocks {f : Fn} (hf : lockable f = true) : effective (acceptWrite .pack (.pack v) (heard s)) f
        = lockValue (packTaken s.profile.pack (written (.pack v) s)) f :=
      (hto.effective (by decide) f).trans (enterCutoff_locks hf _ _).2.2
    obtain ⟨d, hcut⟩ := enterCutoff_protection .undervolt (packTaken s.profile.pack (written (.pack v) s))
    have hprotection : (acceptWrite .pack (.pack v) (heard s)).protection = _ := hto .protection (by decide)
    rw [hcut] at hprotection
    refine ⟨by rw [hprotection], ?_, by rw [hprotection], ?_, hlocks rfl, hlocks rfl, ?_, ?_⟩
    · exact (congrArg Retained.latch (hto .retained (by decide))).trans (enterCutoff_retained _ _)
    · exact (congrArg Resolver.lockout (hto .resolver (by decide))).trans (enterCutoff_lockout _ _)
    · rw [hlocks rfl, lockValue, if_pos rfl, hprofile]
    · exact ((raised_enterCutoff .undervolt _).of_notices (hto .notices (by decide))).of_sources hsources
  case recovers =>
    obtain ⟨hcut, hnone, hready, n, hn, hover⟩ := hrecovers
    have hr : r = some n := by
      by_cases h : counted
      · rw [hrunning h (hready h), hn]
        rfl
      · exact (hstands (mt hrecounted.mp h)).trans hn
    have hto := hactsTo (dwellsByTime_of_recovers (by rw [hrecord]; exact hcut) (by rw [hrecord]; exact hnone)
      (by rw [hrecord]; exact hr) (by rw [hprofile]; exact hover))
    obtain ⟨hstate, hlatch, hrecovery, hlockout, hraised⟩ := leaveCutoff_leaves (packTaken s.profile.pack (written (.pack v) s))
    exact ⟨(congrArg Protection.state (hto .protection (by decide))).trans hstate,
      (congrArg Retained.latch (hto .retained (by decide))).trans hlatch,
      (congrArg Protection.recovery (hto .protection (by decide))).trans hrecovery,
      (congrArg Resolver.lockout (hto .resolver (by decide))).trans hlockout,
      (hraised.of_notices (hto .notices (by decide))).of_sources hsources⟩
  case rests =>
    have hto := hactsTo (dwellsByTime_of_rests
      (fun n hn hover => by
        rw [hrecord] at hn
        rw [hprofile] at hover
        exact Bool.eq_false_iff.mpr fun hj => hno ⟨hjudging.mp hj, n, hn, hover⟩)
      (fun n hnone hn hover hcut => by
        rw [hrecord] at hnone hn hcut
        rw [hprofile] at hover
        by_cases h : counted
        · by_cases hh : holds
          · have hrn : some (p.recovery.getD 0) = some n := (hrunning h hh).symm.trans hn
            cases hp : p.recovery with
            | none =>
              rw [hp] at hrn
              cases hrn
              exact absurd hover (Nat.not_le.mpr hdwell)
            | some m =>
              rw [hp] at hrn
              exact hstay ⟨hcut, hnone, fun _ => hh, m, hp, by cases hrn; exact hover⟩
          · exact absurd ((hstopped h hh).symm.trans hn) (fun h => nomatch h)
        · exact hstay ⟨hcut, hnone, fun hc => absurd hc h, n, (hstands (mt hrecounted.mp h)).symm.trans hn, hover⟩))
    have hprotection : (acceptWrite .pack (.pack v) (heard s)).protection = _ := hto .protection (by decide)
    rw [hrecord] at hprotection
    have hhanded : SameExcept [.protection, .store, .compPort] (cutoffDragHanded s.profile.pack (packTested s.profile.pack (written (.pack v) s)))
        (acceptWrite .pack (.pack v) (heard s)) :=
      ((packTaken_frame_tested _ _).mono (by decide)).trans (hto.mono (by decide))
    have htestedProfile : (packTested s.profile.pack (written (.pack v) s)).profile = (written (.pack v) s).profile :=
      packTested_frame _ _ .profile (by decide)
    have hresolver : (packTested s.profile.pack (written (.pack v) s)).resolver = s.resolver := hbefore .resolver (by decide)
    have hretained : (acceptWrite .pack (.pack v) (heard s)).retained = s.retained := by
      have hdrag : (cutoffDragHanded s.profile.pack (packTested s.profile.pack (written (.pack v) s))).retained
          = (packTested s.profile.pack (written (.pack v) s)).retained := cutoffDragHanded_frame _ _ .retained (by decide)
      have hafter : (acceptWrite .pack (.pack v) (heard s)).retained = _ := hhanded .retained (by decide)
      exact hafter.trans (hdrag.trans (hbefore .retained (by decide)))
    refine ⟨by rw [hprotection]; rfl, hretained, by rw [hprotection]; rfl, by rw [hprotection]; rfl, by rw [hprotection]; rfl,
      fun h hh => ?_, fun h hh => ?_, fun h => ?_, ?_, ?_, fun hlock hne => ?_, fun h => ?_, fun f hf => ?_⟩
    · rw [hprotection]
      exact hrunning h hh
    · rw [hprotection]
      exact hstopped h hh
    · rw [hprotection]
      exact hstands (mt hrecounted.mp h)
    · rw [hprotection]
      exact (targetByTable_eq v p).symm
    · rw [hprotection]
      rfl
    · rw [hhanded.effective (by decide), effective_cutoffDragHanded (by rw [hresolver]; exact hlock)
        (by rw [htestedProfile]; exact Ne.symm hne), htestedProfile]
    · rw [(hhanded .resolver (by decide) : (acceptWrite .pack (.pack v) (heard s)).resolver = _), cutoffDragHanded_of_rests, hresolver]
      rw [hresolver, htestedProfile]
      exact fun hmoved => h.elim (fun h => by rw [h] at hmoved; exact absurd hmoved.1 (by decide)) fun h => hmoved.2 h.symm
    · rw [hhanded.effOf (by decide), effOf_cutoffDragHanded_ne hf, hbefore.effOf (by decide)]
  case thresholds =>
    rw [hmeasured]
    exact hmeasures.thresholds
  case current =>
    rw [hmeasured]
    exact hmeasures.ip
  case frame =>
    have hacts : SameExcept (.sense :: packTouches) (written (.pack v) s) (packActs s.profile.pack (written (.pack v) s)) :=
      ((setSense_frame_only _ _).mono (by decide)).trans ((cutoffDragHanded_packActs_frame s.profile.pack _).mono (by decide))
    exact (acceptWrite_frame_of .pack (.pack v) s hacts).mono (by decide)

/-- Settles O17. -/
theorem unitSectionsAct : Obligations.UnitSectionsAct := by
  intro s sect k body hpasses
  obtain ⟨d, hd, hsect, hexec⟩ := exec_of_passes hpasses
  refine ⟨_, hexec, fun hk => ?_, fun hk => ?_, fun hk => ?_, fun hk => ?_, fun hk => ?_, fun hk => ?_, fun hk => ?_⟩
  · have hrests : sectionActs s.profile d (written d s) = written d s := by
      obtain rfl | rfl := hk <;> cases d <;> cases hsect <;> rfl
    exact acceptWrite_frame_of_rests k hrests
  all_goals
    subst hk
    cases d <;> cases hsect
  · exact acceptWrite_frame_of_rests _ (geometryActs_of_parked hpasses.parked)
  · exact driveActs_acceptWrite hpasses.parked _
  · exact winchActs_acceptWrite _ s
  · exact ⟨sensingActs_acceptWrite _ s, packActs_acceptWrite (recoveryDwell_pos_of_check hd) s⟩
  · exact ⟨(sameHanding_acceptWrite .lamps (.lamps _) s).lampsFollow rfl (lampsFollow_lampResolve rfl),
      (acceptWrite_frame_of .lamps (.lamps _) s (lampResolve_frame _)).mono (by decide)⟩
  case scene.refl i scene =>
    have hnumber : fieldAt body 0 1 = i.val := by
      have hlow := hpasses.scene rfl
      cases hd
      rw [fieldAt_one] at hlow ⊢
      exact (Nat.mod_eq_of_lt (by omega)).symm
    rw [hnumber]
    exact scenesAct_acceptWrite i scene s

end Sys2Proof.Machine
end
